-- ==== Sys2Proof/Word.lean ====
section
/-! DEFINITION. The words of the LT10: bytes of the console link, lane numbers, planes of a board cell.
Times are whole counts of 100 µs and are plain naturals (00 Conventions, Time). -/

namespace Sys2Proof

/-- One byte of the console link (11.2). -/
abbrev Byte := BitVec 8

/-- A lane number, 0 to 9 across the pool (00 Conventions, Lanes). -/
abbrev Lane := Fin 10

/-- A row of board memory or of the display, 0 to 11 from the top (R156). -/
abbrev Row := Fin 12

/-- A character code, 0 to 127 (R156). -/
abbrev CharCode := BitVec 7

/-- A colour: bit 2 red, bit 1 green, bit 0 blue (R156, 11.7 Board cell). -/
abbrev Colour := BitVec 3

/-- The ten lanes in lane order. -/
def allLanes : List Lane := [0, 1, 2, 3, 4, 5, 6, 7, 8, 9]

/-- The twelve rows from the top. -/
def allRows : List Row := [0, 1, 2, 3, 4, 5, 6, 7, 8, 9, 10, 11]

end Sys2Proof
end

