-- ==== Sys2Proof/Syntax.lean ====
section
/-! DEFINITION. The commands of the LT10: one constructor of `Instr` for each row of spec/opcode_table.json.
A console command carries the payload bytes of its frame (11.6); a row that the table singles out of a command by
one code (LAMP, AMEND_RESTORE, BRIGHTNESS …) carries what is left of that payload. -/

namespace Sys2Proof

/-- The two ends of the pool (00 Conventions, Ends). -/
inductive PoolEnd where
  | start
  | turn
deriving DecidableEq, Repr

/-- The four lamp patterns (R44). -/
inductive Lamp where
  | off
  | on
  | slow
  | fast
deriving DecidableEq, Repr

/-- The 81 contact lines of the Lane Port Unit (R37). Button numbers 1 to 3 are the values 0 to 2 here. -/
inductive Line where
  | pad (lane : Lane) (side : PoolEnd)
  | button (lane : Lane) (side : PoolEnd) (button : Fin 3)
  | startLine
deriving DecidableEq, Repr

/-- A frame of the console link without its sync, length and check bytes (R177). -/
structure Frame where
  kind : Byte
  payload : List Byte
deriving DecidableEq, Repr

/-- The payload bytes of a console command (11.6). -/
abbrev Payload := List Byte

/-- One constructor per row of spec/opcode_table.json. -/
inductive Instr where
  -- resets (R36, R37, R185)
  | powerOn
  | resetLineAssert
  | resetLineRelease
  -- the console link (R177 to R185)
  | frameReceived (bytes : List Byte)
  | frameGapTimeout
  | unknownKind (kind : Byte) (payload : Payload)
  | lineFrameEnd
  | controllerResetTakesEffect
  | linkSpeedChange
  | identAsk (payload : Payload)
  | statusAsk (payload : Payload)
  | linkSet (payload : Payload)
  | controllerReset (payload : Payload)
  -- the race (chapters 01 and 02)
  | programLoad (payload : Payload)
  | programAsk (payload : Payload)
  | raceArm (payload : Payload)
  | startManual (payload : Payload)
  | raceRecall (payload : Payload)
  | raceClose (payload : Payload)
  | resultsRelease (payload : Payload)
  | raceClear (payload : Payload)
  -- the lane ports (chapter 03)
  | groupMode (payload : Payload)
  | lamp (lane : Lane) (side : PoolEnd) (pattern : Lamp)
  | padEnable (lane : Lane) (side : PoolEnd) (enabled : Bool)
  | buttonEnable (lane : Lane) (side : PoolEnd) (enabled : Bool)
  | linesAsk (payload : Payload)
  -- the platforms (chapter 04)
  | platformZero (payload : Payload)
  | zeroingComplete
  | platformLimits (payload : Payload)
  | platformAsk (payload : Payload)
  | samplerSet (payload : Payload)
  -- lanes, results, amendments (chapters 05, 06, 08)
  | laneAsk (payload : Payload)
  | wallsAsk (payload : Payload)
  | resultsAsk (payload : Payload)
  | amendDisqualify (lane code : Byte) (time : BitVec 32)
  | amendDidNotStart (lane code : Byte) (time : BitVec 32)
  | amendRestore (lane code : Byte) (time : BitVec 32)
  | amendTimeWall (lane code : Byte) (time : BitVec 32)
  -- the log (chapter 09)
  | logRead (payload : Payload)
  | logClear (payload : Payload)
  -- the board (chapter 10)
  | boardMode (payload : Payload)
  | boardArea (payload : Payload)
  | boardMask (payload : Payload)
  | boardWrite (payload : Payload)
  | boardRead (payload : Payload)
  | boardClear (payload : Payload)
  | boardClearStop (payload : Payload)
  | boardLayout (payload : Payload)
  | brightness (value : Byte)
  | blank (value : Byte)
  | selfTest (value : Byte)
  | moduleReset (value : Byte)
  -- pool events (chapters 03, 04, 07)
  | padPress (lane : Lane) (side : PoolEnd)
  | buttonPress (lane : Lane) (side : PoolEnd) (button : Fin 3)
  | startLineEdge
  | lineRelease (line : Line)
  | stuckTimerExpiry (lane : Lane) (side : PoolEnd)
  | platformConversion (side : PoolEnd) (reading : Fin 1024)
  | takeoff (side : PoolEnd) (lane : Lane)
  -- timers and refresh (chapters 02, 05, 06, 10)
  | armTimerExpiry (lane : Lane)
  | closeTimerExpiry (lane : Lane)
  | clockSaturation
  | prestartClockLimit
  | freezeEnd
  | clearRowFill
  | boardFrameEnd
  | clockRowDue
  | contactLineSample (line : Line) (pressed : Bool)
  -- the refused forms of LINE_SET, AMEND and BOARD_MODULE
  | lineSet (payload : Payload)
  | amend (payload : Payload)
  | boardModule (payload : Payload)
deriving DecidableEq, Repr

end Sys2Proof
end

