-- ==== Sys2Proof/Decode.lean ====
section
/-! DEFINITION. Reading commands: the catalogue of command kinds (11.6), the row a frame of the console link spells,
the frame a row is carried in, and the codes of ends, lanes, lamps and enables (11.7). The opcode table gives no bits
to any row, so `decodeTableWord` reads nothing. -/

namespace Sys2Proof

/-- Code of an end: START 0, TURN 1 (11.7). -/
def PoolEnd.code : PoolEnd → Byte
  | .start => 0
  | .turn => 1

/-- The end a code names, absent for a code the LT10 does not know. -/
def sideOfCode (b : Byte) : Option PoolEnd :=
  match b.toNat with
  | 0 => some .start
  | 1 => some .turn
  | _ => none

/-- Code of a lane: its number. -/
def laneCode (l : Lane) : Byte := BitVec.ofNat 8 l.val

/-- The lane a code names, absent above 9. -/
def laneOfCode (b : Byte) : Option Lane :=
  if h : b.toNat < 10 then some ⟨b.toNat, h⟩ else none

/-- Code of a lamp pattern: OFF 0, ON 1, SLOW 2, FAST 3 (11.7). -/
def Lamp.code : Lamp → Byte
  | .off => 0
  | .on => 1
  | .slow => 2
  | .fast => 3

/-- The lamp pattern a code names. -/
def lampOfCode (b : Byte) : Option Lamp :=
  match b.toNat with
  | 0 => some .off
  | 1 => some .on
  | 2 => some .slow
  | 3 => some .fast
  | _ => none

/-- Code of an on/off setting, an enable or a flag: 0 or 1 (11.7). -/
def boolCode (b : Bool) : Byte := if b then 1 else 0

/-- The setting a code names. -/
def boolOfCode (b : Byte) : Option Bool :=
  match b.toNat with
  | 0 => some false
  | 1 => some true
  | _ => none

/-- The kind bytes of 11.6. -/
def kindIdentAsk : Byte := 0x01
def kindStatusAsk : Byte := 0x02
def kindLinkSet : Byte := 0x03
def kindControllerReset : Byte := 0x04
def kindProgramLoad : Byte := 0x10
def kindProgramAsk : Byte := 0x11
def kindRaceArm : Byte := 0x12
def kindStartManual : Byte := 0x13
def kindRaceRecall : Byte := 0x14
def kindRaceClose : Byte := 0x15
def kindResultsRelease : Byte := 0x16
def kindRaceClear : Byte := 0x17
def kindGroupMode : Byte := 0x20
def kindLineSet : Byte := 0x21
def kindLinesAsk : Byte := 0x22
def kindPlatformZero : Byte := 0x28
def kindPlatformLimits : Byte := 0x29
def kindPlatformAsk : Byte := 0x2A
def kindSamplerSet : Byte := 0x2B
def kindLaneAsk : Byte := 0x30
def kindWallsAsk : Byte := 0x31
def kindResultsAsk : Byte := 0x32
def kindAmend : Byte := 0x33
def kindLogRead : Byte := 0x38
def kindLogClear : Byte := 0x39
def kindBoardMode : Byte := 0x40
def kindBoardArea : Byte := 0x41
def kindBoardMask : Byte := 0x42
def kindBoardWrite : Byte := 0x43
def kindBoardRead : Byte := 0x44
def kindBoardClear : Byte := 0x45
def kindBoardClearStop : Byte := 0x46
def kindBoardLayout : Byte := 0x47
def kindBoardModule : Byte := 0x48

/-- The payload length 11.6 gives for a command kind, absent when the kind is no command kind. For BOARD_WRITE the
length is 1 + 2 × the count byte, the payload's first. -/
def payloadLength (kind : Byte) (payload : Payload) : Option Nat :=
  match kind.toNat with
  | 0x01 => some 0
  | 0x02 => some 0
  | 0x03 => some 2
  | 0x04 => some 0
  | 0x10 => some 27
  | 0x11 => some 0
  | 0x12 => some 0
  | 0x13 => some 0
  | 0x14 => some 0
  | 0x15 => some 0
  | 0x16 => some 0
  | 0x17 => some 0
  | 0x20 => some 2
  | 0x21 => some 4
  | 0x22 => some 1
  | 0x28 => some 0
  | 0x29 => some 5
  | 0x2A => some 2
  | 0x2B => some 2
  | 0x30 => some 1
  | 0x31 => some 3
  | 0x32 => some 1
  | 0x33 => some 7
  | 0x38 => some 1
  | 0x39 => some 0
  | 0x40 => some 3
  | 0x41 => some 5
  | 0x42 => some 9
  | 0x43 => some (1 + 2 * (payload.getD 0 0).toNat)
  | 0x44 => some 1
  | 0x45 => some 2
  | 0x46 => some 0
  | 0x47 => some 9
  | 0x48 => some 2
  | _ => none

/-- The row of a LINE_SET payload: LAMP, PAD_ENABLE or BUTTON_ENABLE when all four codes are known and the value
belongs to its target (R45); absent for the refused forms. -/
def lineSetRow : Payload → Option Instr
  | [l, e, t, v] =>
    match laneOfCode l, sideOfCode e, t.toNat with
    | some lane, some side, 0 => (lampOfCode v).map (Instr.lamp lane side)
    | some lane, some side, 1 => (boolOfCode v).map (Instr.padEnable lane side)
    | some lane, some side, 2 => (boolOfCode v).map (Instr.buttonEnable lane side)
    | _, _, _ => none
  | _ => none

/-- Four bytes, most significant first, as one number (00 Conventions, Messages). -/
def joinBytes (a b c d : Byte) : BitVec 32 := a ++ b ++ c ++ d

/-- The four bytes of a number, most significant first. -/
def splitBytes (w : BitVec 32) : Payload :=
  [w.extractLsb' 24 8, w.extractLsb' 16 8, w.extractLsb' 8 8, w.extractLsb' 0 8]

/-- The row of an AMEND payload, by its action code (R138, 11.6); absent for an unknown action. -/
def amendRow : Payload → Option Instr
  | [l, action, code, a, b, c, d] =>
    match action.toNat with
    | 0 => some (.amendDisqualify l code (joinBytes a b c d))
    | 1 => some (.amendDidNotStart l code (joinBytes a b c d))
    | 2 => some (.amendRestore l code (joinBytes a b c d))
    | 3 => some (.amendTimeWall l code (joinBytes a b c d))
    | _ => none
  | _ => none

/-- The row of a BOARD_MODULE payload, by its index (R174); absent for an index above 3. -/
def boardModuleRow : Payload → Option Instr
  | [index, value] =>
    match index.toNat with
    | 0 => some (.brightness value)
    | 1 => some (.blank value)
    | 2 => some (.selfTest value)
    | 3 => some (.moduleReset value)
    | _ => none
  | _ => none

/-- The row that takes a frame of the console link (R179): the command its kind names (11.6), or UNKNOWN_KIND. -/
def commandOf (f : Frame) : Instr :=
  match f.kind.toNat with
  | 0x01 => .identAsk f.payload
  | 0x02 => .statusAsk f.payload
  | 0x03 => .linkSet f.payload
  | 0x04 => .controllerReset f.payload
  | 0x10 => .programLoad f.payload
  | 0x11 => .programAsk f.payload
  | 0x12 => .raceArm f.payload
  | 0x13 => .startManual f.payload
  | 0x14 => .raceRecall f.payload
  | 0x15 => .raceClose f.payload
  | 0x16 => .resultsRelease f.payload
  | 0x17 => .raceClear f.payload
  | 0x20 => .groupMode f.payload
  | 0x21 => (lineSetRow f.payload).getD (.lineSet f.payload)
  | 0x22 => .linesAsk f.payload
  | 0x28 => .platformZero f.payload
  | 0x29 => .platformLimits f.payload
  | 0x2A => .platformAsk f.payload
  | 0x2B => .samplerSet f.payload
  | 0x30 => .laneAsk f.payload
  | 0x31 => .wallsAsk f.payload
  | 0x32 => .resultsAsk f.payload
  | 0x33 => (amendRow f.payload).getD (.amend f.payload)
  | 0x38 => .logRead f.payload
  | 0x39 => .logClear f.payload
  | 0x40 => .boardMode f.payload
  | 0x41 => .boardArea f.payload
  | 0x42 => .boardMask f.payload
  | 0x43 => .boardWrite f.payload
  | 0x44 => .boardRead f.payload
  | 0x45 => .boardClear f.payload
  | 0x46 => .boardClearStop f.payload
  | 0x47 => .boardLayout f.payload
  | 0x48 => (boardModuleRow f.payload).getD (.boardModule f.payload)
  | _ => .unknownKind f.kind f.payload

/-- The frame that carries a console command (11.6); absent for a row that is no console command. -/
def frameOf : Instr → Option Frame
  | .unknownKind k p => some ⟨k, p⟩
  | .identAsk p => some ⟨kindIdentAsk, p⟩
  | .statusAsk p => some ⟨kindStatusAsk, p⟩
  | .linkSet p => some ⟨kindLinkSet, p⟩
  | .controllerReset p => some ⟨kindControllerReset, p⟩
  | .programLoad p => some ⟨kindProgramLoad, p⟩
  | .programAsk p => some ⟨kindProgramAsk, p⟩
  | .raceArm p => some ⟨kindRaceArm, p⟩
  | .startManual p => some ⟨kindStartManual, p⟩
  | .raceRecall p => some ⟨kindRaceRecall, p⟩
  | .raceClose p => some ⟨kindRaceClose, p⟩
  | .resultsRelease p => some ⟨kindResultsRelease, p⟩
  | .raceClear p => some ⟨kindRaceClear, p⟩
  | .groupMode p => some ⟨kindGroupMode, p⟩
  | .lamp l e v => some ⟨kindLineSet, [laneCode l, e.code, 0, v.code]⟩
  | .padEnable l e v => some ⟨kindLineSet, [laneCode l, e.code, 1, boolCode v]⟩
  | .buttonEnable l e v => some ⟨kindLineSet, [laneCode l, e.code, 2, boolCode v]⟩
  | .lineSet p => some ⟨kindLineSet, p⟩
  | .linesAsk p => some ⟨kindLinesAsk, p⟩
  | .platformZero p => some ⟨kindPlatformZero, p⟩
  | .platformLimits p => some ⟨kindPlatformLimits, p⟩
  | .platformAsk p => some ⟨kindPlatformAsk, p⟩
  | .samplerSet p => some ⟨kindSamplerSet, p⟩
  | .laneAsk p => some ⟨kindLaneAsk, p⟩
  | .wallsAsk p => some ⟨kindWallsAsk, p⟩
  | .resultsAsk p => some ⟨kindResultsAsk, p⟩
  | .amendDisqualify l c t => some ⟨kindAmend, [l, 0, c] ++ splitBytes t⟩
  | .amendDidNotStart l c t => some ⟨kindAmend, [l, 1, c] ++ splitBytes t⟩
  | .amendRestore l c t => some ⟨kindAmend, [l, 2, c] ++ splitBytes t⟩
  | .amendTimeWall l c t => some ⟨kindAmend, [l, 3, c] ++ splitBytes t⟩
  | .amend p => some ⟨kindAmend, p⟩
  | .logRead p => some ⟨kindLogRead, p⟩
  | .logClear p => some ⟨kindLogClear, p⟩
  | .boardMode p => some ⟨kindBoardMode, p⟩
  | .boardArea p => some ⟨kindBoardArea, p⟩
  | .boardMask p => some ⟨kindBoardMask, p⟩
  | .boardWrite p => some ⟨kindBoardWrite, p⟩
  | .boardRead p => some ⟨kindBoardRead, p⟩
  | .boardClear p => some ⟨kindBoardClear, p⟩
  | .boardClearStop p => some ⟨kindBoardClearStop, p⟩
  | .boardLayout p => some ⟨kindBoardLayout, p⟩
  | .brightness v => some ⟨kindBoardModule, [0, v]⟩
  | .blank v => some ⟨kindBoardModule, [1, v]⟩
  | .selfTest v => some ⟨kindBoardModule, [2, v]⟩
  | .moduleReset v => some ⟨kindBoardModule, [3, v]⟩
  | .boardModule p => some ⟨kindBoardModule, p⟩
  | .powerOn | .resetLineAssert | .resetLineRelease => none
  | .frameReceived _ | .frameGapTimeout | .lineFrameEnd => none
  | .controllerResetTakesEffect | .linkSpeedChange | .zeroingComplete => none
  | .padPress _ _ | .buttonPress _ _ _ | .startLineEdge | .lineRelease _ => none
  | .stuckTimerExpiry _ _ | .platformConversion _ _ | .takeoff _ _ => none
  | .armTimerExpiry _ | .closeTimerExpiry _ | .clockSaturation | .prestartClockLimit => none
  | .freezeEnd | .clearRowFill | .boardFrameEnd | .clockRowDue => none
  | .contactLineSample _ _ => none

/-- The command a word spells by the table's bits. spec/opcode_table.json gives bits to no row, so no word spells
one. -/
def decodeTableWord (_nbits _w : Nat) : Option Instr := none

end Sys2Proof
end

