-- ==== Sys2Proof/Config.lean ====
section
/-! DEFINITION. What an LT10 fixes: the constants the chapters name, and the free values the spec leaves open. -/

namespace Sys2Proof.Config

/-- The largest race-clock value, 35,999,999 counts (00 Conventions, R17). -/
def maxCount : Nat := 35999999

/-- The largest magnitude of a reaction or an exchange margin (00 Conventions, R111, R120). -/
def maxSigned : Int := 99999

/-- The stuck limit while no program is in force (R11). -/
def defaultStuckLimit : Nat := 100000

/-- Default thresholds of a sampler (R59, R68). -/
def defaultLoad : Nat := 300
def defaultRelease : Nat := 150

/-- A full-scale platform reading (R54). -/
def fullScale : Nat := 1023

/-- Capacity of the Event Log and the fill at which the notice is given (R151, R152). -/
def logCapacity : Nat := 512
def logNotice : Nat := 384

/-- Where the 16-bit counters stop (R151, R177, R178). -/
def counterMax : Nat := 65535

/-- Places in the inbound buffer and the report queue (R178, R181). -/
def inboundPlaces : Nat := 2
def queuePlaces : Nat := 32

/-- Durations in counts of 100 µs: row frame 2.0 ms, command frame 0.5 ms, clock row 100 ms (R172), clear row 1 ms
(R162), gap 20 ms (R177). -/
def rowFrameCounts : Nat := 20
def commandFrameCounts : Nat := 5
def clockRowCounts : Nat := 1000
def clearRowCounts : Nat := 10
def gapCounts : Nat := 200

/-- Counts in a second (00 Conventions, Time). -/
def countsPerSecond : Nat := 10000

/-- The four line speeds in baud, by speed code (R176, R184). -/
def baud (code : Fin 4) : Nat :=
  match code with
  | 0 => 9600
  | 1 => 38400
  | 2 => 115200
  | 3 => 460800

/-- FREE VALUE. The length byte of a frame whose kind and payload are longer than the 250 bytes a frame can hold
(R177); only the RESULTS_ASK reply of a lane with many resolved walls can be so long (R146), and the spec does not
say what is sent. DESIGN CHOICE, notes/assumptions/9.md. -/
opaque overlongLengthByte : Nat → Byte

/-- FREE VALUE. Whether the waiting command is taken first or the transmitter chooses first when a reply ends with a
command in the inbound buffer and a report in the queue: R180 takes the two in either order. The argument is the number
of replies ended before. DESIGN CHOICE, notes/assumptions/17.md. -/
opaque commandFirst : Nat → Bool

end Sys2Proof.Config
end

