-- ==== Sys2Proof/Machine/State.lean ====
section
/-! DEFINITION. What the LT10 holds: one structure for each block of the module, `State` over all of them, and the
state after power-on. Plain data throughout; INVENTORY.md lists each item with its rule and its reset value. -/

namespace Sys2Proof.Machine

/-! ### Race program and race state (chapters 01, 02) -/

/-- How leg 1 starts (R5). -/
inductive StartKind where
  | platform
  | inWater
deriving DecidableEq, Repr

/-- How backup presses treat a pad time (table 1.1). -/
inductive Policy where
  | fill
  | checked
deriving DecidableEq, Repr

/-- The race program (table 1.1). `lanes` has bit l set when lane l is in the race; `station` is absent for NONE;
times are in counts. -/
structure Program where
  eventId : Nat
  lanes : BitVec 10
  lengths : Nat
  legs : Nat
  startKind : StartKind
  station : Option PoolEnd
  policy : Policy
  armDelay : Nat
  window : Nat
  disagree : Nat
  floor : Nat
  tolerance : Nat
  stuckLimit : Nat
deriving DecidableEq, Repr

/-- The race states (2.1). -/
inductive RaceState where
  | empty
  | loaded
  | armed
  | running
  | complete
  | official
deriving DecidableEq, Repr

/-- The start source (R16). -/
inductive StartSource where
  | line
  | manual
deriving DecidableEq, Repr

/-- The phases of the race clock (R17). -/
inductive ClockPhase where
  | stopped
  | prestart
  | running
  | held
deriving DecidableEq, Repr

/-- The race clock (R17). -/
structure Clock where
  phase : ClockPhase
  value : Nat
deriving DecidableEq, Repr

/-- A stamp with its phase; a NONE stamp has no value (R19). -/
inductive Stamp where
  | pre (value : Nat)
  | race (value : Nat)
  | none
deriving DecidableEq, Repr

/-! ### Lane ports (chapter 03) -/

/-- The mode of a lane group (R42). -/
inductive GroupMode where
  | level
  | timed
deriving DecidableEq, Repr

/-- The lane groups (R42). -/
inductive Group where
  | low
  | high
deriving DecidableEq, Repr

/-- The recognition state of a contact line; PRESS_SEEN holds the candidate stamp (R38). -/
inductive LineState where
  | released
  | pressSeen (candidate : Stamp)
  | pressed
  | releaseSeen
deriving DecidableEq, Repr

/-- What the Lane Port Unit holds for one lane end. `held` is the stuck timer: absent when stopped, else the counts
since the first pressed sample (R49). -/
structure LaneEnd where
  pad : LineState
  buttons : Vector LineState 3
  held : Option Nat
  stuck : Bool
  lamp : Lamp
  padOn : Bool
  buttonsOn : Bool
deriving DecidableEq, Repr

/-- One item for each end of the pool. -/
structure Ends (α : Type) where
  start : α
  turn : α
deriving DecidableEq, Repr

/-- The Lane Port Unit. `blink` is the blink base, a count from 0 to 9,999 (R44). -/
structure Ports where
  low : GroupMode
  high : GroupMode
  startLine : LineState
  lanes : Vector (Ends LaneEnd) 10
  blink : Nat
deriving DecidableEq, Repr

/-! ### Platform samplers (chapter 04) -/

/-- One platform channel (4.1). `loaded` is the platform state, `watch` the leg it is watched for. -/
structure Channel where
  raw : Nat
  corrected : Nat
  offset : Nat
  loaded : Bool
  watch : Option Nat
  fault : Bool
  fullRun : Nat
  goodRun : Nat
deriving DecidableEq, Repr

/-- One Platform Sampler (4.1). `rotation` is the rotation position (R53, R68); `convertedLane` gives the channel that is
converted at it. `spent` says that there is nothing left to convert in this count. -/
structure Sampler where
  enabled : Bool
  load : Nat
  release : Nat
  rotation : Lane
  spent : Bool
  channels : Vector Channel 10
deriving DecidableEq, Repr

/-- A zeroing in progress (R57): for each sampler that takes part, the lanes whose zeroing conversion is still to
come; and the lane ends skipped so far. -/
structure Zeroing where
  left : Ends (Option (List Lane))
  skipped : List (Lane × PoolEnd)
deriving DecidableEq, Repr

/-- A takeoff on its way to the Lane Engine (R61, R62; notes/assumptions/32.md). -/
structure Takeoff where
  side : PoolEnd
  lane : Lane
  leg : Nat
  stamp : Stamp
deriving DecidableEq, Repr

/-! ### Lane contexts (chapters 05 to 08) -/

/-- The status of a lane (R70). -/
inductive LaneStatus where
  | idle
  | ready
  | swimming
  | finished
  | noTime
  | disqualified
  | didNotStart
deriving DecidableEq, Repr

/-- An expected wall (R72, R73). `armed` is its phase; `everArmed` says whether its first arming has been (R74). -/
structure ExpectedWall where
  index : Nat
  side : PoolEnd
  armTime : Nat
  armed : Bool
  everArmed : Bool
deriving DecidableEq, Repr

/-- A backup press of a press list (R95). -/
structure Press where
  button : Fin 3
  stamp : Nat
deriving DecidableEq, Repr

/-- A collecting wall (R91). -/
structure CollectingWall where
  index : Nat
  side : PoolEnd
  pad : Option Nat
  presses : List Press
  closeTime : Nat
deriving DecidableEq, Repr

/-- Where a wall's official time comes from (R69). -/
inductive WallSource where
  | pad
  | backupMedian
  | backupMean
  | backupSingle
  | hand
deriving DecidableEq, Repr

/-- A wall record (R69). -/
structure WallRecord where
  index : Nat
  side : PoolEnd
  official : Nat
  source : WallSource
  pad : Option Nat
  backup : Option Nat
  presses : Nat
  disagree : Bool
deriving DecidableEq, Repr

/-- A pending takeoff (R69). -/
structure PendingTakeoff where
  leg : Nat
  stamp : Stamp
deriving DecidableEq, Repr

/-- The verdict of an exchange (R69). -/
inductive Verdict where
  | pending
  | legal
  | early
  | unjudged
deriving DecidableEq, Repr

/-- The record of one leg from 2 on (R69). -/
structure LegRecord where
  verdict : Verdict
  margin : Option Int
deriving DecidableEq, Repr

/-- A judgement: a cause with its detail (R130). -/
inductive Judgement where
  | earlyStart (reaction : Int)
  | earlyTakeoff (leg : Nat) (margin : Int)
  | suspectStart (reaction : Int)
  | unjudged (leg : Nat)
  | padDisagree (wall : Nat)
  | backupTimed (wall : Nat)
  | handTimed (wall : Nat)
  | padStuck (side : PoolEnd)
deriving DecidableEq, Repr

/-- A final time (R87). -/
structure Final where
  time : Nat
  confirmed : Bool
deriving DecidableEq, Repr

/-- A lane context (R69). `legs` holds leg 2 first; `judgements` stands in priority order, so its first entry is the
primary cause (R131). -/
structure LaneContext where
  status : LaneStatus
  expected : Option ExpectedWall
  collecting : Option CollectingWall
  resolved : List WallRecord
  takeoff : Option PendingTakeoff
  reaction : Option Int
  source : Option StartSource
  legs : List LegRecord
  judgements : List Judgement
  final : Option Final
deriving DecidableEq, Repr

/-- The amendment record of a lane (R139). -/
structure Amendment where
  code : Option Nat
  amended : Bool
deriving DecidableEq, Repr

/-- The Result Unit (R135, R136, R139). `places` are the last ranked places. -/
structure Results where
  order : List Lane
  places : Vector (Option Nat) 10
  amend : Vector Amendment 10
deriving DecidableEq, Repr

/-! ### Event log (chapter 09) -/

/-- Why an input was ignored (R149). -/
inductive Reason where
  | notRunning
  | notArmedRace
  | notInRace
  | laneDone
  | repeatTouch
  | wrongEnd
  | notArmed
  | notStation
  | repeatButton
  | noOpenWall
deriving DecidableEq, Repr

/-- The disposition of an input (R149). -/
inductive Disposition where
  | accepted
  | ignored (reason : Reason)
deriving DecidableEq, Repr

/-- The source of a log entry, with the lane, end and button it carries (R149). -/
inductive LogSource where
  | pad (lane : Lane) (side : PoolEnd)
  | button (lane : Lane) (side : PoolEnd) (button : Fin 3)
  | platform (lane : Lane) (side : PoolEnd)
  | start
deriving DecidableEq, Repr

/-- A log entry (R149). -/
structure LogEntry where
  seq : Nat
  stamp : Stamp
  source : LogSource
  wall : Option Nat
  disposition : Disposition
deriving DecidableEq, Repr

/-- The Event Log (R150 to R152); the oldest entry is first. -/
structure EventLog where
  entries : List LogEntry
  counter : Nat
  dropped : Nat
  armed : Bool
deriving DecidableEq, Repr

/-! ### Reports (11.4) -/

/-- Causes of a RACE_NOTE (R35). -/
inductive RaceCause where
  | load
  | arm
  | startLine
  | startManual
  | recall
  | completion
  | close
  | overrun
  | release
  | clear
deriving DecidableEq, Repr

/-- The use of an accepted touch (R85). -/
inductive TouchUse where
  | resolved
  | collecting
  | padTime
deriving DecidableEq, Repr

/-- What resolved a wall (R86). -/
inductive WallCause where
  | touch
  | closeTimer
  | hand
  | close
  | amend
deriving DecidableEq, Repr

/-- A fault with its place (R181). -/
inductive FaultPlace where
  | clockOverrun
  | padStuck (lane : Lane) (side : PoolEnd)
  | platform (lane : Lane) (side : PoolEnd)
deriving DecidableEq, Repr

/-- One entry of a RANK_NOTE (R137). -/
structure RankEntry where
  lane : Lane
  place : Nat
  hundredths : Nat
  confirmed : Bool
deriving DecidableEq, Repr

/-- The reports with their fields (R35, R85, R86, R133, R137, R132, R181, R152). -/
inductive Report where
  | race (state previous : RaceState) (cause : RaceCause) (eventId clock : Nat) (source : Option StartSource)
  | touch (lane : Lane) (side : PoolEnd) (wall stamp : Nat) (use : TouchUse) (final : Bool)
  | wall (lane : Lane) (cause : WallCause) (record : WallRecord)
  | finish (lane : Lane) (status : LaneStatus) (final : Nat) (confirmed : Bool) (previous : Option Nat)
  | rank (entries : List RankEntry)
  | judge (lane : Lane) (added primary : Judgement) (held : Nat)
  | fault (place : FaultPlace) (raised : Bool)
  | log (fill seq dropped : Nat)
deriving DecidableEq, Repr

/-! ### Board (chapter 10) -/

/-- A cell of board memory (R156). -/
structure Cell where
  code : CharCode
  colour : Colour
deriving DecidableEq, Repr

/-- The 32 cells of a row. -/
abbrev CellRow := Vector Cell 32

/-- A rectangle with both corners included (R157, R159). -/
structure Rect where
  x0 : Nat
  y0 : Nat
  x1 : Nat
  y1 : Nat
deriving DecidableEq, Repr

/-- The cursor: column and row (R158). -/
structure Cursor where
  x : Nat
  y : Nat
deriving DecidableEq, Repr

/-- The mode of the window mask (R159). -/
inductive WindowMode where
  | off
  | inside
  | outside
deriving DecidableEq, Repr

/-- The window mask (R159). -/
structure Window where
  mode : WindowMode
  rect : Rect
deriving DecidableEq, Repr

/-- The plane mask: a true lock holds its plane (R159). -/
structure Locks where
  red : Bool
  green : Bool
  blue : Bool
  char : Bool
deriving DecidableEq, Repr

/-- A clear in progress (R162). `wait` is the counts left to the next row. -/
structure Clear where
  fill : Cell
  nextRow : Nat
  wait : Nat
deriving DecidableEq, Repr

/-- The order mode (R164). -/
inductive OrderMode where
  | byLane
  | byPlace
deriving DecidableEq, Repr

/-- The conflict policy (R164, R173). -/
inductive ConflictPolicy where
  | hold
  | restart
deriving DecidableEq, Repr

/-- The layout (R164). -/
structure Layout where
  laneRows : Bool
  order : OrderMode
  placeCol : Nat
  markCol : Nat
  timeCol : Nat
  clockRow : Bool
  clockCol : Nat
  freezeSeconds : Nat
  policy : ConflictPolicy
deriving DecidableEq, Repr

/-- A freeze in force: the frozen final and the end moment, a race-clock value (R168). -/
structure Freeze where
  final : Nat
  endMoment : Nat
deriving DecidableEq, Repr

/-- The board modes (R171). -/
inductive BoardMode where
  | off
  | test
  | live
  | partialBand (first last : Row)
deriving DecidableEq, Repr

/-- A command frame to the modules (R174). -/
inductive ModuleCommand where
  | brightness (level : Nat)
  | blank (on : Bool)
  | selfTest
  | moduleReset
deriving DecidableEq, Repr

/-- The frame on the module chain (R172): a BLANK frame of the mode frame slot, a module command, a row frame with
its content, or a test frame with its content (R171). `restarted` says that the selection has been restarted (R173). -/
inductive ChainContent where
  | mode (blankOn : Bool)
  | command (command : ModuleCommand)
  | row (display : Row) (cells : CellRow)
  | test (display : Row) (cells : CellRow)
deriving DecidableEq, Repr

/-- The frame in progress with the counts left to its end. -/
structure ChainFrame where
  content : ChainContent
  left : Nat
  restarted : Bool
deriving DecidableEq, Repr

/-- The Board Controller (R175). -/
structure Board where
  cells : Vector CellRow 12
  area : Rect
  cursor : Cursor
  window : Window
  locks : Locks
  clear : Option Clear
  layout : Layout
  freeze : Option Freeze
  spent : Bool
  map : Vector Row 12
  dirty : Vector Bool 12
  mode : BoardMode
  modeSlot : Option Bool
  moduleSlot : Option ModuleCommand
  chain : Option ChainFrame
  rotation : Row
  sinceRow1 : Nat
deriving DecidableEq, Repr

/-! ### Console link (chapter 11) -/

/-- The receiver (R177). IN_FRAME holds the bytes gathered after the sync byte and the counts since the last byte. -/
inductive Receiver where
  | hunting
  | inFrame (bytes : List Byte) (gap : Nat)
deriving DecidableEq, Repr

/-- Result codes of a reply (R179). -/
inductive ResultCode where
  | done
  | unknownKind
  | badLength
  | badState
  | badValue
  | busy
deriving DecidableEq, Repr

/-- A reply: the command's kind, the result code, the data (R179). -/
structure Reply where
  kind : Byte
  code : ResultCode
  data : List Byte
deriving DecidableEq, Repr

/-- The reply slot: empty, occupied by a PLATFORM_ZERO whose reply is held back (R56), or holding a reply (R179). -/
inductive ReplySlot where
  | empty
  | zeroing
  | holding (reply : Reply)
deriving DecidableEq, Repr

/-- The frame on the line (R180). `left` is the time left to its last byte, in ten-thousandths of a bit time. -/
structure LineFrame where
  isReply : Bool
  bytes : List Byte
  left : Nat
deriving DecidableEq, Repr

/-- What happens when the reply in the slot has been sent (R184, R185). -/
inductive LinkEffect where
  | speed (code : Fin 4)
  | reset
deriving DecidableEq, Repr

/-- The Console Link (R176 to R186). `choices` is the model's own: it counts the ends of replies, and the free value
`Config.commandFirst` is taken at it (notes/assumptions/17.md). -/
structure Link where
  speed : Fin 4
  enables : BitVec 8
  rx : Receiver
  inbound : List Frame
  slot : ReplySlot
  line : Option LineFrame
  queue : List Report
  summary : BitVec 9
  checkFail : Nat
  overrunCount : Nat
  effect : Option LinkEffect
  effectDue : Bool
  choices : Nat
deriving DecidableEq, Repr

/-! ### The whole machine -/

/-- Why a step would stop the machine: nothing does. The spec gives every row an effect in every state, so there is
no constructor. -/
inductive Fault
deriving DecidableEq, Repr

/-- Why a row has no meaning. -/
inductive Refusal where
  /-- Raised by `exec` alone, for a row that has no meaning yet. Safe: the machine stops where the LT10 goes on. No
  row of this model answers with it. -/
  | notModelled (mnemonic : String)
deriving DecidableEq, Repr

/-- Everything the LT10 holds, and the queue of commands waiting. -/
structure State where
  pending : List Instr
  resetHeld : Bool
  program : Option Program
  race : RaceState
  source : Option StartSource
  overrun : Bool
  startMark : Option Nat
  clock : Clock
  ports : Ports
  samplers : Ends Sampler
  zeroing : Option Zeroing
  takeoffs : List Takeoff
  lanes : Vector LaneContext 10
  results : Results
  log : EventLog
  board : Board
  link : Link
deriving DecidableEq, Repr

/-! ### Values after power-on -/

/-- A lane end after reset (R52). -/
def LaneEnd.reset : LaneEnd :=
  { pad := .released, buttons := Vector.replicate 3 .released, held := none, stuck := false, lamp := .off,
    padOn := true, buttonsOn := true }

/-- The Lane Port Unit after reset (R52). -/
def Ports.reset : Ports :=
  { low := .level, high := .level, startLine := .released,
    lanes := Vector.replicate 10 ⟨LaneEnd.reset, LaneEnd.reset⟩, blink := 0 }

/-- A platform channel after power-on (R68). -/
def Channel.reset : Channel :=
  { raw := 0, corrected := 0, offset := 0, loaded := false, watch := none, fault := false, fullRun := 0,
    goodRun := 0 }

/-- A sampler after power-on (R68). -/
def Sampler.reset : Sampler :=
  { enabled := true, load := Config.defaultLoad, release := Config.defaultRelease, rotation := 0, spent := false,
    channels := Vector.replicate 10 Channel.reset }

/-- An empty context, status IDLE, with no leg records (R90). -/
def LaneContext.reset : LaneContext :=
  { status := .idle, expected := none, collecting := none, resolved := [], takeoff := none, reaction := none,
    source := none, legs := [], judgements := [], final := none }

/-- The Result Unit after reset (R147). -/
def Results.reset : Results :=
  { order := [], places := Vector.replicate 10 none, amend := Vector.replicate 10 ⟨none, false⟩ }

/-- The Event Log after reset (R155). -/
def EventLog.reset : EventLog :=
  { entries := [], counter := 0, dropped := 0, armed := true }

/-- A blank cell: code 32, colour 7 (R156). -/
def Cell.blank : Cell := { code := 32, colour := 7 }

/-- What a test frame carries: every cell code 127 in colour 7 (R171). -/
def testRow : CellRow := Vector.replicate 32 { code := 127, colour := 7 }

/-- The default layout (R164). -/
def Layout.reset : Layout :=
  { laneRows := true, order := .byLane, placeCol := 0, markCol := 23, timeCol := 24, clockRow := true, clockCol := 12,
    freezeSeconds := 5, policy := .hold }

/-- The whole of board memory as a rectangle (R157). -/
def Rect.whole : Rect := { x0 := 0, y0 := 0, x1 := 31, y1 := 11 }

/-- The Board Controller after reset (R175). -/
def Board.reset : Board :=
  { cells := Vector.replicate 12 (Vector.replicate 32 Cell.blank)
    area := Rect.whole
    cursor := ⟨0, 0⟩
    window := ⟨.off, Rect.whole⟩
    locks := ⟨false, false, false, false⟩
    clear := none
    layout := Layout.reset
    freeze := none
    spent := false
    map := #v[0, 1, 2, 3, 4, 5, 6, 7, 8, 9, 10, 11]
    dirty := Vector.replicate 12 false
    mode := .off
    modeSlot := some true
    moduleSlot := none
    chain := none
    rotation := 11
    sinceRow1 := Config.clockRowCounts }

/-- The Console Link after power-on (R186): 115,200 baud, all kinds enabled, RESET alone in the summary set. -/
def Link.reset : Link :=
  { speed := 2, enables := 0xFF, rx := .hunting, inbound := [], slot := .empty, line := none, queue := [],
    summary := 0x100, checkFail := 0, overrunCount := 0, effect := none, effectDue := false,
    choices := 0 }

/-- The LT10 right after power-on (R16, R17, R36, R52, R68, R90, R147, R155, R175, R186). -/
def State.reset : State :=
  { pending := []
    resetHeld := false
    program := none
    race := .empty
    source := none
    overrun := false
    startMark := none
    clock := ⟨.stopped, 0⟩
    ports := Ports.reset
    samplers := ⟨Sampler.reset, Sampler.reset⟩
    zeroing := none
    takeoffs := []
    lanes := Vector.replicate 10 LaneContext.reset
    results := Results.reset
    log := EventLog.reset
    board := Board.reset
    link := Link.reset }

end Sys2Proof.Machine
end

