-- ==== Sys2Proof/Machine/Encode.lean ====
section
/-! DEFINITION. The layouts of 11.7: how numbers, optional fields, codes, records, reports and frames are written as
bytes on the console link. -/

namespace Sys2Proof.Machine

/-! ### Numbers and optional fields -/

/-- A one-byte number. -/
def be8 (n : Nat) : List Byte := [BitVec.ofNat 8 n]

/-- Two bytes, most significant first. -/
def be16 (n : Nat) : List Byte := [BitVec.ofNat 8 (n / 256), BitVec.ofNat 8 n]

/-- Three bytes, most significant first. -/
def be24 (n : Nat) : List Byte := [BitVec.ofNat 8 (n / 65536), BitVec.ofNat 8 (n / 256), BitVec.ofNat 8 n]

/-- Four bytes, most significant first. -/
def be32 (n : Nat) : List Byte :=
  [BitVec.ofNat 8 (n / 16777216), BitVec.ofNat 8 (n / 65536), BitVec.ofNat 8 (n / 256), BitVec.ofNat 8 n]

/-- A signed count in four bytes of two's complement. -/
def beSigned (i : Int) : List Byte := be32 (BitVec.ofInt 32 i).toNat

/-- An optional one-byte field: 0xFF when absent. -/
def optByte (o : Option Byte) : Byte := o.getD 0xFF

/-- An optional field of more than one byte: a presence byte, then the field, 0 when absent. -/
def optField (size : Nat) (o : Option (List Byte)) : List Byte :=
  match o with
  | none => 0 :: List.replicate size 0
  | some bytes => 1 :: bytes

/-- An optional time. -/
def optTime (o : Option Nat) : List Byte := optField 4 (o.map be32)

/-- An optional signed count. -/
def optSigned (o : Option Int) : List Byte := optField 4 (o.map beSigned)

/-- A list of entries preceded by a one-byte count of them. -/
def counted (entries : List (List Byte)) : List Byte := BitVec.ofNat 8 entries.length :: entries.flatten

/-- A set of lane ends in three bytes, bit lane × 2 + end (R182, 11.7). -/
def laneEndSet (has : Lane → PoolEnd → Bool) : List Byte :=
  be24 (allLanes.foldl (fun n l =>
    n + (if has l .start then 2 ^ (l.val * 2) else 0) + (if has l .turn then 2 ^ (l.val * 2 + 1) else 0)) 0)

/-! ### Codes -/

/-- Race states (R182). -/
def RaceState.code : RaceState → Byte
  | .empty => 0
  | .loaded => 1
  | .armed => 2
  | .running => 3
  | .complete => 4
  | .official => 5

/-- Clock phases (R182). -/
def ClockPhase.code : ClockPhase → Byte
  | .stopped => 0
  | .prestart => 1
  | .running => 2
  | .held => 3

/-- Start kinds (program record). -/
def StartKind.code : StartKind → Byte
  | .platform => 0
  | .inWater => 1

/-- Station end: START 0, TURN 1, NONE 2 (program record). -/
def stationCode : Option PoolEnd → Byte
  | some side => side.code
  | none => 2

/-- Policies (program record). -/
def Policy.code : Policy → Byte
  | .fill => 0
  | .checked => 1

/-- Start source: absent 0xFF, LINE 0, MANUAL 1. -/
def sourceCode (o : Option StartSource) : Byte :=
  optByte (o.map fun
    | .line => 0
    | .manual => 1)

/-- Group modes. -/
def GroupMode.code : GroupMode → Byte
  | .level => 0
  | .timed => 1

/-- Lane statuses. -/
def LaneStatus.code : LaneStatus → Byte
  | .idle => 0
  | .ready => 1
  | .swimming => 2
  | .finished => 3
  | .noTime => 4
  | .disqualified => 5
  | .didNotStart => 6

/-- RACE_NOTE causes. -/
def RaceCause.code : RaceCause → Byte
  | .load => 0
  | .arm => 1
  | .startLine => 2
  | .startManual => 3
  | .recall => 4
  | .completion => 5
  | .close => 6
  | .overrun => 7
  | .release => 8
  | .clear => 9

/-- TOUCH_NOTE uses. -/
def TouchUse.code : TouchUse → Byte
  | .resolved => 0
  | .collecting => 1
  | .padTime => 2

/-- WALL_NOTE causes. -/
def WallCause.code : WallCause → Byte
  | .touch => 0
  | .closeTimer => 1
  | .hand => 2
  | .close => 3
  | .amend => 4

/-- Leg verdicts. -/
def Verdict.code : Verdict → Byte
  | .pending => 0
  | .legal => 1
  | .early => 2
  | .unjudged => 3

/-- Wall sources (wall record). -/
def WallSource.code : WallSource → Byte
  | .pad => 0
  | .backupMedian => 1
  | .backupMean => 2
  | .backupSingle => 3
  | .hand => 4

/-- Result codes of a reply (R179). -/
def ResultCode.code : ResultCode → Byte
  | .done => 0
  | .unknownKind => 1
  | .badLength => 2
  | .badState => 3
  | .badValue => 4
  | .busy => 5

/-- The priority of a judgement's cause, 1 highest (R130); it is also the cause's code. -/
def Judgement.priority : Judgement → Nat
  | .earlyStart _ => 1
  | .earlyTakeoff _ _ => 2
  | .suspectStart _ => 3
  | .unjudged _ => 4
  | .padDisagree _ => 5
  | .backupTimed _ => 6
  | .handTimed _ => 7
  | .padStuck _ => 8

/-- Code of a cause, absent 0xFF. -/
def causeCode (o : Option Judgement) : Byte := optByte (o.map fun j => BitVec.ofNat 8 j.priority)

/-- The five bytes of a judgement's detail: a leg byte and a signed value. -/
def detailBytes (o : Option Judgement) : List Byte :=
  match o with
  | none => 0xFF :: beSigned 0
  | some (.earlyStart r) => 0xFF :: beSigned r
  | some (.earlyTakeoff k m) => BitVec.ofNat 8 k :: beSigned m
  | some (.suspectStart r) => 0xFF :: beSigned r
  | some (.unjudged k) => BitVec.ofNat 8 k :: beSigned 0
  | some (.padDisagree w) => 0xFF :: beSigned w
  | some (.backupTimed w) => 0xFF :: beSigned w
  | some (.handTimed w) => 0xFF :: beSigned w
  | some (.padStuck e) => 0xFF :: beSigned e.code.toNat

/-- Stamp phases: PRE 0, RACE 1, NONE 2 (log entry). -/
def Stamp.phaseCode : Stamp → Byte
  | .pre _ => 0
  | .race _ => 1
  | .none => 2

/-- The value of a stamp, 0 for a NONE stamp. -/
def Stamp.value : Stamp → Nat
  | .pre v => v
  | .race v => v
  | .none => 0

/-- Dispositions of a log entry. -/
def Disposition.code : Disposition → Byte
  | .accepted => 0
  | .ignored .notRunning => 1
  | .ignored .notArmedRace => 2
  | .ignored .notInRace => 3
  | .ignored .laneDone => 4
  | .ignored .repeatTouch => 5
  | .ignored .wrongEnd => 6
  | .ignored .notArmed => 7
  | .ignored .notStation => 8
  | .ignored .repeatButton => 9
  | .ignored .noOpenWall => 10

/-! ### Records -/

/-- The race program record, 27 bytes. -/
def Program.bytes (p : Program) : List Byte :=
  be16 p.eventId ++ be16 p.lanes.toNat ++ be8 p.lengths ++ be8 p.legs ++ [p.startKind.code, stationCode p.station,
    p.policy.code] ++ be32 p.armDelay ++ be32 p.window ++ be16 p.disagree ++ be16 p.floor ++ be16 p.tolerance
    ++ be32 p.stuckLimit

/-- The wall record, 17 bytes. -/
def WallRecord.bytes (r : WallRecord) : List Byte :=
  be8 r.index ++ [r.side.code, r.source.code,
    BitVec.ofNat 8 ((if r.pad.isSome then 1 else 0) + (if r.backup.isSome then 2 else 0)
      + (if r.disagree then 4 else 0))]
    ++ be8 r.presses ++ be32 r.official ++ be32 (r.pad.getD 0) ++ be32 (r.backup.getD 0)

/-- Source, lane, end and button bytes of a log entry. -/
def LogSource.bytes : LogSource → List Byte
  | .pad l e => [0, laneCode l, e.code, 0]
  | .button l e b => [1, laneCode l, e.code, BitVec.ofNat 8 (b.val + 1)]
  | .platform l e => [2, laneCode l, e.code, 0]
  | .start => [3, 0xFF, 0xFF, 0]

/-- The log entry, 13 bytes. -/
def LogEntry.bytes (e : LogEntry) : List Byte :=
  be16 e.seq ++ [e.stamp.phaseCode] ++ be32 e.stamp.value ++ e.source.bytes ++ be8 (e.wall.getD 0)
    ++ [e.disposition.code]

/-- A board cell, 2 bytes. -/
def Cell.bytes (c : Cell) : List Byte := [c.code.setWidth 8, c.colour.setWidth 8]

/-! ### Reports -/

/-- The kinds 0x80 to 0x87 count from 0: the bit of the kind in the summary set and the enables (R181, R182). -/
def Report.kindIndex : Report → Nat
  | .race .. => 0
  | .touch .. => 1
  | .wall .. => 2
  | .finish .. => 3
  | .rank .. => 4
  | .judge .. => 5
  | .fault .. => 6
  | .log .. => 7

/-- Fault, lane and end bytes of a FAULT_NOTE. -/
def FaultPlace.bytes : FaultPlace → List Byte
  | .clockOverrun => [0, 0xFF, 0xFF]
  | .padStuck l e => [1, laneCode l, e.code]
  | .platform l e => [2, laneCode l, e.code]

/-- One entry of a RANK_NOTE (R137). -/
def RankEntry.bytes (e : RankEntry) : List Byte :=
  laneCode e.lane :: be8 e.place ++ be32 e.hundredths ++ [boolCode e.confirmed]

/-- A report's payload: its owning rule's fields in the order that rule lists them (R181). The number of causes held of a
JUDGE_NOTE, 1 to 8, takes one byte: 11.7 names no size for a number as small as that (DESIGN CHOICE,
notes/assumptions/10.md). -/
def Report.payload : Report → List Byte
  | .race state previous cause eventId clock source =>
    [state.code, previous.code, cause.code] ++ be16 eventId ++ be32 clock ++ [sourceCode source]
  | .touch l side index stamp use final =>
    [laneCode l, side.code] ++ be8 index ++ be32 stamp ++ [use.code, boolCode final]
  | .wall l cause r => [laneCode l, cause.code] ++ r.bytes ++ be32 (r.official / 100)
  | .finish l status final confirmed previous =>
    [laneCode l, status.code] ++ be32 final ++ be32 (final / 100) ++ [boolCode confirmed] ++ optTime previous
  | .rank entries => counted (entries.map RankEntry.bytes)
  | .judge l added primary held =>
    [laneCode l, causeCode (some added)] ++ detailBytes (some added) ++ [causeCode (some primary)]
      ++ detailBytes (some primary) ++ be8 held
  | .fault place raised => place.bytes ++ [boolCode raised]
  | .log fill seq dropped => be16 fill ++ be16 seq ++ be16 dropped

/-! ### Frames -/

/-- The sync byte (R177). -/
def syncByte : Byte := 0xA5

/-- The longest kind and payload a frame carries (R177). -/
def maxFrameLength : Nat := 250

/-- The length byte of a frame whose kind and payload are n bytes; a free value above 250 (R177,
notes/assumptions/9.md). -/
def lengthByte (n : Nat) : Byte :=
  if n ≤ maxFrameLength then BitVec.ofNat 8 n else Config.overlongLengthByte n

/-- The check byte: the bytes from the length to the check sum to 0 modulo 256 (R177). -/
def checkByte (bytes : List Byte) : Byte := 0 - bytes.sum

/-- A whole frame: sync, length, kind, payload, check. -/
def frameBytes (kind : Byte) (payload : List Byte) : List Byte :=
  let body := lengthByte (payload.length + 1) :: kind :: payload
  syncByte :: body ++ [checkByte body]

/-- The frame of a reply: kind 0x7F; the command's kind, the result code, the data (R179). -/
def Reply.frame (r : Reply) : List Byte := frameBytes 0x7F (r.kind :: r.code.code :: r.data)

/-- The frame of a report (R181). -/
def Report.frame (r : Report) : List Byte := frameBytes (0x80 + BitVec.ofNat 8 r.kindIndex) r.payload

end Sys2Proof.Machine
end

