-- ==== Sys2Proof/Machine/Geometry.lean ====
section
/-! DEFINITION. The geometry of a race (1.4): the end of a wall, the walls of a leg, exchange walls, station walls.
Nothing here is stored; each answer comes from the program in force (R12 to R14). -/

namespace Sys2Proof.Machine

/-- Odd walls lie at TURN, even walls at START (R12). -/
def wallEnd (w : Nat) : PoolEnd := if w % 2 = 1 then .turn else .start

/-- The lane is in the race (R3). -/
def Program.inRace (p : Program) (l : Lane) : Bool := p.lanes.getLsbD l.val

/-- The final wall is wall `lengths` (R12). -/
def Program.isFinal (p : Program) (w : Nat) : Bool := w = p.lengths

/-- The finish end is the end of the final wall (R12). -/
def Program.finishEnd (p : Program) : PoolEnd := wallEnd p.lengths

/-- Lengths per leg, L (R13). -/
def Program.legLength (p : Program) : Nat := p.lengths / p.legs

/-- The exchange wall of leg k, wall (k − 1)·L (R13). -/
def Program.exchangeWall (p : Program) (k : Nat) : Nat := (k - 1) * p.legLength

/-- The first wall of leg k, wall (k − 1)·L + 1 (R13). -/
def Program.firstWall (p : Program) (k : Nat) : Nat := (k - 1) * p.legLength + 1

/-- The last wall of leg k, wall k·L (R13). -/
def Program.lastWall (p : Program) (k : Nat) : Nat := k * p.legLength

/-- The legs 2 to `legs`. -/
def Program.laterLegs (p : Program) : List Nat := (List.range (p.legs - 1)).map (· + 2)

/-- The leg whose exchange wall is wall w, if any (R13). -/
def Program.exchangeLeg (p : Program) (w : Nat) : Option Nat :=
  p.laterLegs.find? fun k => p.exchangeWall k = w

/-- The leg from 2 on whose first wall is wall w, if any (R13). -/
def Program.opensLeg (p : Program) (w : Nat) : Option Nat :=
  p.laterLegs.find? fun k => p.firstWall k = w

/-- The exchange end of leg k (R13). -/
def Program.exchangeEnd (p : Program) (k : Nat) : PoolEnd := wallEnd (p.exchangeWall k)

/-- Wall w is a station wall: it lies at the station end (R14). -/
def Program.isStation (p : Program) (w : Nat) : Bool := p.station = some (wallEnd w)

/-- The group of a lane: LOW holds lanes 0 to 4, HIGH lanes 5 to 9 (R42). -/
def groupOf (l : Lane) : Group := if l.val < 5 then .low else .high

/-- Hundredths: counts divided by 100, rounded down (00 Conventions). -/
def hundredths (counts : Nat) : Nat := counts / 100

end Sys2Proof.Machine
end

