-- ==== Sys2Proof/Machine/Flags.lean ====
section
/-! DEFINITION. The flags, levels and sets that are computed from what the LT10 holds: recognised levels, lamp outputs,
the ready line, the fault sets and the dirty count of STATUS_ASK, primary causes and terminal lanes. -/

namespace Sys2Proof.Machine

/-! ### Access to the halves and lanes -/

/-- The item of one end. -/
def Ends.get {α : Type} (e : Ends α) : PoolEnd → α
  | .start => e.start
  | .turn => e.turn

/-- One end's item replaced. -/
def Ends.set {α : Type} (e : Ends α) (side : PoolEnd) (x : α) : Ends α :=
  match side with
  | .start => { e with start := x }
  | .turn => { e with turn := x }

/-- What the Lane Port Unit holds for a lane end. -/
def Ports.laneEnd (p : Ports) (l : Lane) (side : PoolEnd) : LaneEnd := p.lanes[l].get side

/-- The mode of a group. -/
def Ports.mode (p : Ports) : Group → GroupMode
  | .low => p.low
  | .high => p.high

/-- The mode of a lane's group (R42). -/
def Ports.laneMode (p : Ports) (l : Lane) : GroupMode := p.mode (groupOf l)

/-- The sampler of an end. -/
def State.sampler (s : State) (side : PoolEnd) : Sampler := s.samplers.get side

/-- The platform channel of a lane end. -/
def State.channel (s : State) (side : PoolEnd) (l : Lane) : Channel := (s.sampler side).channels[l]

/-- The context of a lane. -/
def State.context (s : State) (l : Lane) : LaneContext := s.lanes[l]

/-- The lane is in the race of the program in force (R3). -/
def State.inRace (s : State) (l : Lane) : Bool :=
  match s.program with
  | some p => p.inRace l
  | none => false

/-! ### Lines and lamps -/

/-- The recognised level: pressed in PRESSED and RELEASE_SEEN (R38). -/
def LineState.isPressed : LineState → Bool
  | .released => false
  | .pressSeen _ => false
  | .pressed => true
  | .releaseSeen => true

/-- The stuck limit in force (R11). -/
def State.stuckLimit (s : State) : Nat :=
  match s.program with
  | some p => p.stuckLimit
  | none => Config.defaultStuckLimit

/-- Whether a pattern is lit at a point of the blink base: SLOW 500 ms lit of 1 s, FAST 125 ms lit of 250 ms (R44). R44 does
not say which half comes first nor how the two are aligned: the model lights both from base 0 on (DESIGN CHOICE,
notes/assumptions/27.md). -/
def lampLit (pattern : Lamp) (blink : Nat) : Bool :=
  match pattern with
  | .off => false
  | .on => true
  | .slow => blink % 10000 < 5000
  | .fast => blink % 2500 < 1250

/-- The lamp output of a lane end: dark while the reset line is held (R37, R44). -/
def State.lampOutput (s : State) (l : Lane) (side : PoolEnd) : Bool :=
  !s.resetHeld && lampLit (s.ports.laneEnd l side).lamp s.ports.blink

/-- The ready line: asserted while the inbound buffer holds fewer than two frames, deasserted while the reset line is
held (R176, R178). -/
def State.readyLine (s : State) : Bool := !s.resetHeld && decide (s.link.inbound.length < Config.inboundPlaces)

/-! ### Status sets -/

/-- The PAD_STUCK set of STATUS_ASK (R50, R182). -/
def State.stuckSet (s : State) : List Byte := laneEndSet fun l side => (s.ports.laneEnd l side).stuck

/-- The PLATFORM_FAULT set of STATUS_ASK (R63, R182). -/
def State.platformFaultSet (s : State) : List Byte := laneEndSet fun l side => (s.channel side l).fault

/-- The board-busy flag: a clear is in progress (R163). -/
def Board.busy (b : Board) : Bool := b.clear.isSome

/-- The number of dirty display rows (R170). -/
def Board.dirtyCount (b : Board) : Nat := b.dirty.toList.count true

/-! ### Lanes -/

/-- The primary cause is the cause of highest priority; the judgements stand in priority order (R131). -/
def LaneContext.primary (c : LaneContext) : Option Judgement := c.judgements.head?

/-- The final is confirmed. -/
def LaneContext.confirmed (c : LaneContext) : Bool :=
  match c.final with
  | some f => f.confirmed
  | none => false

/-- SWIMMING, or FINISHED awaiting resolution: the statuses that take touches (R70, R77). -/
def LaneContext.takesTouches (c : LaneContext) : Bool :=
  match c.status with
  | .swimming => true
  | .finished => !c.confirmed
  | _ => false

/-- DISQUALIFIED or DID_NOT_START. -/
def LaneStatus.isOut : LaneStatus → Bool
  | .disqualified => true
  | .didNotStart => true
  | _ => false

/-- A terminal lane (R28, R70). -/
def LaneContext.terminal (c : LaneContext) : Bool :=
  match c.status with
  | .finished => c.confirmed
  | .noTime => true
  | .disqualified => true
  | .didNotStart => true
  | _ => false

/-- The final in hundredths (R133). -/
def LaneContext.finalHundredths (c : LaneContext) : Option Nat := c.final.map fun f => hundredths f.time

/-- The official time of the last resolved wall, absent when none is resolved. -/
def LaneContext.lastOfficial (c : LaneContext) : Option Nat := c.resolved.getLast?.map WallRecord.official

/-- The leg record of leg k, from 2 on. -/
def LaneContext.leg (c : LaneContext) (k : Nat) : Option LegRecord :=
  if 2 ≤ k then c.legs[k - 2]? else none

/-- The record of wall w, if it is resolved. -/
def LaneContext.wallRecord (c : LaneContext) (w : Nat) : Option WallRecord := c.resolved.find? fun r => r.index = w

/-- The collecting wall at an end. -/
def LaneContext.collectingAt (c : LaneContext) (side : PoolEnd) : Option CollectingWall :=
  c.collecting.filter fun w => w.side = side

/-- The expected wall at an end. -/
def LaneContext.expectedAt (c : LaneContext) (side : PoolEnd) : Option ExpectedWall :=
  c.expected.filter fun w => w.side = side

/-- Completion's condition: every lane in the race is terminal and no lane has a collecting wall (R28). -/
def State.allDone (s : State) : Bool :=
  allLanes.all fun l => (!s.inRace l || (s.context l).terminal) && (s.context l).collecting.isNone

/-- The stamp a sample taken now carries (R19). -/
def Clock.reading (c : Clock) : Stamp :=
  match c.phase with
  | .prestart => .pre c.value
  | .running => .race c.value
  | .stopped => .none
  | .held => .none

end Sys2Proof.Machine
end

