-- ==== Sys2Proof/Machine/Operands.lean ====
section
/-! DEFINITION. Reading the operands of a command from its payload: numbers most significant byte first, the race
program record with its structural tests and clamping (1.1 to 1.3), and the codes of 11.7 that only commands carry. -/

namespace Sys2Proof.Machine

/-- Byte i of a payload. -/
def byteAt (p : Payload) (i : Nat) : Byte := p.getD i 0

/-- The number in byte i. -/
def num8 (p : Payload) (i : Nat) : Nat := (byteAt p i).toNat

/-- The number in bytes i and i + 1. -/
def num16 (p : Payload) (i : Nat) : Nat := num8 p i * 256 + num8 p (i + 1)

/-- The number in the four bytes from i. -/
def num32 (p : Payload) (i : Nat) : Nat := num16 p i * 65536 + num16 p (i + 2)

/-- A value clamped to a range (00 Conventions, Ranges). -/
def clampTo (low high n : Nat) : Nat := max low (min high n)

/-! ### The race program record -/

/-- The number of the first structural field that fails its test, in field order (R3, R4, R5). -/
def firstBadField (p : Payload) : Option Nat :=
  if num16 p 2 = 0 ∨ 1024 ≤ num16 p 2 then some 2
  else if num8 p 4 = 0 ∨ 64 < num8 p 4 then some 3
  else if num8 p 5 = 0 ∨ 4 < num8 p 5 ∨ num8 p 4 % num8 p 5 ≠ 0 then some 4
  else if 1 < num8 p 6 then some 5
  else if 2 < num8 p 7 then some 6
  else if 1 < num8 p 8 then some 7
  else none

/-- The record a payload carries, before clamping (11.7). The codes are those of a record that passed
`firstBadField`. -/
def recordOf (p : Payload) : Program :=
  { eventId := num16 p 0
    lanes := BitVec.ofNat 10 (num16 p 2)
    lengths := num8 p 4
    legs := num8 p 5
    startKind := if num8 p 6 = 0 then .platform else .inWater
    station := sideOfCode (byteAt p 7)
    policy := if num8 p 8 = 0 then .fill else .checked
    armDelay := num32 p 9
    window := num32 p 13
    disagree := num16 p 17
    floor := num16 p 19
    tolerance := num16 p 21
    stuckLimit := num32 p 23 }

/-- The timing settings clamped to their ranges (R7). -/
def Program.clampTimes (r : Program) : Program :=
  { r with
    armDelay := clampTo 10000 1200000 r.armDelay
    window := clampTo 10000 100000 r.window
    disagree := clampTo 100 10000 r.disagree
    floor := clampTo 0 5000 r.floor
    tolerance := clampTo 0 1000 r.tolerance
    stuckLimit := clampTo 10000 600000 r.stuckLimit }

/-- arm_delay raised to backup_window when there is a station end (R8). -/
def Program.raiseArmDelay (r : Program) : Program :=
  { r with armDelay := if r.station.isSome then max r.armDelay r.window else r.armDelay }

/-- The record as it is stored (R7, R8). -/
def storedProgram (p : Payload) : Program := (recordOf p).clampTimes.raiseArmDelay

/-- The clamped flag of a load: a stored timing setting differs from the one sent (R9). -/
def clampedFlag (p : Payload) : Bool := storedProgram p ≠ recordOf p

/-! ### Codes -/

/-- Group codes: LOW 0, HIGH 1. -/
def groupOfCode (b : Byte) : Option Group :=
  match b.toNat with
  | 0 => some .low
  | 1 => some .high
  | _ => none

/-- Group modes: LEVEL 0, TIMED 1. -/
def modeOfCode (b : Byte) : Option GroupMode :=
  match b.toNat with
  | 0 => some .level
  | 1 => some .timed
  | _ => none

/-- Window modes: OFF 0, INSIDE 1, OUTSIDE 2. -/
def windowOfCode (b : Byte) : Option WindowMode :=
  match b.toNat with
  | 0 => some .off
  | 1 => some .inside
  | 2 => some .outside
  | _ => none

/-- Order modes: BY_LANE 0, BY_PLACE 1. -/
def orderOfCode (b : Byte) : Option OrderMode :=
  match b.toNat with
  | 0 => some .byLane
  | 1 => some .byPlace
  | _ => none

/-- Conflict policies: HOLD 0, RESTART 1. -/
def policyOfCode (b : Byte) : Option ConflictPolicy :=
  match b.toNat with
  | 0 => some .hold
  | 1 => some .restart
  | _ => none

/-- A display row named by a byte, absent above 11. -/
def rowOfCode (b : Byte) : Option Row :=
  if h : b.toNat < 12 then some ⟨b.toNat, h⟩ else none

/-- A speed code, absent above 3 (R184). -/
def speedOfCode (b : Byte) : Option (Fin 4) :=
  if h : b.toNat < 4 then some ⟨b.toNat, h⟩ else none

/-- The board mode of a BOARD_MODE payload: OFF 0, TEST 1, LIVE 2, PARTIAL 3 with its band; absent when refused
(R171). -/
def boardModeOf (p : Payload) : Option BoardMode :=
  match num8 p 0, rowOfCode (byteAt p 1), rowOfCode (byteAt p 2) with
  | 0, _, _ => some .off
  | 1, _, _ => some .test
  | 2, _, _ => some .live
  | 3, some first, some last => if first ≤ last then some (.partialBand first last) else none
  | _, _, _ => none

/-- The rectangle of corners in four bytes from i, absent when it breaks x0 ≤ x1 ≤ 31 or y0 ≤ y1 ≤ 11 (R157, R159). -/
def cornersOf (p : Payload) (i : Nat) : Option Rect :=
  let r : Rect := ⟨num8 p i, num8 p (i + 1), num8 p (i + 2), num8 p (i + 3)⟩
  if r.x0 ≤ r.x1 ∧ r.x1 ≤ 31 ∧ r.y0 ≤ r.y1 ∧ r.y1 ≤ 11 then some r else none

/-- The area of a BOARD_AREA payload in either form, absent when refused (R157). -/
def areaOf (p : Payload) : Option Rect :=
  match num8 p 0 with
  | 0 => cornersOf p 1
  | 1 =>
    let x := num8 p 1
    let y := num8 p 2
    let width := num8 p 3
    let height := num8 p 4
    if 1 ≤ width ∧ 1 ≤ height ∧ x + width ≤ 32 ∧ y + height ≤ 12 then
      some ⟨x, y, x + width - 1, y + height - 1⟩
    else none
  | _ => none

/-- The masks of a BOARD_MASK payload, absent when refused (R159). -/
def masksOf (p : Payload) : Option (Window × Locks) :=
  match windowOfCode (byteAt p 0), cornersOf p 1, boolOfCode (byteAt p 5), boolOfCode (byteAt p 6),
    boolOfCode (byteAt p 7), boolOfCode (byteAt p 8) with
  | some mode, some rect, some red, some green, some blue, some char =>
    some (⟨mode, rect⟩, ⟨red, green, blue, char⟩)
  | _, _, _, _, _, _ => none

/-- A cell of two bytes from i, absent when its code is above 127 or its colour above 7 (R160, R162). -/
def cellOf (p : Payload) (i : Nat) : Option Cell :=
  if num8 p i ≤ 127 ∧ num8 p (i + 1) ≤ 7 then
    some ⟨BitVec.ofNat 7 (num8 p i), BitVec.ofNat 3 (num8 p (i + 1))⟩
  else none

/-- `count` cells from byte i, absent when one of them is refused. -/
def cellsOf (p : Payload) (i : Nat) : Nat → Option (List Cell)
  | 0 => some []
  | count + 1 =>
    match cellOf p i, cellsOf p (i + 2) count with
    | some c, some cs => some (c :: cs)
    | _, _ => none

/-- The cells of a BOARD_WRITE payload, absent when refused (R160). -/
def writeCellsOf (p : Payload) : Option (List Cell) :=
  if 1 ≤ num8 p 0 ∧ num8 p 0 ≤ 32 then cellsOf p 1 (num8 p 0) else none

/-- The layout of a BOARD_LAYOUT payload with its columns and interval clamped, absent when a code is unknown
(R164). -/
def layoutOf (p : Payload) : Option Layout :=
  match boolOfCode (byteAt p 0), orderOfCode (byteAt p 1), boolOfCode (byteAt p 5), policyOfCode (byteAt p 8) with
  | some laneRows, some order, some clockRow, some policy =>
    some
      { laneRows, order, clockRow, policy
        placeCol := clampTo 0 30 (num8 p 2)
        markCol := clampTo 0 31 (num8 p 3)
        timeCol := clampTo 0 24 (num8 p 4)
        clockCol := clampTo 0 24 (num8 p 6)
        freezeSeconds := clampTo 0 30 (num8 p 7) }
  | _, _, _, _ => none

/-- The clamped flag of a layout: a value was stored other than as sent (R164). -/
def layoutClamped (p : Payload) : Bool :=
  30 < num8 p 2 || 31 < num8 p 3 || 24 < num8 p 4 || 24 < num8 p 6 || 30 < num8 p 7

/-- The module command of an index and a value, absent when refused for its codes (R174). -/
def moduleCommandOf (index value : Byte) : Option ModuleCommand :=
  match index.toNat with
  | 0 => if value.toNat ≤ 15 then some (.brightness value.toNat) else none
  | 1 => (boolOfCode value).map .blank
  | 2 => some .selfTest
  | 3 => some .moduleReset
  | _ => none

end Sys2Proof.Machine
end

