-- ==== Sys2Proof/Machine/Ops.lean ====
section
/-! DEFINITION. The operations the rows share: changing one block, queuing a report, making a log entry, taking a
console command from the inbound buffer and answering it, setting and clearing watches. -/

namespace Sys2Proof.Machine

/-! ### Changing one block -/

/-- Change the Console Link alone. -/
def State.onLink (s : State) (f : Link → Link) : State := { s with link := f s.link }

/-- Change the Board Controller alone. -/
def State.onBoard (s : State) (f : Board → Board) : State := { s with board := f s.board }

/-- Change the Lane Port Unit alone. -/
def State.onPorts (s : State) (f : Ports → Ports) : State := { s with ports := f s.ports }

/-- Change one lane context alone. -/
def State.setLane (s : State) (l : Lane) (c : LaneContext) : State := { s with lanes := s.lanes.set l c }

/-- Change the contexts of all lanes. -/
def State.mapLanes (s : State) (f : Lane → LaneContext → LaneContext) : State :=
  { s with lanes := Vector.ofFn fun l => f l s.lanes[l] }

/-- Change one sampler alone. -/
def State.onSampler (s : State) (side : PoolEnd) (f : Sampler → Sampler) : State :=
  { s with samplers := s.samplers.set side (f (s.samplers.get side)) }

/-- Change every channel of a sampler. -/
def Sampler.mapChannels (m : Sampler) (f : Channel → Channel) : Sampler :=
  { m with channels := Vector.ofFn fun l => f m.channels[l] }

/-- Change one channel alone. -/
def State.setChannel (s : State) (side : PoolEnd) (l : Lane) (c : Channel) : State :=
  s.onSampler side fun m => { m with channels := m.channels.set l c }

/-- Replace what is held for one lane end. -/
def Ports.setLaneEnd (p : Ports) (l : Lane) (side : PoolEnd) (e : LaneEnd) : Ports :=
  { p with lanes := p.lanes.set l (p.lanes[l].set side e) }

/-- Change what is held for every lane end. -/
def Ports.mapLaneEnds (p : Ports) (f : Lane → LaneEnd → LaneEnd) : Ports :=
  { p with lanes := Vector.ofFn fun l => ⟨f l p.lanes[l].start, f l p.lanes[l].turn⟩ }

/-- Change one lane end alone. -/
def State.setLaneEnd (s : State) (l : Lane) (side : PoolEnd) (e : LaneEnd) : State :=
  s.onPorts fun p => p.setLaneEnd l side e

/-- Do something for each lane in lane order. -/
def State.forLanes (s : State) (f : State → Lane → State) : State := allLanes.foldl f s

/-! ### Watches (R60) -/

/-- Set or clear the watch of a channel. -/
def State.setWatch (s : State) (side : PoolEnd) (l : Lane) (leg : Option Nat) : State :=
  s.setChannel side l { s.channel side l with watch := leg }

/-- End every watch on both samplers. -/
def State.endWatches (s : State) : State :=
  let clear (c : Channel) : Channel := { c with watch := none }
  { s with samplers := ⟨s.samplers.start.mapChannels clear, s.samplers.turn.mapChannels clear⟩ }

/-! ### Reports and the log -/

/-- A report is generated: its kind joins the summary set, and it is queued when its kind is enabled and the queue has
room (R181). -/
def Link.report (k : Link) (r : Report) : Link :=
  { k with
    summary := k.summary ||| BitVec.ofNat 9 (2 ^ r.kindIndex)
    queue := if k.enables.getLsbD r.kindIndex ∧ k.queue.length < Config.queuePlaces then k.queue ++ [r]
      else k.queue }

/-- A report is generated. -/
def State.report (s : State) (r : Report) : State := s.onLink fun k => k.report r

/-- Reports are generated one after the other. -/
def State.reportAll (s : State) (rs : List Report) : State := rs.foldl State.report s

/-- One more of a counter that stops at 65,535 (R151, R177, R178). -/
def countUp (n : Nat) : Nat := if n < Config.counterMax then n + 1 else n

/-- The log with one entry more; a full log loses its oldest (R150, R151). -/
def EventLog.add (g : EventLog) (stamp : Stamp) (source : LogSource) (wall : Option Nat) (d : Disposition) :
    EventLog :=
  let entry : LogEntry := ⟨g.counter, stamp, source, wall, d⟩
  let full : Bool := Config.logCapacity ≤ g.entries.length
  { entries := (if full then g.entries.tail else g.entries) ++ [entry]
    counter := (g.counter + 1) % 65536
    dropped := if full then countUp g.dropped else g.dropped
    armed := g.armed && g.entries.length + 1 != Config.logNotice }

/-- One entry is made for an input; an entry that raises the fill to 384 generates a LOG_NOTE (R148, R152). -/
def State.logEntry (s : State) (stamp : Stamp) (source : LogSource) (wall : Option Nat) (d : Disposition) : State :=
  let noted := s.log.armed && s.log.entries.length + 1 == Config.logNotice
  let t : State := { s with log := s.log.add stamp source wall d }
  if noted then t.report (.log Config.logNotice s.log.counter s.log.dropped) else t

/-! ### Commands and replies (R179) -/

/-- A reply is placed in the reply slot. -/
def State.answer (s : State) (kind : Byte) (code : ResultCode) (data : List Byte) : State :=
  s.onLink fun k => { k with slot := .holding ⟨kind, code, data⟩ }

/-- The Console Link can take this frame now: the reply slot is empty, no change of the link is due, and the frame is
the oldest of the inbound buffer, or completes on an empty buffer and is taken at once (R179,
notes/assumptions/4.md). -/
def State.canTake (s : State) (f : Frame) : Bool :=
  !s.resetHeld && s.link.slot == .empty && !s.link.effectDue && (s.link.inbound == [] || s.link.inbound.head? == some f)

/-- The oldest frame leaves the inbound buffer (R178). -/
def State.dropInbound (s : State) : State := s.onLink fun k => { k with inbound := k.inbound.tail }

/-- A console command is taken: its frame leaves the buffer, its payload length is checked, and the owning block
carries it out and answers (R179). A command that cannot be taken now changes nothing. -/
def State.take (s : State) (kind : Byte) (payload : Payload) (owner : State → State) : State :=
  if s.canTake ⟨kind, payload⟩ then
    if payloadLength kind payload = some payload.length then owner s.dropInbound
    else s.dropInbound.answer kind .badLength []
  else s

/-- An event of the pool, the clock or the chain: while the reset line is held there is none (R37). -/
def State.unlessHeld (s : State) (f : State → State) : State := if s.resetHeld then s else f s

end Sys2Proof.Machine
end

