-- ==== Sys2Proof/Machine/BoardOps.lean ====
section
/-! DEFINITION. The operations of the Board Controller: writing cells of board memory under the masks, composing the
clock field and the auto fields, marking display rows dirty under the conflict policy, the display row map, the freeze,
and the row transmitter's choice of a frame (chapter 10). -/

namespace Sys2Proof.Machine

/-! ### Text of times (R166, R167) -/

/-- The code of a decimal digit. -/
def digit (n : Nat) : CharCode := BitVec.ofNat 7 (48 + n % 10)

/-- A number below 100 in one or two digits. -/
def shortNumber (n : Nat) : List CharCode := if n < 10 then [digit n] else [digit (n / 10), digit n]

/-- A number below 100 in two digits. -/
def twoDigits (n : Nat) : List CharCode := [digit (n / 10), digit n]

/-- A time in hundredths: "S.hh" or "SS.hh" below 6,000, from there "M:SS.hh" or "MM:SS.hh" (R166). -/
def timeText (h : Nat) : List CharCode :=
  if h < 6000 then shortNumber (h / 100) ++ [46] ++ twoDigits h
  else shortNumber (h / 6000) ++ [58] ++ twoDigits (h / 100 % 60) ++ [46] ++ twoDigits h

/-- The running clock in tenths, with its minutes: "M:SS.t" or "MM:SS.t" (R167). -/
def tenthsText (counts : Nat) : List CharCode :=
  let t := counts / 1000
  shortNumber (t / 600) ++ [58] ++ twoDigits (t / 10 % 60) ++ [46, digit t]

/-- Text right-aligned in a field of blank cells, in colour 7 (R166, R167). -/
def rightAligned (width : Nat) (text : List CharCode) : List Cell :=
  List.replicate (width - text.length) Cell.blank ++ text.map fun code => ⟨code, 7⟩

/-! ### The clock field (R167) -/

/-- The final of the first lane of the result order. -/
def State.leadingFinal (s : State) : Option Nat :=
  match s.results.order with
  | l :: _ => (s.context l).final.map Final.time
  | [] => none

/-- The text of the clock field at this moment (R167). -/
def State.clockText (s : State) : List CharCode :=
  match s.clock.phase with
  | .stopped => []
  | .prestart => [48, 58, 48, 48, 46, 48]
  | .running =>
    match s.board.freeze with
    | some f => timeText (hundredths f.final)
    | none => tenthsText s.clock.value
  | .held =>
    match s.leadingFinal with
    | some t => timeText (hundredths t)
    | none => []

/-! ### Cells and rows -/

/-- Cells put into a row from a column on; cells beyond column 31 are dropped. -/
def putCells (row : CellRow) (x : Nat) : List Cell → CellRow
  | [] => row
  | c :: cs => putCells (row.setIfInBounds x c) (x + 1) cs

/-- What a frame of a display row carries: the memory row of the map, with the clock field composed when the row is 1
and the clock row is ON (R167, R172). -/
def State.rowContent (s : State) (d : Row) : CellRow :=
  let row := s.board.cells[s.board.map[d]]
  if d = 1 ∧ s.board.layout.clockRow then putCells row s.board.layout.clockCol (rightAligned 8 s.clockText) else row

/-- A display row is marked dirty (R170). -/
def Board.markDirty (b : Board) (d : Row) : Board := { b with dirty := b.dirty.set d true }

/-- All twelve display rows are marked dirty (R171, R174). -/
def Board.markAll (b : Board) : Board := { b with dirty := Vector.replicate 12 true }

/-- The content of a display row has changed: the row is marked dirty, unless it is being sent under RESTART and its frame
has not been restarted yet; then the frame begins again with the new content, and the row is out of the dirty set (R170,
R173, notes/assumptions/20.md). -/
def Board.changeRow (b : Board) (content : CellRow) (d : Row) : Board :=
  match b.chain with
  | some ⟨.row sent _, _, false⟩ =>
    if sent = d ∧ b.layout.policy = .restart then
      { b with
        chain := some ⟨.row d content, Config.rowFrameCounts, true⟩
        dirty := b.dirty.set d false
        sinceRow1 := if d = 1 then 0 else b.sinceRow1 }
    else b.markDirty d
  | _ => b.markDirty d

/-- The memory a display row shows has changed since `before`. It is marked dirty (R170); when what a frame of it carries
has changed with it, the conflict policy applies. A change under the composed clock field alone is no change of what a
frame carries (R173). -/
def State.changeRow (before s : State) (d : Row) : State :=
  if s.rowContent d = before.rowContent d then s.onBoard fun b => b.markDirty d
  else s.onBoard fun b => b.changeRow (s.rowContent d) d

/-- A row of board memory is written; when a cell changes, the memory of the display rows that show it has changed
(R170). -/
def State.writeRow (s : State) (y : Row) (row : CellRow) : State :=
  if s.board.cells[y] = row then s
  else
    (allRows.filter fun d => s.board.map[d] = y).foldl s.changeRow
      (s.onBoard fun b => { b with cells := b.cells.set y row })

/-- The clock row is marked dirty (R168, R170). -/
def State.markClockRow (s : State) : State := s.onBoard fun b => b.markDirty 1

/-! ### Masks (R159) -/

/-- The cell lies within a rectangle. -/
def Rect.contains (r : Rect) (x y : Nat) : Bool := r.x0 ≤ x ∧ x ≤ r.x1 ∧ r.y0 ≤ y ∧ y ≤ r.y1

/-- The cell is masked by the window mask. -/
def Window.masks (w : Window) (x y : Nat) : Bool :=
  match w.mode with
  | .off => false
  | .inside => w.rect.contains x y
  | .outside => !w.rect.contains x y

/-- The cell that stands after a write under the plane mask: locked planes and a locked character keep their old
value (R159, R160). -/
def Locks.apply (k : Locks) (old new : Cell) : Cell :=
  let keep : Colour := (if k.red then 4 else 0) ||| (if k.green then 2 else 0) ||| (if k.blue then 1 else 0)
  { code := if k.char then old.code else new.code
    colour := (old.colour &&& keep) ||| (new.colour &&& ~~~keep) }

/-- The cell at a column and row of board memory. -/
def Board.cellAt (b : Board) (x y : Nat) : Cell := ((b.cells[y]?).bind fun row => row[x]?).getD Cell.blank

/-- A cell of a copy of board memory is written. -/
def putCell (cells : Vector CellRow 12) (x y : Nat) (c : Cell) : Vector CellRow 12 :=
  if h : y < 12 then cells.set y (cells[y].setIfInBounds x c) else cells

/-! ### The cursor (R158) -/

/-- The next cell of the access area, wrapping from the last cell to the first. -/
def Cursor.next (c : Cursor) (a : Rect) : Cursor :=
  if c.x < a.x1 then ⟨c.x + 1, c.y⟩
  else if c.y < a.y1 then ⟨a.x0, c.y + 1⟩
  else ⟨a.x0, a.y0⟩

/-- What a console write has done so far. -/
structure WriteProgress where
  cells : Vector CellRow 12
  cursor : Cursor
  written : Nat
  skipped : Nat

/-- One cell of a console write: skipped when the window masks it, else written under the plane mask; the cursor moves
on (R158, R160). -/
def Board.writeCell (b : Board) (w : WriteProgress) (c : Cell) : WriteProgress :=
  let x := w.cursor.x
  let y := w.cursor.y
  let moved := w.cursor.next b.area
  if b.window.masks x y then { w with cursor := moved, skipped := w.skipped + 1 }
  else
    let old := ({ b with cells := w.cells } : Board).cellAt x y
    { w with cells := putCell w.cells x y (b.locks.apply old c), cursor := moved, written := w.written + 1 }

/-- The cells from a cursor on, and the cursor after them (R161). -/
def Board.readCells (b : Board) (c : Cursor) : Nat → List Cell × Cursor
  | 0 => ([], c)
  | n + 1 =>
    let (rest, after) := b.readCells (c.next b.area) n
    (b.cellAt c.x c.y :: rest, after)

/-! ### Auto fields (R165, R166) -/

/-- The memory row of a lane: row l + 2 (R156). -/
def laneRow (l : Lane) : Row := ⟨l.val + 2, by omega⟩

/-- The place field of a lane (R166). -/
def placeText (c : LaneContext) (place : Option Nat) : List CharCode :=
  match c.status, place with
  | .disqualified, _ => [68, 81]
  | .didNotStart, _ => [78, 83]
  | .noTime, _ => [78, 84]
  | _, some p => shortNumber p
  | _, none => []

/-- The mark of a lane (R166). -/
def markCell (c : LaneContext) : Cell :=
  match c.primary with
  | some (.earlyStart _) => ⟨42, 4⟩
  | some (.earlyTakeoff _ _) => ⟨42, 4⟩
  | some (.suspectStart _) => ⟨42, 4⟩
  | some _ => ⟨63, 4⟩
  | none => Cell.blank

/-- The time field of a lane (R166). -/
def timeFieldText (c : LaneContext) : List CharCode :=
  match c.status with
  | .finished =>
    match c.final with
    | some f => timeText (hundredths f.time)
    | none => []
  | .swimming =>
    match c.lastOfficial with
    | some t => timeText (hundredths t)
    | none => []
  | _ => []

/-- A lane row with its auto fields written in the order place, mark, time (R165). -/
def autoRow (y : Layout) (row : CellRow) (c : LaneContext) (place : Option Nat) : CellRow :=
  let placed := putCells row y.placeCol (rightAligned 2 (placeText c place))
  let marked := putCells placed y.markCol [markCell c]
  putCells marked y.timeCol (rightAligned 8 (timeFieldText c))

/-- A column belongs to an auto field (R165). -/
def Layout.isAutoColumn (y : Layout) (x : Nat) : Bool :=
  (y.placeCol ≤ x ∧ x < y.placeCol + 2) || x = y.markCol || (y.timeCol ≤ x ∧ x < y.timeCol + 8)

/-- A cell of board memory is an auto-field cell: lane rows are ON and it stands in a field of a lane row (R165). -/
def Layout.isAutoCell (y : Layout) (x row : Nat) : Bool := y.laneRows && decide (2 ≤ row) && y.isAutoColumn x

/-- A lane's auto fields are written (R165). -/
def State.writeAuto (s : State) (l : Lane) : State :=
  if s.board.layout.laneRows then
    s.writeRow (laneRow l)
      (autoRow s.board.layout s.board.cells[laneRow l] (s.context l) s.results.places[l])
  else s

/-- The auto fields of all ten lanes are written. -/
def State.writeAllAuto (s : State) : State := s.forLanes State.writeAuto

/-! ### The display row map (R169) -/

/-- The lanes in the order the lane rows are shown. -/
def State.shownLanes (s : State) : List Lane :=
  if s.board.layout.order = .byPlace ∧ (s.race = .complete ∨ s.race = .official) then
    s.results.order ++ (allLanes.filter fun l => s.inRace l && !s.results.order.contains l)
      ++ allLanes.filter fun l => !s.inRace l && !s.results.order.contains l
  else allLanes

/-- The display row map as R169 gives it now. -/
def State.mapNow (s : State) : Vector Row 12 :=
  Vector.ofFn fun d =>
    if d.val < 2 then d
    else
      match s.shownLanes[d.val - 2]? with
      | some l => laneRow l
      | none => d

/-- The map is recomputed; the memory of each display row whose memory row changes has changed (R169, R170, R173). -/
def State.recomputeMap (s : State) : State :=
  let new := s.mapNow
  (allRows.filter fun d => s.board.map[d] ≠ new[d]).foldl s.changeRow (s.onBoard fun b => { b with map := new })

/-! ### The freeze (R168) -/

/-- The freeze ends, and the clock row is marked dirty. -/
def State.endFreeze (s : State) : State :=
  if s.board.freeze.isSome then (s.onBoard fun b => { b with freeze := none }).markClockRow else s

/-- A lane of the running race has received its first final: the freeze starts when the interval is above 0 and the
spent flag is clear. The flag is spent by a freeze alone, so a later lane's first final starts the freeze when the
interval was 0 as the first lane finished and has been raised since (DESIGN CHOICE, notes/assumptions/31.md). -/
def State.startFreeze (s : State) (final : Nat) : State :=
  if s.race = .running ∧ 0 < s.board.layout.freezeSeconds ∧ !s.board.spent then
    (s.onBoard fun b =>
      { b with
        freeze := some ⟨final, s.clock.value + b.layout.freezeSeconds * Config.countsPerSecond⟩
        spent := true }).markClockRow
  else s

/-! ### The row transmitter (R172) -/

/-- The mode sends rows, and this display row is among them. -/
def BoardMode.sends (m : BoardMode) (d : Row) : Bool :=
  match m with
  | .off => false
  | .test => false
  | .live => true
  | .partialBand first last => first ≤ d ∧ d ≤ last

/-- The clock counts: PRESTART or RUNNING. -/
def ClockPhase.counts : ClockPhase → Bool
  | .stopped => false
  | .prestart => true
  | .running => true
  | .held => false

/-- Display row 1 is due (R172, item 3). -/
def State.clockRowDue (s : State) : Bool :=
  s.board.layout.clockRow && s.board.mode.sends 1 && s.clock.phase.counts
    && decide (Config.clockRowCounts ≤ s.board.sinceRow1)

/-- The lowest dirty display row that the mode sends (R172, item 4). -/
def Board.nextDirty (b : Board) : Option Row := allRows.find? fun d => b.mode.sends d && b.dirty[d]

/-- The rotation row: the next row of the band after the rotation pointer, wrapping round (R172, item 5). -/
def Board.nextRotation (b : Board) : Option Row :=
  (allRows.map fun i => b.rotation + 1 + i).find? fun d => b.mode.sends d

/-- A frame of a display row begins: the row leaves the dirty set (R170, R172). -/
def Board.beginDisplay (b : Board) (content : ChainContent) (d : Row) : Board :=
  { b with
    chain := some ⟨content, Config.rowFrameCounts, false⟩
    dirty := b.dirty.set d false
    sinceRow1 := if d = 1 then 0 else b.sinceRow1 }

/-- A command frame begins. -/
def Board.beginCommand (b : Board) (content : ChainContent) : Board :=
  { b with chain := some ⟨content, Config.commandFrameCounts, false⟩ }

/-- A row frame begins with the row's content at this moment. -/
def State.beginRow (s : State) (d : Row) : State := s.onBoard fun b => b.beginDisplay (.row d (s.rowContent d)) d

/-- The row the transmitter chooses in LIVE and PARTIAL (R172, items 3 to 5). -/
def State.chooseRow (s : State) : State :=
  if s.clockRowDue then s.beginRow 1
  else
    match s.board.nextDirty with
    | some d => s.beginRow d
    | none =>
      match s.board.nextRotation with
      | some d => (s.onBoard fun b => { b with rotation := d }).beginRow d
      | none => s

/-- On a free chain the transmitter chooses and begins the next frame (R172). -/
def State.chooseFrame (s : State) : State :=
  match s.board.chain, s.board.modeSlot, s.board.moduleSlot, s.board.mode with
  | some _, _, _, _ => s
  | none, some on, _, _ => s.onBoard fun b => { b with modeSlot := none }.beginCommand (.mode on)
  | none, none, some c, _ => s.onBoard fun b => { b with moduleSlot := none }.beginCommand (.command c)
  | none, none, none, .off => s
  | none, none, none, .test =>
    s.onBoard fun b =>
      { b with rotation := b.rotation + 1 }.beginDisplay (.test (b.rotation + 1) testRow) (b.rotation + 1)
  | none, none, none, .live => s.chooseRow
  | none, none, none, .partialBand _ _ => s.chooseRow

/-- What the end of a frame brings about: after a module reset or a self-test every row is dirty, and in OFF the
modules are blanked again (R174). -/
def Board.endFrame (b : Board) (content : ChainContent) : Board :=
  match content with
  | .command .selfTest => { b.markAll with modeSlot := if b.mode = .off then some true else b.modeSlot }
  | .command .moduleReset => { b.markAll with modeSlot := if b.mode = .off then some true else b.modeSlot }
  | _ => b

end Sys2Proof.Machine
end

