-- ==== Sys2Proof/Machine/LaneOps.lean ====
section
/-! DEFINITION. The Lane Engine's work on one lane: judgements, expected walls and their arming, the backup reference
and the wall record, resolution with what it settles, touches, presses and takeoffs (chapters 05 to 08). The work is
done on a `LaneWork`, one lane's context with its two watches and the reports it causes; `LaneEnv` is what it looks at. -/

namespace Sys2Proof.Machine

/-- What the Lane Engine looks at while it works on a lane: the program, the lane, the race-clock value, and whether
the race is RUNNING. -/
structure LaneEnv where
  program : Program
  lane : Lane
  now : Nat
  running : Bool

/-- One lane's context, the watches of its two platforms, and the reports of the event, kept apart by kind so that
they can be queued in the order of R84. -/
structure LaneWork where
  ctx : LaneContext
  watch : Ends (Option Nat)
  walls : List Report
  finishes : List Report
  judges : List Report

/-- Change the context alone. -/
def LaneWork.on (w : LaneWork) (f : LaneContext → LaneContext) : LaneWork := { w with ctx := f w.ctx }

/-- The reports in the order of R84: WALL_NOTE, FINISH_NOTE, JUDGE_NOTE. -/
def LaneWork.reports (w : LaneWork) : List Report := w.walls ++ w.finishes ++ w.judges

/-! ### Judgements (R130 to R132) -/

/-- A judgement joins a set that stands in priority order. -/
def insertJudgement (j : Judgement) : List Judgement → List Judgement
  | [] => [j]
  | k :: ks => if j.priority < k.priority then j :: k :: ks else k :: insertJudgement j ks

/-- The set holds a judgement of this cause. -/
def holdsCause (j : Judgement) (js : List Judgement) : Bool := js.any fun k => k.priority = j.priority

/-- A cause is added to a lane: it joins the set with its detail and a JUDGE_NOTE is generated, or, when the cause is
held already, nothing changes (R130, R132). -/
def LaneWork.judge (l : Lane) (j : Judgement) (w : LaneWork) : LaneWork :=
  if holdsCause j w.ctx.judgements then w
  else
    let js := insertJudgement j w.ctx.judgements
    { w with
      ctx := { w.ctx with judgements := js }
      judges := w.judges ++ [.judge l j (js.headD j) js.length] }

/-! ### Watches (R60) -/

/-- The watch of one end is set. -/
def LaneWork.setWatch (side : PoolEnd) (leg : Nat) (w : LaneWork) : LaneWork :=
  { w with watch := w.watch.set side (some leg) }

/-- The watch of one end is cleared if it is set for this leg. -/
def LaneWork.clearWatch (side : PoolEnd) (leg : Nat) (w : LaneWork) : LaneWork :=
  if w.watch.get side = some leg then { w with watch := w.watch.set side none } else w

/-- Both watches of the lane end. -/
def LaneWork.endWatches (w : LaneWork) : LaneWork := { w with watch := ⟨none, none⟩ }

/-! ### The expected wall (R72 to R76) -/

/-- An expected wall's phase is set against the clock; at its first arming an exchange wall sets the watch of its leg
(R73, R74, R118). -/
def LaneWork.placeExpected (env : LaneEnv) (e : ExpectedWall) (w : LaneWork) : LaneWork :=
  let armed : Bool := e.armTime ≤ env.now
  let placed := w.on fun c => { c with expected := some { e with armed, everArmed := e.everArmed || armed } }
  match env.program.exchangeLeg e.index with
  | some k => if armed ∧ !e.everArmed then placed.setWatch e.side k else placed
  | none => placed

/-- Wall n is created as the expected wall with an arm time (R72). -/
def LaneWork.expect (env : LaneEnv) (n armTime : Nat) (w : LaneWork) : LaneWork :=
  w.placeExpected env ⟨n, wallEnd n, armTime, false, false⟩

/-- Wall w has been resolved at an official time: in RUNNING, when it is not the final wall, the next wall's arm time
is recomputed, or the next wall is created (R75). -/
def LaneWork.armNext (env : LaneEnv) (index official : Nat) (w : LaneWork) : LaneWork :=
  if env.running ∧ !env.program.isFinal index then
    let armTime := official + env.program.armDelay
    match w.ctx.expected with
    | some e => w.placeExpected env { e with armTime }
    | none => w.expect env (index + 1) armTime
  else w

/-- The arm timer expires: the expected wall becomes ARMED (R73, R74). -/
def LaneWork.arm (env : LaneEnv) (e : ExpectedWall) (w : LaneWork) : LaneWork := w.placeExpected env e

/-! ### The backup reference and the wall record (R97 to R99) -/

/-- The median of three stamps: the middle one in order of value (R97). -/
def medianOf (a b c : Nat) : Nat := max (min a b) (min (max a b) c)

/-- The backup reference of a press list (R97). -/
def backupReference : List Press → Option Nat
  | [] => none
  | [a] => some a.stamp
  | [a, b] => some ((a.stamp + b.stamp) / 2)
  | a :: b :: c :: _ => some (medianOf a.stamp b.stamp c.stamp)

/-- The difference of two times without its sign. -/
def timeDifference (a b : Nat) : Nat := (a - b) + (b - a)

/-- The disagree flag: a pad time and two or three presses that differ by more than disagree_limit (R98). -/
def disagrees (p : Program) (w : CollectingWall) : Bool :=
  match w.pad, backupReference w.presses with
  | some pad, some ref => decide (2 ≤ w.presses.length) && decide (p.disagree < timeDifference pad ref)
  | _, _ => false

/-- The source of a wall timed from its presses (R99). -/
def backupSource (presses : List Press) : WallSource :=
  match presses.length with
  | 0 => .backupSingle
  | 1 => .backupSingle
  | 2 => .backupMean
  | _ => .backupMedian

/-- The record of a collecting wall resolved by any cause other than a hand time (R99). -/
def recordOfWall (p : Program) (w : CollectingWall) : WallRecord :=
  let disagree := disagrees p w
  let ref := backupReference w.presses
  let base : WallRecord := ⟨w.index, w.side, 0, .pad, w.pad, ref, w.presses.length, disagree⟩
  match w.pad with
  | some pad =>
    if disagree ∧ p.policy = .checked then { base with official := ref.getD pad, source := backupSource w.presses }
    else { base with official := pad, source := .pad }
  | none => { base with official := ref.getD 0, source := backupSource w.presses }

/-- The source is one of the backup sources. -/
def WallSource.isBackup : WallSource → Bool
  | .backupMedian => true
  | .backupMean => true
  | .backupSingle => true
  | .pad => false
  | .hand => false

/-- A wall record joins the resolved walls, with its WALL_NOTE (R71, R86). -/
def LaneWork.addRecord (env : LaneEnv) (cause : WallCause) (r : WallRecord) (w : LaneWork) : LaneWork :=
  { w with ctx := { w.ctx with resolved := w.ctx.resolved ++ [r] }, walls := w.walls ++ [.wall env.lane cause r] }

/-- The judgements of a resolution by R99 (R101). -/
def LaneWork.judgeRecord (env : LaneEnv) (r : WallRecord) (w : LaneWork) : LaneWork :=
  let flagged := if r.disagree then w.judge env.lane (.padDisagree r.index) else w
  if r.source.isBackup then flagged.judge env.lane (.backupTimed r.index) else flagged

/-! ### Final times (R87, R103, R133) -/

/-- The final time is set, with a status, and a FINISH_NOTE is generated. -/
def LaneWork.setFinal (env : LaneEnv) (time : Nat) (confirmed : Bool) (status : LaneStatus) (w : LaneWork) : LaneWork :=
  { w with
    ctx := { w.ctx with final := some ⟨time, confirmed⟩, status }
    finishes := w.finishes ++ [.finish env.lane status time confirmed (w.ctx.final.map Final.time)] }

/-! ### Exchanges and unseen legs (R114, R118 to R122) -/

/-- A value clamped to ±99,999 (R111, R112, R120). -/
def clampSigned (i : Int) : Int := max (-Config.maxSigned) (min Config.maxSigned i)

/-- Leg k's record is replaced. -/
def LaneContext.setLeg (c : LaneContext) (k : Nat) (r : LegRecord) : LaneContext :=
  { c with legs := c.legs.set (k - 2) r }

/-- The exchange of leg k is judged from the takeoff's stamp and the exchange wall's official time (R120, R121). -/
def LaneWork.judgeExchange (env : LaneEnv) (k : Nat) (stamp official : Nat) (w : LaneWork) : LaneWork :=
  let margin := clampSigned ((stamp : Int) - official)
  if margin < -(env.program.tolerance : Int) then
    (w.on fun c => c.setLeg k ⟨.early, some margin⟩).judge env.lane (.earlyTakeoff k margin)
  else w.on fun c => c.setLeg k ⟨.legal, some margin⟩

/-- The pending takeoff whose exchange wall has just been resolved is judged and removed (R119). -/
def LaneWork.settleExchange (env : LaneEnv) (index official : Nat) (w : LaneWork) : LaneWork :=
  match env.program.exchangeLeg index, w.ctx.takeoff with
  | some k, some t =>
    if t.leg = k then
      (w.on fun c => { c with takeoff := none }).judgeExchange env k t.stamp.value official
    else w
  | _, _ => w

/-- Wall 1 has been resolved and the lane has no reaction: leg 1 is settled as unseen (R114). -/
def LaneWork.settleLegOne (env : LaneEnv) (w : LaneWork) : LaneWork :=
  if env.program.startKind = .platform ∧ w.ctx.reaction = none then
    ((w.clearWatch .start 1).on fun c => { c with takeoff := c.takeoff.filter fun t => t.leg ≠ 1 }).judge env.lane
      (.unjudged 1)
  else w

/-- Leg k is still PENDING: it is settled as unseen (R122). -/
def LaneWork.settleLeg (env : LaneEnv) (k : Nat) (w : LaneWork) : LaneWork :=
  match w.ctx.leg k with
  | some ⟨.pending, _⟩ =>
    ((w.clearWatch (env.program.exchangeEnd k) k).on fun c => c.setLeg k ⟨.unjudged, none⟩).judge env.lane (.unjudged k)
  | _ => w

/-- The leg whose first wall has just been resolved is settled as unseen if it is still open (R114, R122). -/
def LaneWork.settleUnseen (env : LaneEnv) (index : Nat) (w : LaneWork) : LaneWork :=
  if index = 1 then w.settleLegOne env
  else
    match env.program.opensLeg index with
    | some k => w.settleLeg env k
    | none => w

/-- What a resolution settles: the exchange judged at this wall, then the leg this wall opens (notes/assumptions/11.md). -/
def LaneWork.settle (env : LaneEnv) (index official : Nat) (w : LaneWork) : LaneWork :=
  (w.settleExchange env index official).settleUnseen env index

/-! ### Resolution -/

/-- A resolved final wall sets and confirms the final time; any other wall arms its successor (R75, R100, R103). -/
def LaneWork.advance (env : LaneEnv) (r : WallRecord) (w : LaneWork) : LaneWork :=
  if env.program.isFinal r.index then w.setFinal env r.official true .finished else w.armNext env r.index r.official

/-- The close timer expires: the collecting wall is resolved (R100). -/
def LaneWork.resolveAtClose (env : LaneEnv) (wall : CollectingWall) (w : LaneWork) : LaneWork :=
  let r := recordOfWall env.program wall
  ((((w.on fun c => { c with collecting := none }).addRecord env .closeTimer r).judgeRecord env r).advance env r).settle
    env r.index r.official

/-- RACE_CLOSE or clock saturation resolves the collecting wall; no expected wall is created or changed (R102). -/
def LaneWork.resolveByClose (env : LaneEnv) (wall : CollectingWall) (w : LaneWork) : LaneWork :=
  let r := recordOfWall env.program wall
  let judged := ((w.on fun c => { c with collecting := none }).addRecord env .close r).judgeRecord env r
  let timed := if env.program.isFinal r.index then judged.setFinal env r.official true .finished else judged
  timed.settle env r.index r.official

/-- DISQUALIFY or DID_NOT_START resolves the collecting wall; a pending takeoff it is the exchange wall of is judged,
no leg is settled as unseen (R102, R127). -/
def LaneWork.resolveByAmend (env : LaneEnv) (status : LaneStatus) (wall : CollectingWall) (w : LaneWork) : LaneWork :=
  let r := recordOfWall env.program wall
  let judged := ((w.on fun c => { c with collecting := none }).addRecord env .amend r).judgeRecord env r
  let timed := if env.program.isFinal r.index then judged.setFinal env r.official true status else judged
  timed.settleExchange env r.index r.official

/-- The record of a wall resolved by a hand time (R107). -/
def handRecord (index time : Nat) (wall : Option CollectingWall) : WallRecord :=
  { index, side := wallEnd index, official := time, source := .hand
    pad := wall.bind CollectingWall.pad
    backup := wall.bind fun w => backupReference w.presses
    presses := (wall.map fun w => w.presses.length).getD 0
    disagree := false }

/-- An exchange wall resolved in RUNNING without ever having been ARMED sets the watch of its leg (R118). -/
def LaneWork.watchUnarmed (env : LaneEnv) (index : Nat) (expected : Option ExpectedWall) (w : LaneWork) : LaneWork :=
  match env.program.exchangeLeg index, expected with
  | some k, some e => if env.running ∧ !e.everArmed then w.setWatch e.side k else w
  | _, _ => w

/-- A hand time resolves a wall: the collecting wall, the expected wall, or in COMPLETE wall n + 1 (R106, R107, R108). -/
def LaneWork.resolveByHand (env : LaneEnv) (index time : Nat) (w : LaneWork) : LaneWork :=
  let wall := w.ctx.collecting
  let expected := if wall.isSome then none else w.ctx.expected
  let r := handRecord index time wall
  let taken := w.on fun c =>
    { c with collecting := none, expected := if wall.isSome then c.expected else none }
  ((((taken.addRecord env .hand r).judge env.lane (.handTimed index)).advance env r).watchUnarmed env index
    expected).settle env index time

/-! ### Touches and presses (R77 to R82, R93, R94) -/

/-- What becomes of a pad press (R77). -/
inductive PadUse where
  | ignored (reason : Reason) (wall : Option Nat)
  | padTime (wall : CollectingWall) (stamp : Nat)
  | touch (wall : ExpectedWall) (stamp : Nat)

/-- The last three tests of R77, against the expected wall. -/
def LaneContext.touchExpected (c : LaneContext) (side : PoolEnd) (stamp : Nat) : PadUse :=
  match c.expectedAt side with
  | none => .ignored .wrongEnd none
  | some e => if e.armed ∧ e.armTime < stamp then .touch e stamp else .ignored .notArmed (some e.index)

/-- The tests of R77 from LANE_DONE on, for a lane of a running race. -/
def LaneContext.padUse (c : LaneContext) (side : PoolEnd) (stamp : Nat) : PadUse :=
  if !c.takesTouches then .ignored .laneDone none
  else
    match c.collectingAt side with
    | some w =>
      if w.pad.isSome then .ignored .repeatTouch (some w.index)
      else if stamp < w.closeTime then .padTime w stamp
      else c.touchExpected side stamp
    | none => c.touchExpected side stamp

/-- What becomes of a pad press, by the tests of R77 in order. -/
def State.padUse (s : State) (l : Lane) (side : PoolEnd) (stamp : Stamp) : PadUse :=
  match s.race, stamp with
  | .running, .race v => if s.inRace l then (s.context l).padUse side v else .ignored .notInRace none
  | _, _ => .ignored .notRunning none

/-- A touch for a wall that is not the final wall gives the lane its next expected wall; a touch of the final wall
makes it FINISHED with a final time (R81, R82). -/
def LaneWork.afterTouch (env : LaneEnv) (index stamp : Nat) (confirmed : Bool) (w : LaneWork) : LaneWork :=
  if env.program.isFinal index then w.setFinal env stamp confirmed .finished
  else w.expect env (index + 1) (stamp + env.program.armDelay)

/-- A touch accepted for the expected wall: at the station end it opens the wall for presses, elsewhere it resolves it
at once (R79 to R81). -/
def LaneWork.touch (env : LaneEnv) (e : ExpectedWall) (stamp : Nat) (w : LaneWork) : LaneWork :=
  let taken := w.on fun c => { c with expected := none }
  if env.program.isStation e.index then
    (taken.on fun c =>
      { c with collecting := some ⟨e.index, e.side, some stamp, [], stamp + env.program.window⟩ }).afterTouch env e.index
        stamp false
  else
    let r : WallRecord := ⟨e.index, e.side, stamp, .pad, some stamp, none, 0, false⟩
    ((taken.addRecord env .touch r).afterTouch env e.index stamp true).settle env e.index stamp

/-- A touch accepted as the pad time of a collecting wall (R82). -/
def LaneWork.fillPad (env : LaneEnv) (wall : CollectingWall) (stamp : Nat) (w : LaneWork) : LaneWork :=
  (w.on fun c => { c with collecting := some { wall with pad := some stamp } }).afterTouch env wall.index stamp false

/-- What becomes of a button press (R93). -/
inductive ButtonUse where
  | ignored (reason : Reason) (wall : Option Nat)
  | join (wall : CollectingWall) (stamp : Nat)
  | opens (wall : ExpectedWall) (stamp : Nat)

/-- The tests of R93 from REPEAT_BUTTON on. -/
def LaneContext.buttonUse (c : LaneContext) (side : PoolEnd) (b : Fin 3) (stamp : Nat) : ButtonUse :=
  match c.collecting with
  | some w =>
    if w.presses.any fun q => q.button = b then .ignored .repeatButton (some w.index) else .join w stamp
  | none =>
    match c.expectedAt side with
    | some e => if e.armed ∧ e.armTime < stamp then .opens e stamp else .ignored .noOpenWall none
    | none => .ignored .noOpenWall none

/-- What becomes of a button press, by the tests of R93 in order. -/
def State.buttonUse (s : State) (l : Lane) (side : PoolEnd) (b : Fin 3) (stamp : Stamp) : ButtonUse :=
  match s.race, stamp, s.program with
  | .running, .race v, some p =>
    if !p.inRace l then .ignored .notInRace none
    else if p.station ≠ some side then .ignored .notStation none
    else (s.context l).buttonUse side b v
  | .running, .race _, none => .ignored .notInRace none
  | _, _, _ => .ignored .notRunning none

/-- A press joins the press list of the collecting wall (R94). -/
def LaneContext.joinPress (c : LaneContext) (w : CollectingWall) (b : Fin 3) (stamp : Nat) : LaneContext :=
  { c with collecting := some { w with presses := w.presses ++ [⟨b, stamp⟩] } }

/-- A press opens the expected wall (R94). -/
def LaneContext.openByPress (c : LaneContext) (p : Program) (e : ExpectedWall) (b : Fin 3) (stamp : Nat) : LaneContext :=
  { c with expected := none, collecting := some ⟨e.index, e.side, none, [⟨b, stamp⟩], stamp + p.window⟩ }

/-! ### Starts and takeoffs (R110 to R116) -/

/-- The reaction is formed and tested against 0 and the floor (R113). -/
def LaneWork.react (env : LaneEnv) (reaction : Int) (w : LaneWork) : LaneWork :=
  let formed := w.on fun c => { c with reaction := some reaction }
  if reaction < 0 then formed.judge env.lane (.earlyStart reaction)
  else if reaction < env.program.floor then formed.judge env.lane (.suspectStart reaction)
  else formed

/-- The start signal in a lane of the race: SWIMMING, expected wall 1, start source, and the prestart takeoff turned
into a reaction (R23, R111). -/
def LaneWork.startSignal (env : LaneEnv) (mark : Nat) (source : StartSource) (w : LaneWork) : LaneWork :=
  let swimming := (w.on fun c => { c with status := .swimming, source := some source }).expect env 1
    env.program.armDelay
  match w.ctx.takeoff with
  | some ⟨1, stamp⟩ =>
    (swimming.on fun c => { c with takeoff := none }).react env (clampSigned ((stamp.value : Int) - mark))
  | _ => swimming

/-- What becomes of a takeoff (R116). -/
inductive TakeoffUse where
  | ignored (reason : Reason) (wall : Option Nat)
  | keepPrestart
  | react (stamp : Stamp)
  | judge (official : Nat) (wall : Nat)
  | keepPending (wall : Nat)

/-- The tests of R116 for a leg from 2 on. -/
def LaneContext.exchangeUse (c : LaneContext) (p : Program) (k : Nat) : TakeoffUse :=
  let wall := p.exchangeWall k
  match c.leg k with
  | some ⟨.pending, _⟩ =>
    if c.takeoff.any fun t => t.leg ≠ k then .ignored .notArmed (some wall)
    else
      match c.wallRecord wall with
      | some r => .judge r.official wall
      | none => .keepPending wall
  | _ => .ignored .laneDone (some wall)

/-- What becomes of a takeoff, by the tests of R116 in order. -/
def State.takeoffUse (s : State) (t : Takeoff) : TakeoffUse :=
  if !(s.race = .armed ∨ s.race = .running) ∨ t.stamp = .none then .ignored .notRunning none
  else
    match s.program with
    | none => .ignored .notInRace none
    | some p =>
      let c := s.context t.lane
      if !p.inRace t.lane then .ignored .notInRace none
      else if c.status.isOut then .ignored .laneDone none
      else if t.leg = 1 then
        if c.reaction.isSome ∨ (c.wallRecord 1).isSome then .ignored .laneDone none
        else if s.race = .armed then .keepPrestart
        else .react t.stamp
      else c.exchangeUse p t.leg

/-- The reaction of a takeoff taken in RUNNING: a RACE stamp's value, or a PRE stamp's value less the start mark (R112). -/
def reactionOf (stamp : Stamp) (mark : Nat) : Int :=
  match stamp with
  | .race v => clampSigned v
  | .pre v => clampSigned ((v : Int) - mark)
  | .none => 0

/-! ### Closing and amending a lane (R29, R126, R127, R143) -/

/-- Stage 2 of a close in a lane of the race: open legs become UNJUDGED, a start watch still set ends UNJUDGED, every
watch and any pending takeoff ends (R29, R126). -/
def LaneWork.settleOpen (env : LaneEnv) (w : LaneWork) : LaneWork :=
  let exchanges := env.program.laterLegs.foldl (fun v k => v.settleLeg env k) w
  let started := if exchanges.watch.start = some 1 ∧ exchanges.ctx.reaction = none then
      exchanges.judge env.lane (.unjudged 1)
    else exchanges
  started.endWatches.on fun c => { c with takeoff := none }

/-- Stages 1 and 2 of a close in a lane of the race (R29). -/
def LaneWork.close (env : LaneEnv) (w : LaneWork) : LaneWork :=
  let resolved := match w.ctx.collecting with
    | some wall => w.resolveByClose env wall
    | none => w
  resolved.settleOpen env

/-- Stage 3 of a close in a lane of the race: an unfinished lane becomes NO_TIME (R29). -/
def LaneContext.closeStatus (c : LaneContext) : LaneContext :=
  match c.status with
  | .finished => c
  | .disqualified => c
  | .didNotStart => c
  | _ => { c with status := .noTime, expected := none }

/-- Every leg record still PENDING becomes UNJUDGED, with no judgement (R127). -/
def unjudgePending (r : LegRecord) : LegRecord :=
  match r.verdict with
  | .pending => ⟨.unjudged, none⟩
  | _ => r

/-- DISQUALIFY or DID_NOT_START in RUNNING of a lane that is neither (R140, steps 1 to 4). -/
def LaneWork.takeOut (env : LaneEnv) (status : LaneStatus) (w : LaneWork) : LaneWork :=
  let unexpected := w.on fun c => { c with expected := none }
  let resolved := match w.ctx.collecting with
    | some wall => unexpected.resolveByAmend env status wall
    | none => unexpected
  resolved.endWatches.on fun c => { c with takeoff := none, legs := c.legs.map unjudgePending, status }

/-- The leg records whose exchange wall is not resolved return to PENDING (R128). -/
def reopenLegs (p : Program) (resolved : Nat) (legs : List LegRecord) : List LegRecord :=
  legs.mapIdx fun i r => if resolved < p.exchangeWall (i + 2) then ⟨.pending, none⟩ else r

/-- RESTORE of a lane without a final time in RUNNING (R128, R143). -/
def LaneWork.restoreSwimming (env : LaneEnv) (w : LaneWork) : LaneWork :=
  let n := w.ctx.resolved.length
  (w.on fun c => { c with status := .swimming, legs := reopenLegs env.program n c.legs }).expect env (n + 1)
    ((w.ctx.lastOfficial.getD 0) + env.program.armDelay)

/-- The earliest unresolved wall of a lane: the collecting wall or the expected wall in RUNNING, wall n + 1 in COMPLETE
(R106). -/
def LaneContext.earliestUnresolved (c : LaneContext) (p : Program) (running : Bool) : Option Nat :=
  if running then
    match c.collecting, c.expected with
    | some w, _ => some w.index
    | none, some e => some e.index
    | none, none => none
  else if c.resolved.length < p.lengths then some (c.resolved.length + 1)
  else none

/-- An empty context (R69): READY in the race, IDLE outside it, leg records PENDING for legs 2 to `legs`. -/
def emptyContext (program : Option Program) (l : Lane) : LaneContext :=
  match program with
  | some p =>
    { LaneContext.reset with
      status := if p.inRace l then .ready else .idle
      legs := List.replicate (p.legs - 1) ⟨.pending, none⟩ }
  | none => LaneContext.reset

end Sys2Proof.Machine
end

