-- ==== Sys2Proof/Machine/RaceOps.lean ====
section
/-! DEFINITION. What an event does across the blocks: committing a lane's work, ranking, race-state changes, the start,
completion, the close of a race, discarding a race, stuck faults, and the handling of presses and takeoffs. -/

namespace Sys2Proof.Machine

/-! ### Lamps and ranking (R46, R47, R135 to R137) -/

/-- An engine write of a lamp, applied in a TIMED group only (R42, R46). -/
def State.engineLamp (s : State) (l : Lane) (side : PoolEnd) (pattern : Lamp) : State :=
  match s.ports.laneMode l with
  | .timed => s.setLaneEnd l side { s.ports.laneEnd l side with lamp := pattern }
  | .level => s

/-- The finish-end lamp of a place (R47). -/
def placeLamp : Option Nat → Lamp
  | some 1 => .on
  | some 2 => .slow
  | some 3 => .fast
  | _ => .off

/-- The lane is ranked: its status is FINISHED (R135). -/
def State.isRanked (s : State) (l : Lane) : Bool := (s.context l).status = .finished

/-- A ranked lane's time in hundredths. -/
def State.rankTime (s : State) (l : Lane) : Nat := (s.context l).finalHundredths.getD 0

/-- A lane joins a list ordered by time; among equal times it stands before the lanes after it. -/
def State.insertRanked (s : State) (l : Lane) : List Lane → List Lane
  | [] => [l]
  | k :: ks => if s.rankTime l ≤ s.rankTime k then l :: k :: ks else k :: s.insertRanked l ks

/-- The result order: ranked lanes by final hundredths, then by lane number (R135). -/
def State.resultOrder (s : State) : List Lane := (allLanes.filter s.isRanked).foldr s.insertRanked []

/-- A lane's place: one plus the number of ranked lanes with a strictly smaller time (R135). -/
def State.placeNow (s : State) (l : Lane) : Option Nat :=
  if s.isRanked l then
    some (1 + ((allLanes.filter s.isRanked).filter fun k => s.rankTime k < s.rankTime l).length)
  else none

/-- The list of a RANK_NOTE (R137). -/
def State.rankEntries (s : State) : List RankEntry :=
  s.results.order.map fun l =>
    ⟨l, (s.results.places[l]).getD 0, s.rankTime l, (s.context l).confirmed⟩

/-- A lane whose place has changed: its finish-end lamp and its auto fields are written (R47, R136). -/
def State.showPlace (s : State) (l : Lane) : State :=
  let lit := match s.program with
    | some p => s.engineLamp l p.finishEnd (placeLamp s.results.places[l])
    | none => s
  lit.writeAuto l

/-- The Result Unit re-ranks (R136). R136 and R169 give the place writes and the recomputation of the display row map no
order: the model writes lamps and auto fields first and recomputes the map after, so a row frame that the re-rank
restarts carries the content it restarts with (DESIGN CHOICE, notes/assumptions/30.md). -/
def State.rerank (s : State) : State :=
  let before := s.results
  let ranked : State :=
    { s with results := { s.results with order := s.resultOrder, places := Vector.ofFn fun l => s.placeNow l } }
  let noted := ranked.report (.rank ranked.rankEntries)
  let shown := (allLanes.filter fun l => s.inRace l && before.places[l] != ranked.results.places[l]).foldl
    State.showPlace noted
  let mapped := shown.recomputeMap
  if (s.race = .complete ∨ s.race = .official) ∧ before.order.head? ≠ ranked.results.order.head? then
    mapped.markClockRow
  else mapped

/-- A change of a lane's context that makes the Result Unit re-rank (R136). -/
def needsRerank (before after : LaneContext) : Bool :=
  match before.status, after.status with
  | .finished, .finished => before.final.map Final.time != after.final.map Final.time
  | .finished, _ => true
  | _, .finished => true
  | _, _ => false

/-! ### Committing a lane's work -/

/-- The Lane Engine's view of a lane. -/
def State.laneEnv (s : State) (p : Program) (l : Lane) : LaneEnv := ⟨p, l, s.clock.value, s.race = .running⟩

/-- A lane's context and watches, ready to be worked on. -/
def State.laneWork (s : State) (l : Lane) : LaneWork :=
  ⟨s.context l, ⟨(s.channel .start l).watch, (s.channel .turn l).watch⟩, [], [], []⟩

/-- A change of a lane's context that makes the Board Controller write the lane's auto fields (R165). -/
def needsAuto (before after : LaneContext) : Bool :=
  before.status != after.status || before.resolved.length != after.resolved.length
    || before.final.map Final.time != after.final.map Final.time || before.primary != after.primary

/-- A lane's work is put back: context and watches, then the auto fields and the freeze as they follow, then the
lane's reports (R84, R165, R168). -/
def State.commit (s : State) (l : Lane) (w : LaneWork) : State :=
  let before := s.context l
  let put := ((s.setLane l w.ctx).setWatch .start l w.watch.start).setWatch .turn l w.watch.turn
  let shown := if needsAuto before w.ctx then put.writeAuto l else put
  let frozen := match before.final, w.ctx.final with
    | none, some f => shown.startFreeze f.time
    | _, _ => shown
  frozen.reportAll w.reports

/-! ### Race states (R17, R28, R35) -/

/-- The race state and the clock change: a freeze ends when the race is no longer RUNNING, a change of clock phase marks
the clock row, and the display row map is recomputed (R168 to R170). -/
def State.enter (s : State) (race : RaceState) (clock : Clock) : State :=
  let changed : State := { s with race, clock }
  let thawed := if race = .running then changed else changed.endFreeze
  let marked := if s.clock.phase = clock.phase then thawed else thawed.markClockRow
  marked.recomputeMap

/-- The event_id a RACE_NOTE carries. -/
def State.eventId (s : State) : Nat :=
  match s.program with
  | some p => p.eventId
  | none => 0

/-- A RACE_NOTE is generated (R35). -/
def State.raceNote (s : State) (previous : RaceState) (cause : RaceCause) (eventId clock : Nat) : State :=
  s.report (.race s.race previous cause eventId clock s.source)

/-- The race completes when its condition holds (R28). -/
def State.checkCompletion (s : State) : State :=
  if s.race = .running ∧ s.allDone then
    ((s.enter .complete { s.clock with phase := .held }).endWatches).raceNote .running .completion s.eventId
      s.clock.value
  else s

/-- An event of one lane: its work is put back, the Result Unit re-ranks if it must, and the race completes if it is
done (R28, R84, R136). -/
def State.laneEvent (s : State) (l : Lane) (w : LaneWork) : State :=
  let done := s.commit l w
  let ranked := if needsRerank (s.context l) w.ctx then done.rerank else done
  ranked.checkCompletion

/-! ### Discarding a race (R20, R26, R34) -/

/-- Lamps of every lane end in a TIMED group are set OFF as an engine write (R46). -/
def Ports.darkenTimed (p : Ports) : Ports :=
  p.mapLaneEnds fun l e =>
    match p.laneMode l with
    | .timed => { e with lamp := .off }
    | .level => e

/-- The Result Unit discards its places, result order and amendments; a ranking that held a lane sends an empty
RANK_NOTE (R137). -/
def State.discardResults (s : State) : State :=
  let emptied : State := { s with results := Results.reset }
  if s.results.order.isEmpty then emptied else emptied.report (.rank [])

/-- The race is taken off: the new state, the clock STOPPED at 0, no start source, empty contexts, no watches, no
results, blank auto fields, TIMED lamps OFF (R20, R26, R34). The program must stand as it will after. R20, R26, R34 and R169
give the recomputation of the display row map and the blanking of the auto fields no order: the model recomputes the map
first, so a row frame that the recomputation begins again carries the auto fields of its new memory row as they stood
(DESIGN CHOICE, notes/assumptions/30.md). -/
def State.discardRace (s : State) (race : RaceState) : State :=
  let entered := ({ s with source := none, startMark := none } : State).enter race ⟨.stopped, 0⟩
  let rebuilt := (entered.mapLanes fun l _ => emptyContext s.program l).endWatches
  rebuilt.discardResults.writeAllAuto.onPorts Ports.darkenTimed

/-- The clock-overrun fault is cleared, with its FAULT_NOTE, if it was raised (R30). -/
def State.clearOverrun (s : State) : State :=
  if s.overrun then ({ s with overrun := false } : State).report (.fault .clockOverrun false) else s

/-! ### Stuck pads (R11, R50) -/

/-- PAD_STUCK is raised for a lane end: the flag, the FAULT_NOTE, and in a running race the judgement (R50). -/
def State.raiseStuck (s : State) (l : Lane) (side : PoolEnd) : State :=
  let raised := (s.setLaneEnd l side { s.ports.laneEnd l side with stuck := true }).report (.fault (.padStuck l side) true)
  if s.race = .running ∧ s.inRace l then raised.commit l ((raised.laneWork l).judge l (.padStuck side)) else raised

/-- The pad has been held for the stuck limit in force and its fault is not raised yet (R50). -/
def State.stuckDue (s : State) (l : Lane) (side : PoolEnd) : Bool :=
  let e := s.ports.laneEnd l side
  match e.held with
  | some n => decide (s.stuckLimit ≤ n) && !e.stuck
  | none => false

/-- PAD_STUCK is raised if it is due. -/
def State.raiseStuckIfDue (s : State) (l : Lane) (side : PoolEnd) : State :=
  if s.stuckDue l side then s.raiseStuck l side else s

/-- After a change of the limit, every pad already held past it raises its fault, in lane order and START before TURN
(R11, R20, R34). -/
def State.raiseAllStuck (s : State) : State :=
  s.forLanes fun t l => (t.raiseStuckIfDue l .start).raiseStuckIfDue l .turn

/-! ### The start (R23, R25, R111) -/

/-- A lane of the race receives the start signal. -/
def State.startLane (p : Program) (mark : Nat) (source : StartSource) (s : State) (l : Lane) : State :=
  if p.inRace l then s.commit l ((s.laneWork l).startSignal (s.laneEnv p l) mark source) else s

/-- The start signal: RUNNING with its zero where the cause puts it, the RACE_NOTE with the start mark, and every lane
of the race started in lane order (R23, R25, R111, R168). -/
def State.startRace (s : State) (mark first : Nat) (source : StartSource) (cause : RaceCause) : State :=
  let begun := ({ s with source := some source, startMark := some mark } : State).onBoard fun b => { b with spent := false }
  let noted := (begun.enter .running ⟨.running, first⟩).raceNote .armed cause s.eventId mark
  match s.program with
  | some p => noted.forLanes (State.startLane p mark source)
  | none => noted

/-! ### The close (R29, R30) -/

/-- Stages 1 and 2 of a close for one lane. -/
def State.closeLane (p : Program) (s : State) (l : Lane) : State :=
  if p.inRace l then s.commit l ((s.laneWork l).close (s.laneEnv p l)) else s

/-- Stage 3 of a close for one lane. -/
def State.closeLaneStatus (p : Program) (s : State) (l : Lane) : State :=
  if p.inRace l then
    let w := s.laneWork l
    s.commit l { w with ctx := w.ctx.closeStatus }
  else s

/-- The race is closed in four stages, with one re-rank after stage 3 (R29). The map is recomputed at the re-rank and at the
change of the race state, after the auto fields (notes/assumptions/30.md). -/
def State.closeRace (s : State) (cause : RaceCause) : State :=
  let settled := match s.program with
    | some p => ((s.forLanes (State.closeLane p)).endWatches).forLanes (State.closeLaneStatus p)
    | none => s
  (settled.rerank.enter .complete { s.clock with phase := .held }).raceNote .running cause s.eventId s.clock.value

/-! ### Presses and takeoffs -/

/-- The TOUCH_NOTE of an accepted touch (R85). -/
def State.touchNote (s : State) (p : Program) (l : Lane) (side : PoolEnd) (wall stamp : Nat) (use : TouchUse) : State :=
  s.report (.touch l side wall stamp use (p.isFinal wall))

/-- A pad press handed to the Lane Engine gets its disposition, its log entry, and its effect (R77 to R82). -/
def State.padEvent (s : State) (l : Lane) (side : PoolEnd) (stamp : Stamp) : State :=
  match s.padUse l side stamp, s.program with
  | .ignored reason wall, _ => s.logEntry stamp (.pad l side) wall (.ignored reason)
  | .padTime w v, some p =>
    let noted := (s.logEntry stamp (.pad l side) (some w.index) .accepted).touchNote p l side w.index v .padTime
    noted.laneEvent l ((s.laneWork l).fillPad (s.laneEnv p l) w v)
  | .touch e v, some p =>
    let use := if p.isStation e.index then .collecting else .resolved
    let noted := (s.logEntry stamp (.pad l side) (some e.index) .accepted).touchNote p l side e.index v use
    noted.laneEvent l ((s.laneWork l).touch (s.laneEnv p l) e v)
  | _, none => s.logEntry stamp (.pad l side) none (.ignored .notInRace)

/-- A button press handed to the Lane Engine gets its disposition, its log entry, and its effect (R93 to R96). -/
def State.buttonEvent (s : State) (l : Lane) (side : PoolEnd) (b : Fin 3) (stamp : Stamp) : State :=
  match s.buttonUse l side b stamp, s.program with
  | .ignored reason wall, _ => s.logEntry stamp (.button l side b) wall (.ignored reason)
  | .join w v, _ =>
    (s.logEntry stamp (.button l side b) (some w.index) .accepted).setLane l ((s.context l).joinPress w b v)
  | .opens e v, some p =>
    (s.logEntry stamp (.button l side b) (some e.index) .accepted).setLane l ((s.context l).openByPress p e b v)
  | _, none => s.logEntry stamp (.button l side b) none (.ignored .notInRace)

/-- A takeoff reaches the Lane Engine: its disposition, its log entry, and its effect (R110, R112, R116, R119, R120). -/
def State.takeoffEvent (s : State) (t : Takeoff) : State :=
  let source : LogSource := .platform t.lane t.side
  match s.takeoffUse t, s.program with
  | .ignored reason wall, _ => s.logEntry t.stamp source wall (.ignored reason)
  | .keepPrestart, _ =>
    (s.logEntry t.stamp source none .accepted).setLane t.lane
      { s.context t.lane with takeoff := some ⟨1, t.stamp⟩ }
  | .react stamp, some p =>
    (s.logEntry t.stamp source none .accepted).commit t.lane
      ((s.laneWork t.lane).react (s.laneEnv p t.lane) (reactionOf stamp (s.startMark.getD 0)))
  | .judge official wall, some p =>
    (s.logEntry t.stamp source (some wall) .accepted).commit t.lane
      (((s.laneWork t.lane).on fun c => { c with takeoff := none }).judgeExchange (s.laneEnv p t.lane) t.leg
        t.stamp.value official)
  | .keepPending wall, _ =>
    (s.logEntry t.stamp source (some wall) .accepted).setLane t.lane
      { s.context t.lane with takeoff := some ⟨t.leg, t.stamp⟩ }
  | _, none => s.logEntry t.stamp source none (.ignored .notInRace)

/-- A start line edge reaches the Race Controller: it starts an ARMED race with a PRE stamp, and is otherwise logged and
ignored (R23, R24). -/
def State.startEdgeEvent (s : State) (stamp : Stamp) : State :=
  match s.race, stamp with
  | .armed, .pre mark => (s.logEntry stamp .start none .accepted).startRace mark 1 .line .startLine
  | _, _ => s.logEntry stamp .start none (.ignored .notArmedRace)

end Sys2Proof.Machine
end

