-- ==== Sys2Proof/Machine/AmendCommands.lean ====
section
/-! DEFINITION. AMEND and its four actions (R105 to R108, R138 to R144). -/

namespace Sys2Proof.Machine

/-- RUNNING or COMPLETE: the states in which AMEND is taken (R138). -/
def RaceState.takesAmend : RaceState → Bool
  | .running => true
  | .complete => true
  | _ => false

/-- An AMEND is refused. -/
def State.refuseAmend (s : State) (code : ResultCode) : State := s.answer kindAmend code []

/-- An AMEND is answered DONE with the lane, the action, the lane's status afterwards, and what the action adds (R138,
R107). -/
def State.amended (s : State) (l : Lane) (action : Byte) (more : List Byte) : State :=
  s.answer kindAmend .done ([laneCode l, action, (s.context l).status.code] ++ more)

/-- The checks common to every AMEND, in order: race state, lane, lane in the race (R138). -/
def State.amending (s : State) (lane : Byte) (act : Program → Lane → State) : State :=
  if s.race.takesAmend then
    match laneOfCode lane with
    | some l =>
      match s.program with
      | some p => if p.inRace l then act p l else s.refuseAmend .badState
      | none => s.refuseAmend .badState
    | none => s.refuseAmend .badValue
  else s.refuseAmend .badState

/-- The amendment record of a lane is written: the referee code, and the amended flag set (R139). -/
def State.setAmendment (s : State) (l : Lane) (code : Option Nat) : State :=
  { s with results := { s.results with amend := s.results.amend.set l ⟨code, true⟩ } }

/-! ### DISQUALIFY and DID_NOT_START (R140 to R142) -/

/-- What taking a lane out does to its work: in RUNNING, for a lane still in, the four steps of R140; otherwise the
status alone (R141, R142). -/
def LaneWork.strike (env : LaneEnv) (status : LaneStatus) (w : LaneWork) : LaneWork :=
  if env.running ∧ !w.ctx.status.isOut then w.takeOut env status else w.on fun c => { c with status }

/-- A lane is taken out with a status and a referee code. -/
def State.strike (s : State) (p : Program) (l : Lane) (status : LaneStatus) (code : Option Nat) : State :=
  (s.setAmendment l code).laneEvent l ((s.laneWork l).strike (s.laneEnv p l) status)

/-- DISQUALIFY, refused for referee code 0 (R140, R141). -/
def State.disqualify (lane code : Byte) (s : State) : State :=
  s.amending lane fun p l =>
    if code = 0 then s.refuseAmend .badValue
    else (s.strike p l .disqualified (some code.toNat)).amended l 0 []

/-- AMEND_DISQUALIFY (R140). -/
def execAmendDisqualify (lane code : Byte) (time : BitVec 32) (s : State) : Host.Outcome State Fault Refusal :=
  .next (s.take kindAmend ([lane, 0, code] ++ splitBytes time) (State.disqualify lane code))

/-- DID_NOT_START (R142). -/
def State.didNotStart (lane : Byte) (s : State) : State :=
  s.amending lane fun p l => (s.strike p l .didNotStart none).amended l 1 []

/-- AMEND_DID_NOT_START (R142). -/
def execAmendDidNotStart (lane code : Byte) (time : BitVec 32) (s : State) : Host.Outcome State Fault Refusal :=
  .next (s.take kindAmend ([lane, 1, code] ++ splitBytes time) (State.didNotStart lane))

/-! ### RESTORE (R143) -/

/-- The work of a restored lane: FINISHED with its final, SWIMMING again in RUNNING, or NO_TIME in COMPLETE (R143). -/
def LaneWork.restore (env : LaneEnv) (w : LaneWork) : LaneWork :=
  match w.ctx.final with
  | some _ => w.on fun c => { c with status := .finished }
  | none => if env.running then w.restoreSwimming env else w.on fun c => { c with status := .noTime }

/-- RESTORE, refused for a lane that is neither DISQUALIFIED nor DID_NOT_START (R143). -/
def State.restore (lane : Byte) (s : State) : State :=
  s.amending lane fun p l =>
    if (s.context l).status.isOut then
      ((s.setAmendment l none).laneEvent l ((s.laneWork l).restore (s.laneEnv p l))).amended l 2 []
    else s.refuseAmend .badState

/-- AMEND_RESTORE (R143). -/
def execAmendRestore (lane code : Byte) (time : BitVec 32) (s : State) : Host.Outcome State Fault Refusal :=
  .next (s.take kindAmend ([lane, 2, code] ++ splitBytes time) (State.restore lane))

/-! ### TIME_WALL (R105 to R108) -/

/-- A hand time lies after the lane's last official time and not after the clock (R105). -/
def State.handTimeFits (s : State) (l : Lane) (time : Nat) : Bool :=
  decide ((s.context l).lastOfficial.getD 0 < time) && decide (time ≤ s.clock.value)

/-- A hand time resolves wall `index` of a lane; the referee code is left as it is (R107, R139). -/
def State.handTime (s : State) (p : Program) (l : Lane) (index time : Nat) : State :=
  (s.setAmendment l s.results.amend[l].code).laneEvent l ((s.laneWork l).resolveByHand (s.laneEnv p l) index time)

/-- TIME_WALL with its checks in order: status, unresolved wall, time (R105 to R108). -/
def State.timeWall (lane : Byte) (time : Nat) (s : State) : State :=
  s.amending lane fun p l =>
    if (s.context l).status.isOut then s.refuseAmend .badState
    else
      match (s.context l).earliestUnresolved p (s.race = .running) with
      | none => s.refuseAmend .badState
      | some index =>
        if s.handTimeFits l time then (s.handTime p l index time).amended l 3 (be8 index ++ be32 time)
        else s.refuseAmend .badValue

/-- AMEND_TIME_WALL (R105). -/
def execAmendTimeWall (lane code : Byte) (time : BitVec 32) (s : State) : Host.Outcome State Fault Refusal :=
  .next (s.take kindAmend ([lane, 3, code] ++ splitBytes time) (State.timeWall lane time.toNat))

/-! ### The refused forms -/

/-- An AMEND of any payload: the action its code names, or for an unknown action the checks that come before it (R138). -/
def State.amendAny (payload : Payload) (s : State) : State :=
  match num8 payload 1 with
  | 0 => s.disqualify (byteAt payload 0) (byteAt payload 2)
  | 1 => s.didNotStart (byteAt payload 0)
  | 2 => s.restore (byteAt payload 0)
  | 3 => s.timeWall (byteAt payload 0) (num32 payload 3)
  | _ => if s.race.takesAmend then s.refuseAmend .badValue else s.refuseAmend .badState

/-- AMEND: the forms refused for an unknown action or for the payload's length (R138, R179). -/
def execAmend (payload : Payload) (s : State) : Host.Outcome State Fault Refusal :=
  .next (s.take kindAmend payload (State.amendAny payload))

end Sys2Proof.Machine
end

