-- ==== Sys2Proof/Machine/BoardCommands.lean ====
section
/-! DEFINITION. The commands of the Board Controller (chapter 10). -/

namespace Sys2Proof.Machine

/-! ### BOARD_MODE (R171) -/

/-- The mode frame slot after a change of mode: BLANK-on entering OFF, BLANK-off leaving it (R171). -/
def modeSlotAfter (before after : BoardMode) (slot : Option Bool) : Option Bool :=
  match before, after with
  | .off, _ => some false
  | _, .off => some true
  | _, _ => slot

/-- The mode is set; leaving OFF and leaving TEST mark every row dirty (R171). -/
def Board.setMode (b : Board) (m : BoardMode) : Board :=
  if b.mode = m then b
  else
    let marked := if b.mode = .off ∨ b.mode = .test then b.markAll else b
    { marked with mode := m, modeSlot := modeSlotAfter b.mode m b.modeSlot }

/-- BOARD_MODE (R171). -/
def State.boardMode (payload : Payload) (s : State) : State :=
  match boardModeOf payload with
  | some m => (s.onBoard fun b => b.setMode m).answer kindBoardMode .done []
  | none => s.answer kindBoardMode .badValue []

/-- BOARD_MODE (R171). -/
def execBoardMode (payload : Payload) (s : State) : Host.Outcome State Fault Refusal :=
  .next (s.take kindBoardMode payload (State.boardMode payload))

/-! ### BOARD_AREA and BOARD_MASK (R157, R159) -/

/-- The access area, with the cursor at its first cell (R157). -/
def Board.setArea (b : Board) (r : Rect) : Board := { b with area := r, cursor := ⟨r.x0, r.y0⟩ }

/-- BOARD_AREA, refused with BUSY during a clear (R157, R163). -/
def State.boardArea (payload : Payload) (s : State) : State :=
  if s.board.busy then s.answer kindBoardArea .busy []
  else
    match areaOf payload with
    | some r => (s.onBoard fun b => b.setArea r).answer kindBoardArea .done []
    | none => s.answer kindBoardArea .badValue []

/-- BOARD_AREA (R157). -/
def execBoardArea (payload : Payload) (s : State) : Host.Outcome State Fault Refusal :=
  .next (s.take kindBoardArea payload (State.boardArea payload))

/-- BOARD_MASK (R159). -/
def State.boardMask (payload : Payload) (s : State) : State :=
  match masksOf payload with
  | some (window, locks) => (s.onBoard fun b => { b with window, locks }).answer kindBoardMask .done []
  | none => s.answer kindBoardMask .badValue []

/-- BOARD_MASK (R159). -/
def execBoardMask (payload : Payload) (s : State) : Host.Outcome State Fault Refusal :=
  .next (s.take kindBoardMask payload (State.boardMask payload))

/-! ### BOARD_WRITE and BOARD_READ (R160, R161) -/

/-- The rows of board memory become those of a copy; the rows that change mark their display rows (R170). -/
def State.putRows (s : State) (cells : Vector CellRow 12) : State :=
  allRows.foldl (fun t y => t.writeRow y cells[y]) s

/-- What a write of cells does, cell after cell, to a copy of board memory (R160). -/
def Board.writeCells (b : Board) (cells : List Cell) : WriteProgress :=
  cells.foldl b.writeCell ⟨b.cells, b.cursor, 0, 0⟩

/-- Column and row of the cursor. -/
def Cursor.bytes (c : Cursor) : List Byte := be8 c.x ++ be8 c.y

/-- The cells of a write are written, whole, at the moment the command is taken (R160). -/
def State.writeBoard (s : State) (w : WriteProgress) : State :=
  (s.putRows w.cells).onBoard fun b => { b with cursor := w.cursor }

/-- BOARD_WRITE, refused with BUSY during a clear before its cells are looked at (R160, R163). -/
def State.boardWrite (payload : Payload) (s : State) : State :=
  if s.board.busy then s.answer kindBoardWrite .busy []
  else
    match writeCellsOf payload with
    | some cells =>
      let w := s.board.writeCells cells
      (s.writeBoard w).answer kindBoardWrite .done (be8 w.written ++ be8 w.skipped ++ w.cursor.bytes)
    | none => s.answer kindBoardWrite .badValue []

/-- BOARD_WRITE (R160). -/
def execBoardWrite (payload : Payload) (s : State) : Host.Outcome State Fault Refusal :=
  .next (s.take kindBoardWrite payload (State.boardWrite payload))

/-- BOARD_READ (R161). -/
def State.boardRead (payload : Payload) (s : State) : State :=
  if 1 ≤ num8 payload 0 ∧ num8 payload 0 ≤ 32 then
    let r := s.board.readCells s.board.cursor (num8 payload 0)
    (s.onBoard fun b => { b with cursor := r.2 }).answer kindBoardRead .done
      ((r.1.map Cell.bytes).flatten ++ r.2.bytes)
  else s.answer kindBoardRead .badValue []

/-- BOARD_READ (R161). -/
def execBoardRead (payload : Payload) (s : State) : Host.Outcome State Fault Refusal :=
  .next (s.take kindBoardRead payload (State.boardRead payload))

/-! ### BOARD_CLEAR and BOARD_CLEAR_STOP (R162, R163) -/

/-- BOARD_CLEAR: the clear starts, its first row one millisecond away (R162). -/
def State.boardClear (payload : Payload) (s : State) : State :=
  if s.board.busy then s.answer kindBoardClear .busy []
  else
    match cellOf payload 0 with
    | some fill =>
      (s.onBoard fun b => { b with clear := some ⟨fill, b.area.y0, Config.clearRowCounts⟩ }).answer kindBoardClear
        .done []
    | none => s.answer kindBoardClear .badValue []

/-- BOARD_CLEAR (R162). -/
def execBoardClear (payload : Payload) (s : State) : Host.Outcome State Fault Refusal :=
  .next (s.take kindBoardClear payload (State.boardClear payload))

/-- BOARD_CLEAR_STOP: the reply's flag says whether a clear was stopped (R163). -/
def execBoardClearStop (payload : Payload) (s : State) : Host.Outcome State Fault Refusal :=
  .next (s.take kindBoardClearStop payload fun t =>
    (t.onBoard fun b => { b with clear := none }).answer kindBoardClearStop .done [boolCode t.board.busy])

/-! ### BOARD_LAYOUT (R164) -/

/-- The layout is set: auto fields written at their new columns, the map recomputed, the clock row marked, in an order of the
model's choice (R164, DESIGN CHOICE, notes/assumptions/30.md). -/
def State.setLayout (s : State) (y : Layout) : State :=
  (s.onBoard fun b => { b with layout := y }).writeAllAuto.recomputeMap.markClockRow

/-- BOARD_LAYOUT (R164). -/
def State.boardLayout (payload : Payload) (s : State) : State :=
  match layoutOf payload with
  | some y => (s.setLayout y).answer kindBoardLayout .done [boolCode (layoutClamped payload)]
  | none => s.answer kindBoardLayout .badValue []

/-- BOARD_LAYOUT (R164). -/
def execBoardLayout (payload : Payload) (s : State) : Host.Outcome State Fault Refusal :=
  .next (s.take kindBoardLayout payload (State.boardLayout payload))

/-! ### BOARD_MODULE (R174) -/

/-- In OFF, BRIGHTNESS and BLANK-off are refused (R174). -/
def ModuleCommand.refusedInOff : ModuleCommand → Bool
  | .brightness _ => true
  | .blank on => !on
  | .selfTest => false
  | .moduleReset => false

/-- BOARD_MODULE with its checks in order: value, mode, slot (R174). -/
def State.boardModule (index value : Byte) (s : State) : State :=
  match moduleCommandOf index value with
  | none => s.answer kindBoardModule .badValue []
  | some c =>
    if s.board.mode = .off ∧ c.refusedInOff then s.answer kindBoardModule .badState []
    else if s.board.moduleSlot.isSome then s.answer kindBoardModule .busy []
    else (s.onBoard fun b => { b with moduleSlot := some c }).answer kindBoardModule .done []

/-- BRIGHTNESS: BOARD_MODULE with index 0 (R174). -/
def execBrightness (value : Byte) (s : State) : Host.Outcome State Fault Refusal :=
  .next (s.take kindBoardModule [0, value] (State.boardModule 0 value))

/-- BLANK: BOARD_MODULE with index 1 (R174). -/
def execBlank (value : Byte) (s : State) : Host.Outcome State Fault Refusal :=
  .next (s.take kindBoardModule [1, value] (State.boardModule 1 value))

/-- SELF_TEST: BOARD_MODULE with index 2 (R174). -/
def execSelfTest (value : Byte) (s : State) : Host.Outcome State Fault Refusal :=
  .next (s.take kindBoardModule [2, value] (State.boardModule 2 value))

/-- MODULE_RESET: BOARD_MODULE with index 3 (R174). -/
def execModuleReset (value : Byte) (s : State) : Host.Outcome State Fault Refusal :=
  .next (s.take kindBoardModule [3, value] (State.boardModule 3 value))

/-- BOARD_MODULE: the forms refused for an index above 3 or for the payload's length (R174, R179). -/
def execBoardModule (payload : Payload) (s : State) : Host.Outcome State Fault Refusal :=
  .next (s.take kindBoardModule payload (State.boardModule (byteAt payload 0) (byteAt payload 1)))

end Sys2Proof.Machine
end

