-- ==== Sys2Proof/Machine/LaneCommands.lean ====
section
/-! DEFINITION. The queries of lanes and results: LANE_ASK, WALLS_ASK, RESULTS_ASK (R88, R89, R146). None of them changes
anything but the reply slot. -/

namespace Sys2Proof.Machine

/-! ### LANE_ASK (R88, notes/assumptions/10.md) -/

/-- A stamp with its phase. -/
def Stamp.bytes (t : Stamp) : List Byte := t.phaseCode :: be32 t.value

/-- An expected wall: index, end, arm time, phase. -/
def ExpectedWall.bytes (w : ExpectedWall) : List Byte :=
  be8 w.index ++ [w.side.code] ++ be32 w.armTime ++ [boolCode w.armed]

/-- A collecting wall: index, end, pad time, close time, press list. -/
def CollectingWall.bytes (w : CollectingWall) : List Byte :=
  be8 w.index ++ [w.side.code] ++ optTime w.pad ++ be32 w.closeTime
    ++ counted (w.presses.map fun q => BitVec.ofNat 8 (q.button.val + 1) :: be32 q.stamp)

/-- A leg record: verdict and margin. -/
def LegRecord.bytes (r : LegRecord) : List Byte := r.verdict.code :: optSigned r.margin

/-- A cause with its detail. -/
def causeBytes (o : Option Judgement) : List Byte := causeCode o :: detailBytes o

/-- A final time with its flag and hundredths. -/
def Final.bytes (f : Final) : List Byte := be32 f.time ++ [boolCode f.confirmed] ++ be32 (hundredths f.time)

/-- A place, or absent. -/
def placeByte (o : Option Nat) : Byte := optByte (o.map (BitVec.ofNat 8))

/-- The data of the LANE_ASK reply (R88). -/
def State.laneData (s : State) (l : Lane) : List Byte :=
  let c := s.context l
  [laneCode l, boolCode (s.inRace l), c.status.code] ++ optField 7 (c.expected.map ExpectedWall.bytes)
    ++ optField 12 (c.collecting.map CollectingWall.bytes) ++ be8 c.resolved.length ++ optTime c.lastOfficial
    ++ optField 6 (c.takeoff.map fun t => be8 t.leg ++ t.stamp.bytes) ++ optSigned c.reaction ++ [sourceCode c.source]
    ++ counted (c.legs.map LegRecord.bytes) ++ counted (c.judgements.map fun j => causeBytes (some j))
    ++ causeBytes c.primary ++ optField 9 (c.final.map Final.bytes) ++ [placeByte s.results.places[l]]

/-- LANE_ASK (R88). -/
def execLaneAsk (payload : Payload) (s : State) : Host.Outcome State Fault Refusal :=
  .next (s.take kindLaneAsk payload fun t =>
    match laneOfCode (byteAt payload 0) with
    | some l => t.answer kindLaneAsk .done (t.laneData l)
    | none => t.answer kindLaneAsk .badValue [])

/-! ### WALLS_ASK (R89) -/

/-- The data of the WALLS_ASK reply: the number of resolved walls, then the records asked for (R89). -/
def LaneContext.wallsData (c : LaneContext) (first count : Nat) : List Byte :=
  be8 c.resolved.length ++ (((c.resolved.drop (first - 1)).take count).map WallRecord.bytes).flatten

/-- WALLS_ASK (R89). -/
def execWallsAsk (payload : Payload) (s : State) : Host.Outcome State Fault Refusal :=
  .next (s.take kindWallsAsk payload fun t =>
    match laneOfCode (byteAt payload 0) with
    | some l =>
      if 1 ≤ num8 payload 1 ∧ num8 payload 1 ≤ 64 ∧ 1 ≤ num8 payload 2 ∧ num8 payload 2 ≤ 8 then
        t.answer kindWallsAsk .done ((t.context l).wallsData (num8 payload 1) (num8 payload 2))
      else t.answer kindWallsAsk .badValue []
    | none => t.answer kindWallsAsk .badValue [])

/-! ### RESULTS_ASK (R134, R146) -/

/-- The split of wall w in hundredths, 0 for the start, absent while the wall is unresolved (R134). -/
def LaneContext.split (c : LaneContext) (w : Nat) : Option Nat :=
  if w = 0 then some 0 else (c.wallRecord w).map fun r => hundredths r.official

/-- The time from wall v to wall w, a difference of splits (R134). -/
def LaneContext.between (c : LaneContext) (v w : Nat) : Option Nat :=
  match c.split v, c.split w with
  | some a, some b => some (b - a)
  | _, _ => none

/-- The length times of walls 1 to n (R134). -/
def LaneContext.lengthTimes (c : LaneContext) : List Nat :=
  (List.range c.resolved.length).map fun i => (c.between i (i + 1)).getD 0

/-- The leg times of legs 1 to `legs`, each absent while its last wall is unresolved (R134). -/
def LaneContext.legTimes (c : LaneContext) (p : Program) : List (Option Nat) :=
  (List.range p.legs).map fun i => c.between (p.lastWall i) (p.lastWall (i + 1))

/-- The entry of a ranked lane in the reply to ALL (R146). -/
def State.rankedEntry (s : State) (l : Lane) : List Byte :=
  let c := s.context l
  [laneCode l, placeByte s.results.places[l]] ++ be32 (c.finalHundredths.getD 0) ++ [boolCode c.confirmed,
    causeCode c.primary, boolCode s.results.amend[l].amended]

/-- The entry of an unranked lane of the race in the reply to ALL (R146). -/
def State.unrankedEntry (s : State) (l : Lane) : List Byte :=
  let c := s.context l
  [laneCode l, c.status.code] ++ optTime c.finalHundredths
    ++ [optByte (s.results.amend[l].code.map (BitVec.ofNat 8)), causeCode c.primary,
      boolCode s.results.amend[l].amended]

/-- The data of the RESULTS_ASK reply to ALL (R146). -/
def State.allResults (s : State) : List Byte :=
  [s.race.code] ++ optField 2 (s.program.map fun p => be16 p.eventId)
    ++ counted (s.results.order.map s.rankedEntry)
    ++ counted ((allLanes.filter fun l => s.inRace l && !s.results.order.contains l).map s.unrankedEntry)

/-- The legs of the program in force with a lane's times, none without a program. -/
def State.legTimes (s : State) (l : Lane) : List (Option Nat) :=
  match s.program with
  | some p => (s.context l).legTimes p
  | none => []

/-- The data of the RESULTS_ASK reply to a lane (R146). -/
def State.laneResults (s : State) (l : Lane) : List Byte :=
  let c := s.context l
  [c.status.code, boolCode (s.inRace l)] ++ optTime c.finalHundredths
    ++ [optByte (c.final.map fun f => boolCode f.confirmed), placeByte s.results.places[l]] ++ be8 c.resolved.length
    ++ (c.lengthTimes.map be32).flatten ++ counted ((s.legTimes l).map optTime)

/-- RESULTS_ASK: selector ALL is 0xFF (R146). -/
def execResultsAsk (payload : Payload) (s : State) : Host.Outcome State Fault Refusal :=
  .next (s.take kindResultsAsk payload fun t =>
    if byteAt payload 0 = 0xFF then t.answer kindResultsAsk .done t.allResults
    else
      match laneOfCode (byteAt payload 0) with
      | some l => t.answer kindResultsAsk .done (t.laneResults l)
      | none => t.answer kindResultsAsk .badValue [])

end Sys2Proof.Machine
end

