-- ==== Sys2Proof/Machine/LinkOps.lean ====
section
/-! DEFINITION. The operations of the Console Link: the receiver's handling of one byte, the transmitter's choice and the
end of a frame, and what a reset keeps (chapter 11). -/

namespace Sys2Proof.Machine

/-! ### The receiver (R177, R178) -/

/-- A check has failed: the count rises and the receiver hunts again (R177). -/
def Link.failCheck (k : Link) : Link := { k with checkFail := countUp k.checkFail, rx := .hunting }

/-- A complete frame is handed to the inbound buffer, which holds two (R178). -/
def Link.handOn (k : Link) (f : Frame) : Link :=
  if k.inbound.length < Config.inboundPlaces then { k with inbound := k.inbound ++ [f] }
  else { k with overrunCount := countUp k.overrunCount }

/-- The rest of a frame has been gathered: kind, payload and check (R177). -/
def Link.completeFrame (k : Link) (length : Byte) (rest : List Byte) : Link :=
  match rest with
  | kind :: tail =>
    if (length :: rest).sum = 0 then { k with rx := .hunting }.handOn ⟨kind, tail.dropLast⟩ else k.failCheck
  | [] => k.failCheck

/-- One byte arrives (R177). -/
def Link.receiveByte (k : Link) (b : Byte) : Link :=
  match k.rx with
  | .hunting => if b = syncByte then { k with rx := .inFrame [] 0 } else k
  | .inFrame [] _ =>
    if b = 0 ∨ maxFrameLength < b.toNat then k.failCheck else { k with rx := .inFrame [b] 0 }
  | .inFrame (length :: gathered) _ =>
    let rest := gathered ++ [b]
    if rest.length ≤ length.toNat then { k with rx := .inFrame (length :: rest) 0 }
    else k.completeFrame length rest

/-- Bytes arrive one after the other. -/
def Link.receive (k : Link) (bytes : List Byte) : Link := bytes.foldl Link.receiveByte k

/-- 20 ms have passed in IN_FRAME without a byte (R177). -/
def Receiver.gapOver : Receiver → Bool
  | .hunting => false
  | .inFrame _ gap => decide (Config.gapCounts ≤ gap)

/-- A partial frame is discarded, at a gap or at a change of speed (R177, R184). -/
def Link.dropPartial (k : Link) : Link :=
  match k.rx with
  | .hunting => k
  | .inFrame _ _ => k.failCheck

/-! ### The transmitter (R180) -/

/-- A byte takes ten bit times; the time left is in ten-thousandths of a bit time (R176). -/
def byteTime : Nat := 100000

/-- A frame begins on the line. -/
def Link.beginLine (k : Link) (isReply : Bool) (bytes : List Byte) : Link :=
  { k with line := some ⟨isReply, bytes, bytes.length * byteTime⟩ }

/-- On a free line the transmitter chooses: the reply in the slot, or the oldest report, which leaves the queue. While a
change of speed or a controller reset is due, it waits for that (R180, R184, R185). -/
def Link.choose (k : Link) : Link :=
  match k.line, k.effectDue, k.slot, k.queue with
  | none, false, .holding r, _ => k.beginLine true r.frame
  | none, false, _, r :: rs => { k with queue := rs }.beginLine false r.frame
  | _, _, _, _ => k

/-- A command waits that the Console Link can take: the slot is empty and no change of the link is due (R179). -/
def Link.commandWaits (k : Link) : Bool := !k.inbound.isEmpty && k.slot == .empty && !k.effectDue

/-- The reply on the line has been sent: the slot empties, and what the reply brings about is due (R180, R184, R185). -/
def Link.endReply (k : Link) : Link :=
  { k with line := none, slot := .empty, effectDue := k.effect.isSome, choices := k.choices + 1 }

/-- The last byte of the frame on the line has been sent, and the transmitter chooses the next frame. At the end of a
reply a waiting command and the choice go in either order, by the free value. At the end of a report a command that could
be taken has been taken at once, so its reply comes before the next report: the choice waits for it (R179, R180,
notes/assumptions/17.md). -/
def Link.endLine (k : Link) : Link :=
  match k.line with
  | some ⟨true, _, _⟩ =>
    if k.endReply.commandWaits && Config.commandFirst k.choices then k.endReply else k.endReply.choose
  | _ =>
    let freed : Link := { k with line := none }
    if freed.commandWaits then freed else freed.choose

/-- A frame on the line with time still to go has not ended. -/
def Link.sending (k : Link) : Bool := k.line.any fun f => f.left != 0

/-! ### Changes brought about by a reply (R184, R185) -/

/-- The new speed takes effect: a frame being gathered is discarded (R184). -/
def Link.changeSpeed (k : Link) (code : Fin 4) : Link :=
  { k with speed := code, effect := none, effectDue := false }.dropPartial

/-- A channel after CONTROLLER_RESET: the offset is kept (R68). -/
def Channel.controllerReset (c : Channel) : Channel := { Channel.reset with offset := c.offset }

/-- A sampler after CONTROLLER_RESET: thresholds and offsets are kept (R68). -/
def Sampler.controllerReset (m : Sampler) : Sampler :=
  { Sampler.reset with
    load := m.load
    release := m.release
    channels := Vector.ofFn fun l => m.channels[l].controllerReset }

/-- The state after power-on, with the commands that wait kept. -/
def State.afterReset (s : State) : State := { State.reset with pending := s.pending }

/-- The state after CONTROLLER_RESET: power-on values but for the link speed, the report enables, and the platform
offsets and thresholds (R185). -/
def State.afterControllerReset (s : State) : State :=
  { s.afterReset with
    samplers := ⟨s.samplers.start.controllerReset, s.samplers.turn.controllerReset⟩
    link := { Link.reset with speed := s.link.speed, enables := s.link.enables } }

end Sys2Proof.Machine
end

