-- ==== Sys2Proof/Machine/LinkCommands.lean ====
section
/-! DEFINITION. The rows of the Console Link: bytes received, frame ends, and the commands that belong to the link
itself (R177 to R185). -/

namespace Sys2Proof.Machine

/-! ### Events of the line -/

/-- FRAME_RECEIVED: bytes arrive on the line; a frame that completes is checked and handed to the inbound buffer (R177,
R178). -/
def execFrameReceived (bytes : List Byte) (s : State) : Host.Outcome State Fault Refusal :=
  .next (s.unlessHeld fun t => t.onLink fun k => k.receive bytes)

/-- FRAME_GAP_TIMEOUT, when 20 ms have passed without a byte: the partial frame is discarded. A byte taken before it
continues the frame, and there is no such event any more (R177). -/
def execFrameGapTimeout (s : State) : Host.Outcome State Fault Refusal :=
  .next (s.unlessHeld fun t => if t.link.rx.gapOver then t.onLink Link.dropPartial else t)

/-- LINE_FRAME_END, when the last byte of the frame on the line has been sent, or on a free line (R180). -/
def execLineFrameEnd (s : State) : Host.Outcome State Fault Refusal :=
  .next (s.unlessHeld fun t => if t.link.sending then t else t.onLink Link.endLine)

/-- LINK_SPEED_CHANGE, when the LINK_SET reply has been sent (R184); at any other moment there is no such event. -/
def execLinkSpeedChange (s : State) : Host.Outcome State Fault Refusal :=
  .next (s.unlessHeld fun t =>
    match t.link.effectDue, t.link.effect with
    | true, some (.speed code) => t.onLink fun k => k.changeSpeed code
    | _, _ => t)

/-- UNKNOWN_KIND: a frame whose kind is no command kind is taken and refused (R179). -/
def execUnknownKind (kind : Byte) (payload : Payload) (s : State) : Host.Outcome State Fault Refusal :=
  .next
    (if s.canTake ⟨kind, payload⟩ ∧ (payloadLength kind payload).isNone then
      s.dropInbound.answer kind .unknownKind []
    else s)

/-! ### Commands -/

/-- The identification: "LT10", revision 1, ten lanes, twelve rows, thirty-two columns, log capacity 512 (R183). -/
def identification : List Byte := [0x4C, 0x54, 0x31, 0x30, 1, 10, 12, 32] ++ be16 Config.logCapacity

/-- IDENT_ASK (R183). -/
def execIdentAsk (payload : Payload) (s : State) : Host.Outcome State Fault Refusal :=
  .next (s.take kindIdentAsk payload fun t => t.answer kindIdentAsk .done identification)

/-- The data of the STATUS_ASK reply (R182). -/
def State.statusData (s : State) : List Byte :=
  [s.race.code, s.clock.phase.code] ++ be32 s.clock.value ++ be16 s.link.summary.toNat ++ be16 s.link.checkFail
    ++ be16 s.link.overrunCount ++ be16 s.log.entries.length ++ [boolCode s.board.busy] ++ be8 s.board.dirtyCount
    ++ s.stuckSet ++ s.platformFaultSet ++ [boolCode s.overrun]

/-- The summary set is cleared (R182). -/
def State.clearSummary (s : State) : State := s.onLink fun k => { k with summary := 0 }

/-- STATUS_ASK: the status is reported and the summary set is then cleared (R182). -/
def execStatusAsk (payload : Payload) (s : State) : Host.Outcome State Fault Refusal :=
  .next (s.take kindStatusAsk payload fun t => t.clearSummary.answer kindStatusAsk .done t.statusData)

/-- The enables take effect now, a new speed when the reply has been sent (R184). -/
def Link.set (k : Link) (code : Fin 4) (enables : BitVec 8) : Link :=
  { k with enables, effect := if code = k.speed then none else some (.speed code) }

/-- LINK_SET (R184). -/
def State.linkSet (payload : Payload) (s : State) : State :=
  match speedOfCode (byteAt payload 0) with
  | some code =>
    (s.onLink fun k => k.set code (byteAt payload 1)).answer kindLinkSet .done [byteAt payload 0, byteAt payload 1]
  | none => s.answer kindLinkSet .badValue []

/-- LINK_SET (R184). -/
def execLinkSet (payload : Payload) (s : State) : Host.Outcome State Fault Refusal :=
  .next (s.take kindLinkSet payload (State.linkSet payload))

/-- CONTROLLER_RESET: the reply is placed in the slot, and the reset waits until it has been sent (R185). -/
def execControllerReset (payload : Payload) (s : State) : Host.Outcome State Fault Refusal :=
  .next (s.take kindControllerReset payload fun t =>
    (t.onLink fun k => { k with effect := some .reset }).answer kindControllerReset .done [])

end Sys2Proof.Machine
end

