-- ==== Sys2Proof/Machine/LogCommands.lean ====
section
/-! DEFINITION. The commands of the Event Log (R153, R154). -/

namespace Sys2Proof.Machine

/-- The log after its oldest entries, as many as the count, have been removed; a fill below 384 arms the notice (R152,
R153). -/
def EventLog.removeOldest (g : EventLog) (count : Nat) : EventLog :=
  { g with
    entries := g.entries.drop count
    armed := g.armed || decide ((g.entries.drop count).length < Config.logNotice) }

/-- The data of the LOG_READ reply: the number of entries, the entries, the number that remain, the dropped count (R153,
11.7). -/
def EventLog.readData (g : EventLog) (count : Nat) : List Byte :=
  counted ((g.entries.take count).map LogEntry.bytes) ++ be16 (g.entries.drop count).length ++ be16 g.dropped

/-- LOG_READ (R153). -/
def State.logRead (payload : Payload) (s : State) : State :=
  if 1 ≤ num8 payload 0 ∧ num8 payload 0 ≤ 8 then
    ({ s with log := s.log.removeOldest (num8 payload 0) } : State).answer kindLogRead .done
      (s.log.readData (num8 payload 0))
  else s.answer kindLogRead .badValue []

/-- LOG_READ (R153). -/
def execLogRead (payload : Payload) (s : State) : Host.Outcome State Fault Refusal :=
  .next (s.take kindLogRead payload (State.logRead payload))

/-- The log without entries; the sequence counter is kept (R154). -/
def EventLog.cleared (g : EventLog) : EventLog := { g with entries := [], dropped := 0, armed := true }

/-- LOG_CLEAR (R154). -/
def execLogClear (payload : Payload) (s : State) : Host.Outcome State Fault Refusal :=
  .next (s.take kindLogClear payload fun t =>
    ({ t with log := t.log.cleared } : State).answer kindLogClear .done [])

end Sys2Proof.Machine
end

