-- ==== Sys2Proof/Machine/PlatformOps.lean ====
section
/-! DEFINITION. The operations of the Platform Samplers: what one conversion does to a channel, zeroing, and taking a
sampler out of service (chapter 04). -/

namespace Sys2Proof.Machine

/-- What a conversion brings about: the channel after it, the leg of the takeoff it makes, and the word of the
FAULT_NOTE it generates. -/
structure Conversion where
  channel : Channel
  takeoff : Option Nat
  note : Option Bool

/-- The platform state is tested against the thresholds; a watched LOADED platform that empties is a takeoff, which ends
its watch (R58, R61). -/
def Channel.testState (load release : Nat) (c : Channel) : Conversion :=
  if c.loaded then
    if c.corrected < release then ⟨{ c with loaded := false, watch := none }, c.watch, none⟩ else ⟨c, none, none⟩
  else ⟨{ c with loaded := decide (load ≤ c.corrected) }, none, none⟩

/-- A conversion of a channel whose fault is CLEAR: full-scale readings are counted, and the third in a row raises the
fault (R58, R63). -/
def Channel.convertGood (load release reading : Nat) (c : Channel) : Conversion :=
  if reading = Config.fullScale then
    if 2 ≤ c.fullRun then ⟨{ c with fault := true, fullRun := 0, goodRun := 0 }, none, some true⟩
    else ⟨{ c with fullRun := c.fullRun + 1 }, none, none⟩
  else Channel.testState load release { c with fullRun := 0 }

/-- A conversion of a channel whose fault is RAISED: good readings are counted, and the tenth in a row clears the fault
and sets the platform state afresh (R64). -/
def Channel.convertFaulted (load reading : Nat) (c : Channel) : Conversion :=
  if reading = Config.fullScale then ⟨{ c with goodRun := 0 }, none, none⟩
  else if 9 ≤ c.goodRun then
    ⟨{ c with fault := false, goodRun := 0, loaded := decide (load ≤ c.corrected) }, none, some false⟩
  else ⟨{ c with goodRun := c.goodRun + 1 }, none, none⟩

/-- The reading enters the raw and corrected values (R54). -/
def Channel.read (reading : Nat) (c : Channel) : Channel := { c with raw := reading, corrected := reading - c.offset }

/-- A conversion completes (R54, R58, R63, R64). -/
def Channel.convert (load release reading : Nat) (c : Channel) : Conversion :=
  let r := c.read reading
  if c.fault then r.convertFaulted load reading else r.convertGood load release reading

/-- The zeroing conversion can take the reading as the channel's offset (R57). -/
def Channel.zeroable (c : Channel) (reading : Nat) : Bool := decide (reading < Config.fullScale) && !c.fault

/-! ### Zeroing (R56, R57) -/

/-- The zeroing still waits for the conversion of this channel. -/
def Zeroing.waits (z : Zeroing) (side : PoolEnd) (l : Lane) : Bool :=
  match z.left.get side with
  | some lanes => lanes.contains l
  | none => false

/-- The zeroing conversion of a channel has been made. -/
def Zeroing.done (z : Zeroing) (side : PoolEnd) (l : Lane) (skip : Bool) : Zeroing :=
  { left := z.left.set side ((z.left.get side).map fun lanes => lanes.filter fun k => k != l)
    skipped := if skip then z.skipped ++ [(l, side)] else z.skipped }

/-- Every sampler that takes part has converted its ten channels. -/
def Zeroing.finished (z : Zeroing) : Bool := z.left.start.getD [] == [] && z.left.turn.getD [] == []

/-- The data of the DONE reply to PLATFORM_ZERO: the ends zeroed and the lane ends skipped (R56, 11.7). -/
def Zeroing.reply (z : Zeroing) : List Byte :=
  BitVec.ofNat 8 ((if z.left.start.isSome then 1 else 0) + (if z.left.turn.isSome then 2 else 0))
    :: laneEndSet fun l side => z.skipped.contains (l, side)

/-- The zeroing that begins now: every lane of each ENABLED sampler is still to come. -/
def State.newZeroing (s : State) : Zeroing :=
  { left := ⟨if s.samplers.start.enabled then some allLanes else none,
      if s.samplers.turn.enabled then some allLanes else none⟩
    skipped := [] }

/-- The zeroing part of a conversion: the reading becomes the offset, or the lane end is skipped (R57). -/
def State.zeroChannel (s : State) (side : PoolEnd) (l : Lane) (reading : Nat) : State :=
  match s.zeroing with
  | some z =>
    if z.waits side l then
      let c := s.channel side l
      let kept : State := { s with zeroing := some (z.done side l (!c.zeroable reading)) }
      if c.zeroable reading then kept.setChannel side l { c with offset := reading } else kept
    else s
  | none => s

/-! ### Conversions (R53, R61) -/

/-- What a conversion brings about is put back: the channel, the FAULT_NOTE, and the takeoff on its way to the Lane
Engine with the stamp of this moment (R61, R63, R64). -/
def State.putConversion (s : State) (side : PoolEnd) (l : Lane) (r : Conversion) : State :=
  let put := s.setChannel side l r.channel
  let noted := match r.note with
    | some raised => put.report (.fault (.platform l side) raised)
    | none => put
  match r.takeoff with
  | some leg => { noted with takeoffs := noted.takeoffs ++ [⟨side, l, leg, s.clock.reading⟩] }
  | none => noted

/-- The channel that is converted in a count with the rotation at this position. R53 converts the two channels of one lane
at different counts, and R68 gives both samplers lane 0 at the first count: START converts the channel at its position,
TURN the channel before it, so that the one at its position is due for the conversion after (DESIGN CHOICE,
notes/assumptions/26.md). -/
def convertedLane (side : PoolEnd) (position : Lane) : Lane :=
  match side with
  | .start => position
  | .turn => position - 1

/-- The channel a sampler has still to convert in this count: a DISABLED sampler converts nothing, and there is one
conversion per count (R53). -/
def Sampler.due (side : PoolEnd) (m : Sampler) : Option Lane :=
  if m.enabled ∧ !m.spent then some (convertedLane side m.rotation) else none

/-- The conversion of this count has been made. -/
def State.spendConversion (s : State) (side : PoolEnd) : State := s.onSampler side fun m => { m with spent := true }

/-- The conversion of a channel of a sampler completes: its zeroing part, then the channel itself (R54, R57). -/
def State.convertChannel (s : State) (side : PoolEnd) (l : Lane) (reading : Nat) : State :=
  let m := s.sampler side
  let zeroed := s.zeroChannel side l reading
  zeroed.putConversion side l ((zeroed.channel side l).convert m.load m.release reading)

/-- The conversion of the channel due completes (R53). -/
def State.convert (s : State) (side : PoolEnd) (reading : Nat) : State :=
  match (s.sampler side).due side with
  | some l => (s.convertChannel side l reading).spendConversion side
  | none => s

/-! ### Disabling a sampler (R65) -/

/-- A channel of a sampler taken out of service: offset and watch are kept. -/
def Channel.disabled (c : Channel) : Channel :=
  { c with raw := 0, corrected := 0, loaded := false, fault := false, fullRun := 0, goodRun := 0 }

/-- The FAULT_NOTEs of the faults that disabling a sampler clears. R65 gives them no order; the model queues them in
lane order (DESIGN CHOICE, notes/assumptions/28.md). -/
def Sampler.clearedFaults (m : Sampler) (side : PoolEnd) : List Report :=
  (allLanes.filter fun l => m.channels[l].fault).map fun l => .fault (.platform l side) false

/-- A sampler's enable becomes a value; disabling an ENABLED sampler clears its channels, with a FAULT_NOTE for each
fault cleared; a DISABLED sampler that is enabled converts from the next count on (R65, R66). -/
def State.setSampler (s : State) (side : PoolEnd) (enabled : Bool) : State :=
  let m := s.sampler side
  match m.enabled, enabled with
  | true, false =>
    (s.onSampler side fun m => { m.mapChannels Channel.disabled with enabled := false }).reportAll (m.clearedFaults side)
  | false, true => s.onSampler side fun m => { m with enabled := true, spent := true }
  | _, _ => s

end Sys2Proof.Machine
end

