-- ==== Sys2Proof/Machine/PlatformCommands.lean ====
section
/-! DEFINITION. The commands of the Platform Samplers, and the end of a zeroing (chapter 04). -/

namespace Sys2Proof.Machine

/-- PLATFORM_ZERO: refused in ARMED and RUNNING, answered at once when neither sampler is ENABLED, else its reply is held
back until the zeroing ends (R56). -/
def State.platformZero (s : State) : State :=
  if s.race = .armed ∨ s.race = .running then s.answer kindPlatformZero .badState []
  else if s.newZeroing.finished then s.answer kindPlatformZero .done s.newZeroing.reply
  else ({ s with zeroing := some s.newZeroing } : State).onLink fun k => { k with slot := .zeroing }

/-- PLATFORM_ZERO (R56). -/
def execPlatformZero (payload : Payload) (s : State) : Host.Outcome State Fault Refusal :=
  .next (s.take kindPlatformZero payload State.platformZero)

/-- ZEROING_COMPLETE, when every sampler that takes part has converted its ten channels: the reply enters the slot (R56,
R57); at any other moment there is no such event. -/
def execZeroingComplete (s : State) : Host.Outcome State Fault Refusal :=
  .next (s.unlessHeld fun t =>
    match t.zeroing with
    | some z =>
      if z.finished then ({ t with zeroing := none } : State).answer kindPlatformZero .done z.reply else t
    | none => t)

/-- The thresholds of a PLATFORM_LIMITS payload, clamped (R59). -/
def limitsOf (payload : Payload) : Nat × Nat :=
  let load := clampTo 1 1022 (num16 payload 1)
  (load, clampTo 1 load (num16 payload 3))

/-- PLATFORM_LIMITS (R59). -/
def State.platformLimits (payload : Payload) (s : State) : State :=
  match sideOfCode (byteAt payload 0) with
  | some side =>
    (s.onSampler side fun m => { m with load := (limitsOf payload).1, release := (limitsOf payload).2 }).answer
      kindPlatformLimits .done (be16 (limitsOf payload).1 ++ be16 (limitsOf payload).2)
  | none => s.answer kindPlatformLimits .badValue []

/-- PLATFORM_LIMITS (R59). -/
def execPlatformLimits (payload : Payload) (s : State) : Host.Outcome State Fault Refusal :=
  .next (s.take kindPlatformLimits payload (State.platformLimits payload))

/-- The data of the PLATFORM_ASK reply (R67). -/
def State.platformData (s : State) (side : PoolEnd) (l : Lane) : List Byte :=
  let c := s.channel side l
  let m := s.sampler side
  be16 c.raw ++ be16 c.corrected ++ be16 c.offset ++ [boolCode c.loaded, optByte (c.watch.map (BitVec.ofNat 8)),
    boolCode c.fault, boolCode m.enabled] ++ be16 m.load ++ be16 m.release

/-- PLATFORM_ASK (R67). -/
def execPlatformAsk (payload : Payload) (s : State) : Host.Outcome State Fault Refusal :=
  .next (s.take kindPlatformAsk payload fun t =>
    match sideOfCode (byteAt payload 0), laneOfCode (byteAt payload 1) with
    | some side, some l => t.answer kindPlatformAsk .done (t.platformData side l)
    | _, _ => t.answer kindPlatformAsk .badValue [])

/-- The enables of both samplers (R65). -/
def State.samplerEnables (s : State) : List Byte :=
  [boolCode s.samplers.start.enabled, boolCode s.samplers.turn.enabled]

/-- SAMPLER_SET (R65, R66). -/
def State.samplerSet (payload : Payload) (s : State) : State :=
  match sideOfCode (byteAt payload 0), boolOfCode (byteAt payload 1) with
  | some side, some enabled =>
    let t := s.setSampler side enabled
    t.answer kindSamplerSet .done t.samplerEnables
  | _, _ => s.answer kindSamplerSet .badValue []

/-- SAMPLER_SET (R65). -/
def execSamplerSet (payload : Payload) (s : State) : Host.Outcome State Fault Refusal :=
  .next (s.take kindSamplerSet payload (State.samplerSet payload))

end Sys2Proof.Machine
end

