-- ==== Sys2Proof/Machine/PoolOps.lean ====
section
/-! DEFINITION. The operations of the Lane Port Unit: the recognition state of a line, what a recognised press or
release does, and setting a group's mode (chapter 03). -/

namespace Sys2Proof.Machine

/-! ### Recognition states (R38) -/

/-- The recognition state of a contact line. -/
def Ports.line (p : Ports) : Line → LineState
  | .pad l side => (p.laneEnd l side).pad
  | .button l side b => (p.laneEnd l side).buttons[b]
  | .startLine => p.startLine

/-- The recognition state of a contact line is replaced. -/
def Ports.setLine (p : Ports) (line : Line) (x : LineState) : Ports :=
  match line with
  | .pad l side => p.setLaneEnd l side { p.laneEnd l side with pad := x }
  | .button l side b =>
    p.setLaneEnd l side { p.laneEnd l side with buttons := (p.laneEnd l side).buttons.set b x }
  | .startLine => { p with startLine := x }

/-- The recognition state of a contact line is replaced. -/
def State.setLine (s : State) (line : Line) (x : LineState) : State := s.onPorts fun p => p.setLine line x

/-! ### Recognised presses and releases (R38 to R41, R49, R51) -/

/-- A pad press is recognised, one count after its stamped sample: the stuck timer starts, and in a TIMED group with the
pad enabled the press goes to the Lane Engine (R40, R49). -/
def State.recognisePad (s : State) (l : Lane) (side : PoolEnd) (stamp : Stamp) : State :=
  let e := s.ports.laneEnd l side
  let held := s.setLaneEnd l side { e with pad := .pressed, held := some 1 }
  if s.ports.laneMode l = .timed ∧ e.padOn then held.padEvent l side stamp else held

/-- A button press is recognised (R40). -/
def State.recogniseButton (s : State) (l : Lane) (side : PoolEnd) (b : Fin 3) (stamp : Stamp) : State :=
  let pressed := s.setLine (.button l side b) .pressed
  if s.ports.laneMode l = .timed ∧ (s.ports.laneEnd l side).buttonsOn then pressed.buttonEvent l side b stamp
  else pressed

/-- A start line edge is recognised (R41). -/
def State.recogniseStart (s : State) (stamp : Stamp) : State := (s.setLine .startLine .pressed).startEdgeEvent stamp

/-- A press of a line is recognised. -/
def State.recognisePress (s : State) (line : Line) (stamp : Stamp) : State :=
  match line with
  | .pad l side => s.recognisePad l side stamp
  | .button l side b => s.recogniseButton l side b stamp
  | .startLine => s.recogniseStart stamp

/-- A pad release is recognised: the stuck timer stops, and a raised stuck fault is cleared with its FAULT_NOTE (R49,
R51). -/
def State.releasePad (s : State) (l : Lane) (side : PoolEnd) : State :=
  let e := s.ports.laneEnd l side
  let freed := s.setLaneEnd l side { e with pad := .released, held := none, stuck := false }
  if e.stuck then freed.report (.fault (.padStuck l side) false) else freed

/-- A release of a line is recognised (R38, R39). -/
def State.recogniseRelease (s : State) (line : Line) : State :=
  match line with
  | .pad l side => s.releasePad l side
  | .button l side b => s.setLine (.button l side b) .released
  | .startLine => s.setLine .startLine .released

/-- One sample of a contact line (R38). -/
def State.sample (s : State) (line : Line) (closed : Bool) : State :=
  match s.ports.line line, closed with
  | .released, true => s.setLine line (.pressSeen s.clock.reading)
  | .released, false => s
  | .pressSeen stamp, true => s.recognisePress line stamp
  | .pressSeen _, false => s.setLine line .released
  | .pressed, true => s
  | .pressed, false => s.setLine line .releaseSeen
  | .releaseSeen, true => s.setLine line .pressed
  | .releaseSeen, false => s.recogniseRelease line

/-- A press of a line whose first pressed sample has been seen is recognised; a line in any other state has no press to
recognise (R38). -/
def State.secondPress (s : State) (line : Line) : State :=
  match s.ports.line line with
  | .pressSeen stamp => s.recognisePress line stamp
  | _ => s

/-- A release of a line whose first released sample has been seen is recognised (R38). -/
def State.secondRelease (s : State) (line : Line) : State :=
  match s.ports.line line with
  | .releaseSeen => s.recogniseRelease line
  | _ => s

/-! ### Group modes (R43) -/

/-- Half-recognised changes are discarded (R43). -/
def LineState.settle : LineState → LineState
  | .released => .released
  | .pressSeen _ => .released
  | .pressed => .pressed
  | .releaseSeen => .pressed

/-- What GROUP_MODE does to a lane end of the group (R43). -/
def LaneEnd.groupModeSet (e : LaneEnd) : LaneEnd :=
  { e with
    pad := e.pad.settle
    buttons := Vector.ofFn fun b => e.buttons[b].settle
    held := if e.pad.isPressed then some 0 else e.held
    lamp := .off
    padOn := true
    buttonsOn := true }

/-- A group's mode is replaced. -/
def Ports.setMode (p : Ports) (g : Group) (m : GroupMode) : Ports :=
  match g with
  | .low => { p with low := m }
  | .high => { p with high := m }

/-- GROUP_MODE is taken (R43). -/
def Ports.takeGroupMode (p : Ports) (g : Group) (m : GroupMode) : Ports :=
  (p.setMode g m).mapLaneEnds fun l e => if groupOf l = g then e.groupModeSet else e

/-- The group holds a lane of the race in force. -/
def State.groupInRace (s : State) (g : Group) : Bool := allLanes.any fun l => groupOf l = g && s.inRace l

end Sys2Proof.Machine
end

