-- ==== Sys2Proof/Machine/PoolEvents.lean ====
section
/-! DEFINITION. The rows of the pool: samples, recognised presses and releases, stuck timers, platform conversions and
takeoffs (chapters 03, 04, 07). While the reset line is held there is none of them (R37). -/

namespace Sys2Proof.Machine

/-- CONTACT_LINE_SAMPLE: one sample of a contact line, with the recognition it may complete (R38). -/
def execContactLineSample (line : Line) (closed : Bool) (s : State) : Host.Outcome State Fault Refusal :=
  .next (s.unlessHeld fun t => t.sample line closed)

/-- PAD_PRESS: the second pressed sample of a pad, whose first has been seen (R38, R77). -/
def execPadPress (l : Lane) (side : PoolEnd) (s : State) : Host.Outcome State Fault Refusal :=
  .next (s.unlessHeld fun t => t.secondPress (.pad l side))

/-- BUTTON_PRESS: the second pressed sample of a button, whose first has been seen (R38, R93). -/
def execButtonPress (l : Lane) (side : PoolEnd) (b : Fin 3) (s : State) : Host.Outcome State Fault Refusal :=
  .next (s.unlessHeld fun t => t.secondPress (.button l side b))

/-- START_LINE_EDGE: the second pressed sample of the start line, whose first has been seen (R23, R38). -/
def execStartLineEdge (s : State) : Host.Outcome State Fault Refusal :=
  .next (s.unlessHeld fun t => t.secondPress .startLine)

/-- LINE_RELEASE: the second released sample of a line, whose first has been seen (R38, R51). -/
def execLineRelease (line : Line) (s : State) : Host.Outcome State Fault Refusal :=
  .next (s.unlessHeld fun t => t.secondRelease line)

/-- STUCK_TIMER_EXPIRY, when a pad's stuck timer has reached the limit in force (R50); at any other moment there is no
such event. -/
def execStuckTimerExpiry (l : Lane) (side : PoolEnd) (s : State) : Host.Outcome State Fault Refusal :=
  .next (s.unlessHeld fun t => t.raiseStuckIfDue l side)

/-- PLATFORM_CONVERSION: the conversion of the channel due completes with a reading (R53, R54). -/
def execPlatformConversion (side : PoolEnd) (reading : Fin 1024) (s : State) : Host.Outcome State Fault Refusal :=
  .next (s.unlessHeld fun t => t.convert side reading.val)

/-- The first takeoff on its way from a lane end reaches the Lane Engine (R116). -/
def State.deliverTakeoff (s : State) (side : PoolEnd) (l : Lane) : State :=
  match s.takeoffs.find? fun t => t.side = side ∧ t.lane = l with
  | some t => ({ s with takeoffs := s.takeoffs.erase t } : State).takeoffEvent t
  | none => s

/-- TAKEOFF, when a takeoff of the lane end is on its way (R61, R116); at any other moment there is no such event. -/
def execTakeoff (side : PoolEnd) (l : Lane) (s : State) : Host.Outcome State Fault Refusal :=
  .next (s.unlessHeld fun t => t.deliverTakeoff side l)

end Sys2Proof.Machine
end

