-- ==== Sys2Proof/Machine/PortCommands.lean ====
section
/-! DEFINITION. The commands of the Lane Port Unit: GROUP_MODE, LINE_SET with its three targets, LINES_ASK (chapter
03). -/

namespace Sys2Proof.Machine

/-- GROUP_MODE: refused for unknown codes, and in ARMED and RUNNING for a group that holds a lane of the race (R43). -/
def State.setGroupMode (payload : Payload) (s : State) : State :=
  match groupOfCode (byteAt payload 0), modeOfCode (byteAt payload 1) with
  | some g, some m =>
    if (s.race = .armed ∨ s.race = .running) ∧ s.groupInRace g then s.answer kindGroupMode .badState []
    else (s.onPorts fun p => p.takeGroupMode g m).answer kindGroupMode .done []
  | _, _ => s.answer kindGroupMode .badValue []

/-- GROUP_MODE (R43). -/
def execGroupMode (payload : Payload) (s : State) : Host.Outcome State Fault Refusal :=
  .next (s.take kindGroupMode payload (State.setGroupMode payload))

/-! ### LINE_SET (R45) -/

/-- The lamp's pattern becomes the value, as a console write (R45, R46). -/
def State.setLamp (l : Lane) (side : PoolEnd) (pattern : Lamp) (s : State) : State :=
  s.setLaneEnd l side { s.ports.laneEnd l side with lamp := pattern }

/-- The pad line's enable becomes the value (R45). -/
def State.setPadEnable (l : Lane) (side : PoolEnd) (enabled : Bool) (s : State) : State :=
  s.setLaneEnd l side { s.ports.laneEnd l side with padOn := enabled }

/-- The enable of all three button lines becomes the value (R45). -/
def State.setButtonEnable (l : Lane) (side : PoolEnd) (enabled : Bool) (s : State) : State :=
  s.setLaneEnd l side { s.ports.laneEnd l side with buttonsOn := enabled }

/-- LAMP: a LINE_SET with target LAMP (R45). -/
def execLamp (l : Lane) (side : PoolEnd) (pattern : Lamp) (s : State) : Host.Outcome State Fault Refusal :=
  .next (s.take kindLineSet [laneCode l, side.code, 0, pattern.code] fun t =>
    (t.setLamp l side pattern).answer kindLineSet .done [])

/-- PAD_ENABLE: a LINE_SET with target PAD_ENABLE (R45). -/
def execPadEnable (l : Lane) (side : PoolEnd) (enabled : Bool) (s : State) : Host.Outcome State Fault Refusal :=
  .next (s.take kindLineSet [laneCode l, side.code, 1, boolCode enabled] fun t =>
    (t.setPadEnable l side enabled).answer kindLineSet .done [])

/-- BUTTON_ENABLE: a LINE_SET with target BUTTON_ENABLE (R45). -/
def execButtonEnable (l : Lane) (side : PoolEnd) (enabled : Bool) (s : State) : Host.Outcome State Fault Refusal :=
  .next (s.take kindLineSet [laneCode l, side.code, 2, boolCode enabled] fun t =>
    (t.setButtonEnable l side enabled).answer kindLineSet .done [])

/-- A LINE_SET of any payload: the write its codes name, or BAD_VALUE (R45). -/
def State.writeLine (payload : Payload) (s : State) : State :=
  match lineSetRow payload with
  | some (.lamp l side pattern) => (s.setLamp l side pattern).answer kindLineSet .done []
  | some (.padEnable l side enabled) => (s.setPadEnable l side enabled).answer kindLineSet .done []
  | some (.buttonEnable l side enabled) => (s.setButtonEnable l side enabled).answer kindLineSet .done []
  | _ => s.answer kindLineSet .badValue []

/-- LINE_SET: the forms refused for a code or for the payload's length (R45, R179). -/
def execLineSet (payload : Payload) (s : State) : Host.Outcome State Fault Refusal :=
  .next (s.take kindLineSet payload (State.writeLine payload))

/-! ### LINES_ASK (R48) -/

/-- The entry of a lane end: pad and button levels, lamp pattern, enables, stuck flag (R48). -/
def LaneEnd.bytes (e : LaneEnd) : List Byte :=
  [boolCode e.pad.isPressed, boolCode e.buttons[0].isPressed, boolCode e.buttons[1].isPressed,
    boolCode e.buttons[2].isPressed, e.lamp.code, boolCode e.padOn, boolCode e.buttonsOn, boolCode e.stuck]

/-- The data of the LINES_ASK reply for a group (R48). -/
def State.linesData (s : State) (g : Group) : List Byte :=
  [(s.ports.mode g).code, boolCode s.ports.startLine.isPressed]
    ++ ((allLanes.filter fun l => groupOf l = g).map fun l =>
      (s.ports.laneEnd l .start).bytes ++ (s.ports.laneEnd l .turn).bytes).flatten

/-- LINES_ASK (R48). -/
def execLinesAsk (payload : Payload) (s : State) : Host.Outcome State Fault Refusal :=
  .next (s.take kindLinesAsk payload fun t =>
    match groupOfCode (byteAt payload 0) with
    | some g => t.answer kindLinesAsk .done (t.linesData g)
    | none => t.answer kindLinesAsk .badValue [])

end Sys2Proof.Machine
end

