-- ==== Sys2Proof/Machine/RaceCommands.lean ====
section
/-! DEFINITION. The commands of the Race Controller (chapters 01 and 02). -/

namespace Sys2Proof.Machine

/-- ARMED or RUNNING: the states in which a program cannot be replaced or removed. -/
def RaceState.isUnderWay : RaceState → Bool
  | .empty => false
  | .loaded => false
  | .armed => true
  | .running => true
  | .complete => false
  | .official => false

/-! ### PROGRAM_LOAD and PROGRAM_ASK (R2 to R9, R15, R20) -/

/-- What a load that stores its record does to the race around it (R20). -/
def State.storeProgram (p : Program) (s : State) : State :=
  ((({ s with program := some p } : State).discardRace .loaded).clearOverrun.raiseAllStuck).raceNote s.race .load
    p.eventId 0

/-- PROGRAM_LOAD: the state test, the structural tests, then the store (R2, R6, R9). -/
def State.programLoad (payload : Payload) (s : State) : State :=
  if s.race.isUnderWay then s.answer kindProgramLoad .badState []
  else
    match firstBadField payload with
    | some n => s.answer kindProgramLoad .badValue (be8 n)
    | none =>
      (s.storeProgram (storedProgram payload)).answer kindProgramLoad .done [boolCode (clampedFlag payload)]

/-- PROGRAM_LOAD (R2). -/
def execProgramLoad (payload : Payload) (s : State) : Host.Outcome State Fault Refusal :=
  .next (s.take kindProgramLoad payload (State.programLoad payload))

/-- PROGRAM_ASK (R15). -/
def execProgramAsk (payload : Payload) (s : State) : Host.Outcome State Fault Refusal :=
  .next (s.take kindProgramAsk payload fun t =>
    match t.program with
    | some p => t.answer kindProgramAsk .done p.bytes
    | none => t.answer kindProgramAsk .badState [])

/-! ### RACE_ARM (R21, R22) -/

/-- The group holds a lane of the race and is in LEVEL mode (R21). -/
def State.levelInRace (s : State) (g : Group) : Bool :=
  allLanes.any fun l => groupOf l = g && s.inRace l && s.ports.mode g = .level

/-- The set of lane groups that keep the race from being armed: bit 0 LOW, bit 1 HIGH (R21, 11.7). -/
def State.levelGroups (s : State) : Nat :=
  (if s.levelInRace .low then 1 else 0) + (if s.levelInRace .high then 2 else 0)

/-- The leg-1 start watch is set for a lane of the race when start_kind is PLATFORM (R22). -/
def State.setStartWatch (p : Program) (s : State) (l : Lane) : State :=
  if p.startKind = .platform ∧ p.inRace l then s.setWatch .start l (some 1) else s

/-- What an arm does (R22). -/
def State.arm (s : State) : State :=
  let armed := s.enter .armed ⟨.prestart, 0⟩
  let watched := match s.program with
    | some p => armed.forLanes (State.setStartWatch p)
    | none => armed
  watched.raceNote .loaded .arm s.eventId 0

/-- RACE_ARM, refused outside LOADED and while a lane of the race is in a LEVEL group (R21). -/
def State.raceArm (s : State) : State :=
  if s.race = .loaded then
    if s.levelGroups = 0 then s.arm.answer kindRaceArm .done []
    else s.answer kindRaceArm .badState [s.race.code, BitVec.ofNat 8 s.levelGroups]
  else s.answer kindRaceArm .badState [s.race.code, 0]

/-- RACE_ARM (R21). -/
def execRaceArm (payload : Payload) (s : State) : Host.Outcome State Fault Refusal :=
  .next (s.take kindRaceArm payload State.raceArm)

/-! ### START_MANUAL, RACE_RECALL, RACE_CLOSE (R25, R26, R29) -/

/-- START_MANUAL: the start mark is the prestart value now, and the running clock reads 0 (R25). -/
def State.startManual (s : State) : State :=
  if s.race = .armed then
    (s.startRace s.clock.value 0 .manual .startManual).answer kindStartManual .done (be32 s.clock.value)
  else s.answer kindStartManual .badState []

/-- START_MANUAL (R25). -/
def execStartManual (payload : Payload) (s : State) : Host.Outcome State Fault Refusal :=
  .next (s.take kindStartManual payload State.startManual)

/-- What a recall does (R26). -/
def State.recall (s : State) : State := (s.discardRace .loaded).raceNote s.race .recall s.eventId 0

/-- RACE_RECALL, taken in ARMED and RUNNING (R26). -/
def State.raceRecall (s : State) : State :=
  if s.race.isUnderWay then s.recall.answer kindRaceRecall .done [] else s.answer kindRaceRecall .badState []

/-- RACE_RECALL (R26). -/
def execRaceRecall (payload : Payload) (s : State) : Host.Outcome State Fault Refusal :=
  .next (s.take kindRaceRecall payload State.raceRecall)

/-- RACE_CLOSE, taken in RUNNING (R29). -/
def State.raceClose (s : State) : State :=
  if s.race = .running then (s.closeRace .close).answer kindRaceClose .done []
  else s.answer kindRaceClose .badState []

/-- RACE_CLOSE (R29). -/
def execRaceClose (payload : Payload) (s : State) : Host.Outcome State Fault Refusal :=
  .next (s.take kindRaceClose payload State.raceClose)

/-! ### RESULTS_RELEASE and RACE_CLEAR (R32, R34) -/

/-- What a release does (R32). -/
def State.release (s : State) : State := (s.enter .official s.clock).raceNote .complete .release s.eventId s.clock.value

/-- RESULTS_RELEASE, taken in COMPLETE (R32). -/
def State.resultsRelease (s : State) : State :=
  if s.race = .complete then s.release.answer kindResultsRelease .done []
  else s.answer kindResultsRelease .badState []

/-- RESULTS_RELEASE (R32). -/
def execResultsRelease (payload : Payload) (s : State) : Host.Outcome State Fault Refusal :=
  .next (s.take kindResultsRelease payload State.resultsRelease)

/-- What a clear does in LOADED, COMPLETE and OFFICIAL (R34). -/
def State.removeProgram (s : State) : State :=
  ((({ s with program := none } : State).discardRace .empty).clearOverrun.raiseAllStuck).raceNote s.race .clear
    s.eventId 0

/-- RACE_CLEAR, refused in ARMED and RUNNING, without effect in EMPTY (R34). -/
def State.raceClear (s : State) : State :=
  if s.race.isUnderWay then s.answer kindRaceClear .badState []
  else if s.race = .empty then s.answer kindRaceClear .done []
  else s.removeProgram.answer kindRaceClear .done []

/-- RACE_CLEAR (R34). -/
def execRaceClear (payload : Payload) (s : State) : Host.Outcome State Fault Refusal :=
  .next (s.take kindRaceClear payload State.raceClear)

end Sys2Proof.Machine
end

