-- ==== Sys2Proof/Machine/ResetCommands.lean ====
section
/-! DEFINITION. The rows of the resets: power-on, the reset line, and the taking effect of CONTROLLER_RESET (R36, R37,
R185, R186). -/

namespace Sys2Proof.Machine

/-- POWER_ON: every block is in its power-on state (R36). -/
def execPowerOn (s : State) : Host.Outcome State Fault Refusal := .next s.afterReset

/-- RESET_LINE_ASSERT: the LT10 takes no input, drives every lamp dark and sends nothing; a zeroing is abandoned (R37,
R57, notes/assumptions/15.md). -/
def execResetLineAssert (s : State) : Host.Outcome State Fault Refusal := .next { s.afterReset with resetHeld := true }

/-- RESET_LINE_RELEASE: every block is in its power-on state (R37). -/
def execResetLineRelease (s : State) : Host.Outcome State Fault Refusal := .next s.afterReset

/-- CONTROLLER_RESET_TAKES_EFFECT, when the last byte of the reply has been sent (R185); at any other moment there is no
such event. -/
def execControllerResetTakesEffect (s : State) : Host.Outcome State Fault Refusal :=
  .next (s.unlessHeld fun t =>
    if t.link.effectDue ∧ t.link.effect = some .reset then t.afterControllerReset else t)

end Sys2Proof.Machine
end

