-- ==== Sys2Proof/Machine/TimerEvents.lean ====
section
/-! DEFINITION. The rows of the timers and of the board refresh: arm and close timers, the limits of the race clock, the
freeze, the clear, the frames of the module chain (R18, R30, R73, R100, R162, R168, R172). -/

namespace Sys2Proof.Machine

/-! ### Arm and close timers (R73, R100) -/

/-- The arm timer of a lane has expired: the race is RUNNING, the expected wall is WAITING, and the clock has reached its
arm time (R73). -/
def State.armDue (s : State) (l : Lane) : Option ExpectedWall :=
  if s.race = .running then (s.context l).expected.filter fun e => !e.armed && decide (e.armTime ≤ s.clock.value)
  else none

/-- The arm timer of a lane expires, if it does now (R73). -/
def State.expireArm (s : State) (l : Lane) : State :=
  match s.armDue l, s.program with
  | some e, some p => s.commit l ((s.laneWork l).arm (s.laneEnv p l) e)
  | _, _ => s

/-- ARM_TIMER_EXPIRY (R73, R74). -/
def execArmTimerExpiry (l : Lane) (s : State) : Host.Outcome State Fault Refusal :=
  .next (s.unlessHeld fun t => t.expireArm l)

/-- The close timer of a lane has expired: the race is RUNNING and the clock has reached the collecting wall's close time
(R92). -/
def State.closeDue (s : State) (l : Lane) : Option CollectingWall :=
  if s.race = .running then (s.context l).collecting.filter fun w => decide (w.closeTime ≤ s.clock.value) else none

/-- The close timer of a lane expires, if it does now (R100). -/
def State.expireClose (s : State) (l : Lane) : State :=
  match s.closeDue l, s.program with
  | some w, some p => s.laneEvent l ((s.laneWork l).resolveAtClose (s.laneEnv p l) w)
  | _, _ => s

/-- CLOSE_TIMER_EXPIRY (R100). -/
def execCloseTimerExpiry (l : Lane) (s : State) : Host.Outcome State Fault Refusal :=
  .next (s.unlessHeld fun t => t.expireClose l)

/-! ### The limits of the clock (R18, R30) -/

/-- The running clock stands at its maximum (R30). -/
def State.saturated (s : State) : Bool := decide (s.race = .running) && decide (s.clock.value = Config.maxCount)

/-- The clock-overrun fault is raised and the race is closed (R30). -/
def State.saturate (s : State) : State :=
  (({ s with overrun := true } : State).report (.fault .clockOverrun true)).closeRace .overrun

/-- CLOCK_SATURATION, when the running clock has reached its maximum (R30); at any other moment there is no such event. -/
def execClockSaturation (s : State) : Host.Outcome State Fault Refusal :=
  .next (s.unlessHeld fun t => if t.saturated then t.saturate else t)

/-- PRESTART_CLOCK_LIMIT: the clock has stopped rising; nothing else happens (R18). -/
def execPrestartClockLimit (s : State) : Host.Outcome State Fault Refusal := .next s

/-! ### The freeze (R168) -/

/-- The freeze in force has reached its end moment (R168). -/
def State.freezeOver (s : State) : Bool := s.board.freeze.any fun f => decide (f.endMoment ≤ s.clock.value)

/-- FREEZE_END (R168). -/
def execFreezeEnd (s : State) : Host.Outcome State Fault Refusal :=
  .next (s.unlessHeld fun t => if t.freezeOver then t.endFreeze else t)

/-! ### The clear (R162) -/

/-- One cell of a clear's row: skipped when masked or an auto-field cell, else written under the plane mask (R162). -/
def Board.fillCell (b : Board) (fill : Cell) (y : Nat) (row : CellRow) (x : Nat) : CellRow :=
  if b.window.masks x y || b.layout.isAutoCell x y then row
  else row.setIfInBounds x (b.locks.apply (b.cellAt x y) fill)

/-- A row after the clear has filled it within the area's columns (R162). -/
def Board.filledRow (b : Board) (fill : Cell) (y : Row) : CellRow :=
  ((List.range (b.area.x1 + 1 - b.area.x0)).map (· + b.area.x0)).foldl (b.fillCell fill y.val) b.cells[y]

/-- The clear goes on to the row below, or ends after the area's bottom row (R162). -/
def Board.advanceClear (b : Board) (c : Clear) : Board :=
  { b with
    clear := if c.nextRow < b.area.y1 then some { c with nextRow := c.nextRow + 1, wait := Config.clearRowCounts }
      else none }

/-- The clear fills its next row (R162). -/
def State.fillNextRow (s : State) : State :=
  match s.board.clear with
  | some c =>
    if h : c.nextRow < 12 then
      (s.writeRow ⟨c.nextRow, h⟩ (s.board.filledRow c.fill ⟨c.nextRow, h⟩)).onBoard fun b => b.advanceClear c
    else s.onBoard fun b => { b with clear := none }
  | none => s

/-- A millisecond of the clear in progress has passed (R162). -/
def Board.rowDue (b : Board) : Bool := b.clear.any fun c => c.wait == 0

/-- CLEAR_ROW_FILL, when a millisecond of the clear has passed (R162, notes/assumptions/3.md). -/
def execClearRowFill (s : State) : Host.Outcome State Fault Refusal :=
  .next (s.unlessHeld fun t => if t.board.rowDue then t.fillNextRow else t)

/-! ### Frames of the module chain (R172, R174) -/

/-- The frame on the chain ends and takes effect at the modules; the transmitter chooses the next (R172, R174). -/
def State.endChainFrame (s : State) : State :=
  match s.board.chain with
  | some f => (s.onBoard fun b => { b with chain := none }.endFrame f.content).chooseFrame
  | none => s.chooseFrame

/-- A frame on the chain with time still to go has not ended. -/
def Board.sending (b : Board) : Bool := b.chain.any fun f => f.left != 0

/-- BOARD_FRAME_END, when the frame on the chain has taken its time, or on a free chain (R172). -/
def execBoardFrameEnd (s : State) : Host.Outcome State Fault Refusal :=
  .next (s.unlessHeld fun t => if t.board.sending then t else t.endChainFrame)

/-- CLOCK_ROW_DUE, when 100 ms have passed since a frame of row 1 began and the clock counts: on a free chain the
transmitter chooses (R172). -/
def execClockRowDue (s : State) : Host.Outcome State Fault Refusal :=
  .next (s.unlessHeld fun t => if t.clockRowDue then t.chooseFrame else t)

end Sys2Proof.Machine
end

