-- ==== Sys2Proof/Machine/Dispatch.lean ====
section
/-! DEFINITION. One arm per row of spec/opcode_table.json, each one call of its meaning. -/

namespace Sys2Proof.Machine

def exec (i : Instr) (s : State) : Host.Outcome State Fault Refusal :=
  match i with
  | .powerOn => Sys2Proof.Machine.execPowerOn s
  | .resetLineAssert => Sys2Proof.Machine.execResetLineAssert s
  | .resetLineRelease => Sys2Proof.Machine.execResetLineRelease s
  | .frameReceived bytes => Sys2Proof.Machine.execFrameReceived bytes s
  | .frameGapTimeout => Sys2Proof.Machine.execFrameGapTimeout s
  | .unknownKind kind payload => Sys2Proof.Machine.execUnknownKind kind payload s
  | .lineFrameEnd => Sys2Proof.Machine.execLineFrameEnd s
  | .controllerResetTakesEffect => Sys2Proof.Machine.execControllerResetTakesEffect s
  | .linkSpeedChange => Sys2Proof.Machine.execLinkSpeedChange s
  | .identAsk payload => Sys2Proof.Machine.execIdentAsk payload s
  | .statusAsk payload => Sys2Proof.Machine.execStatusAsk payload s
  | .linkSet payload => Sys2Proof.Machine.execLinkSet payload s
  | .controllerReset payload => Sys2Proof.Machine.execControllerReset payload s
  | .programLoad payload => Sys2Proof.Machine.execProgramLoad payload s
  | .programAsk payload => Sys2Proof.Machine.execProgramAsk payload s
  | .raceArm payload => Sys2Proof.Machine.execRaceArm payload s
  | .startManual payload => Sys2Proof.Machine.execStartManual payload s
  | .raceRecall payload => Sys2Proof.Machine.execRaceRecall payload s
  | .raceClose payload => Sys2Proof.Machine.execRaceClose payload s
  | .resultsRelease payload => Sys2Proof.Machine.execResultsRelease payload s
  | .raceClear payload => Sys2Proof.Machine.execRaceClear payload s
  | .groupMode payload => Sys2Proof.Machine.execGroupMode payload s
  | .lamp l side pattern => Sys2Proof.Machine.execLamp l side pattern s
  | .padEnable l side on => Sys2Proof.Machine.execPadEnable l side on s
  | .buttonEnable l side on => Sys2Proof.Machine.execButtonEnable l side on s
  | .linesAsk payload => Sys2Proof.Machine.execLinesAsk payload s
  | .platformZero payload => Sys2Proof.Machine.execPlatformZero payload s
  | .zeroingComplete => Sys2Proof.Machine.execZeroingComplete s
  | .platformLimits payload => Sys2Proof.Machine.execPlatformLimits payload s
  | .platformAsk payload => Sys2Proof.Machine.execPlatformAsk payload s
  | .samplerSet payload => Sys2Proof.Machine.execSamplerSet payload s
  | .laneAsk payload => Sys2Proof.Machine.execLaneAsk payload s
  | .wallsAsk payload => Sys2Proof.Machine.execWallsAsk payload s
  | .resultsAsk payload => Sys2Proof.Machine.execResultsAsk payload s
  | .amendDisqualify lane code time => Sys2Proof.Machine.execAmendDisqualify lane code time s
  | .amendDidNotStart lane code time => Sys2Proof.Machine.execAmendDidNotStart lane code time s
  | .amendRestore lane code time => Sys2Proof.Machine.execAmendRestore lane code time s
  | .amendTimeWall lane code time => Sys2Proof.Machine.execAmendTimeWall lane code time s
  | .logRead payload => Sys2Proof.Machine.execLogRead payload s
  | .logClear payload => Sys2Proof.Machine.execLogClear payload s
  | .boardMode payload => Sys2Proof.Machine.execBoardMode payload s
  | .boardArea payload => Sys2Proof.Machine.execBoardArea payload s
  | .boardMask payload => Sys2Proof.Machine.execBoardMask payload s
  | .boardWrite payload => Sys2Proof.Machine.execBoardWrite payload s
  | .boardRead payload => Sys2Proof.Machine.execBoardRead payload s
  | .boardClear payload => Sys2Proof.Machine.execBoardClear payload s
  | .boardClearStop payload => Sys2Proof.Machine.execBoardClearStop payload s
  | .boardLayout payload => Sys2Proof.Machine.execBoardLayout payload s
  | .brightness value => Sys2Proof.Machine.execBrightness value s
  | .blank value => Sys2Proof.Machine.execBlank value s
  | .selfTest value => Sys2Proof.Machine.execSelfTest value s
  | .moduleReset value => Sys2Proof.Machine.execModuleReset value s
  | .padPress l side => Sys2Proof.Machine.execPadPress l side s
  | .buttonPress l side b => Sys2Proof.Machine.execButtonPress l side b s
  | .startLineEdge => Sys2Proof.Machine.execStartLineEdge s
  | .lineRelease line => Sys2Proof.Machine.execLineRelease line s
  | .stuckTimerExpiry l side => Sys2Proof.Machine.execStuckTimerExpiry l side s
  | .platformConversion side reading => Sys2Proof.Machine.execPlatformConversion side reading s
  | .takeoff side l => Sys2Proof.Machine.execTakeoff side l s
  | .armTimerExpiry l => Sys2Proof.Machine.execArmTimerExpiry l s
  | .closeTimerExpiry l => Sys2Proof.Machine.execCloseTimerExpiry l s
  | .clockSaturation => Sys2Proof.Machine.execClockSaturation s
  | .prestartClockLimit => Sys2Proof.Machine.execPrestartClockLimit s
  | .freezeEnd => Sys2Proof.Machine.execFreezeEnd s
  | .clearRowFill => Sys2Proof.Machine.execClearRowFill s
  | .boardFrameEnd => Sys2Proof.Machine.execBoardFrameEnd s
  | .clockRowDue => Sys2Proof.Machine.execClockRowDue s
  | .contactLineSample line closed => Sys2Proof.Machine.execContactLineSample line closed s
  | .lineSet payload => Sys2Proof.Machine.execLineSet payload s
  | .amend payload => Sys2Proof.Machine.execAmend payload s
  | .boardModule payload => Sys2Proof.Machine.execBoardModule payload s

end Sys2Proof.Machine
end

