-- ==== Sys2Proof/Machine/Tick.lean ====
section
/-! DEFINITION. The tick: one count of 100 µs passes. The table of commands has no row for it; `step` does it on an empty
queue. It moves what the spec says moves with time and puts the rows that fall due into the queue (DESIGN CHOICE,
notes/assumptions/1.md). -/

namespace Sys2Proof.Machine

/-! ### What moves in a count -/

/-- The race clock rises in PRESTART and RUNNING, never past its maximum (R17, R18). -/
def Clock.tick (c : Clock) : Clock :=
  if c.phase.counts ∧ c.value < Config.maxCount then { c with value := c.value + 1 } else c

/-- A running stuck timer rises (R49). -/
def LaneEnd.tick (e : LaneEnd) : LaneEnd := { e with held := e.held.map (· + 1) }

/-- Stuck timers rise and the blink base moves on (R44, R49). -/
def Ports.tick (p : Ports) : Ports := { p.mapLaneEnds fun _ e => e.tick with blink := (p.blink + 1) % 10000 }

/-- The rotation moves on one channel, and the new count has its conversion (R53). The first count after a reset is the
count in which the reset stands, with both rotations at lane 0 (DESIGN CHOICE, notes/assumptions/29.md). -/
def Sampler.tick (m : Sampler) : Sampler := { m with rotation := m.rotation + 1, spent := false }

/-- The frame on the chain, the clear and the time since row 1 move on (R162, R172). -/
def Board.tick (b : Board) : Board :=
  { b with
    chain := b.chain.map fun f => { f with left := f.left - 1 }
    clear := b.clear.map fun c => { c with wait := c.wait - 1 }
    sinceRow1 := min Config.clockRowCounts (b.sinceRow1 + 1) }

/-- The gap since the last byte grows (R177). -/
def Receiver.tick : Receiver → Receiver
  | .hunting => .hunting
  | .inFrame bytes gap => .inFrame bytes (gap + 1)

/-- The gap grows and the frame on the line is sent on: in a count of 100 µs pass baud ten-thousandths of a bit time
(R176, R177). -/
def Link.tick (k : Link) : Link :=
  { k with
    rx := k.rx.tick
    line := k.line.map fun f => { f with left := f.left - Config.baud k.speed } }

/-- A free line and a free chain choose their next frame (R172, R180). -/
def State.chooseFrames (s : State) : State := (s.onLink Link.choose).chooseFrame

/-- Time moves on by one count in every block. -/
def State.passTime (s : State) : State :=
  { s with
    clock := s.clock.tick
    ports := s.ports.tick
    samplers := ⟨s.samplers.start.tick, s.samplers.turn.tick⟩
    board := s.board.tick
    link := s.link.tick }

/-- One count passes: what is free chooses its frame with the count's last rows taken, and then time moves on. -/
def State.passCount (s : State) : State := s.chooseFrames.passTime

/-! ### The rows that fall due (notes/assumptions/2.md gives their order) -/

/-- A row, if it is due. -/
def dueRow (due : Bool) (row : Instr) : List Instr := if due then [row] else []

/-- Close timers, arm timers and stuck timers, in lane order. -/
def State.dueTimers (s : State) : List Instr :=
  ((allLanes.filter fun l => (s.closeDue l).isSome).map Instr.closeTimerExpiry)
    ++ ((allLanes.filter fun l => (s.armDue l).isSome).map Instr.armTimerExpiry)
    ++ (allLanes.map fun l =>
      dueRow (s.stuckDue l .start) (.stuckTimerExpiry l .start)
        ++ dueRow (s.stuckDue l .turn) (.stuckTimerExpiry l .turn)).flatten

/-- The clock has just stopped rising in PRESTART (R18). -/
def prestartLimitReached (before after : Clock) : Bool :=
  after.phase == .prestart && after.value == Config.maxCount && before.value != Config.maxCount

/-- 100 ms have just passed since a frame of row 1 began (R172). -/
def State.rowOneDue (before after : State) : Bool :=
  after.clockRowDue && decide (before.board.sinceRow1 < Config.clockRowCounts)

/-- The rows of the clock and the board. -/
def State.dueRefresh (before after : State) : List Instr :=
  dueRow after.saturated .clockSaturation ++ dueRow (prestartLimitReached before.clock after.clock) .prestartClockLimit
    ++ dueRow after.freezeOver .freezeEnd
    ++ dueRow after.board.rowDue .clearRowFill
    ++ dueRow (after.board.chain.any fun f => f.left == 0) .boardFrameEnd
    ++ dueRow (before.rowOneDue after) .clockRowDue

/-- The rows of the line. -/
def State.dueLink (s : State) : List Instr :=
  dueRow s.link.rx.gapOver .frameGapTimeout ++ dueRow (s.link.line.any fun f => f.left == 0) .lineFrameEnd

/-- The takeoffs on their way, oldest first. R61 hands a takeoff on at its conversion's completion, and neither R62 nor R124
says how long it is on its way: it arrives as soon as the rows already waiting have been carried out, in the count of its
conversion (DESIGN CHOICE, notes/assumptions/32.md). -/
def State.dueTakeoffs (s : State) : List Instr := s.takeoffs.map fun t => .takeoff t.side t.lane

/-- The change of the link that is due (R184, R185). -/
def Link.dueEffect (k : Link) : List Instr :=
  match k.effectDue, k.effect with
  | true, some (.speed _) => [.linkSpeedChange]
  | true, some .reset => [.controllerResetTakesEffect]
  | _, _ => []

/-- The command that can be taken from the inbound buffer (R179). -/
def State.dueCommand (s : State) : List Instr :=
  match s.link.inbound with
  | f :: _ => dueRow (s.canTake f) (commandOf f)
  | [] => []

/-- The rows that come about at once, with no time passing: a change of the link whose reply has been sent, the end of a
zeroing whose channels have been converted, the arrival of the takeoffs on their way, and the taking of a command (R56,
R61, R179, R184, R185). -/
def State.dueAtOnce (s : State) : List Instr :=
  s.link.dueEffect ++ dueRow (s.zeroing.any Zeroing.finished) .zeroingComplete ++ s.dueTakeoffs ++ s.dueCommand

/-- One count passes, and the rows that fall due join the queue. -/
def State.tick (s : State) : State :=
  let after := s.passCount
  { after with pending := after.pending ++ (after.dueTimers ++ s.dueRefresh after ++ after.dueLink) }

/-- What comes about on an empty queue: the rows due at once join the queue, or, when there is none, one count passes.
While the reset line is held nothing moves (R37). -/
def State.idle (s : State) : State :=
  if s.resetHeld then s else if s.dueAtOnce.isEmpty then s.tick else { s with pending := s.dueAtOnce }

end Sys2Proof.Machine
end

