-- ==== Sys2Proof/Machine/Step.lean ====
section
/-! DEFINITION. The step of the block: the command at the front of the queue, or, on an empty queue, the rows due at once
or one count of time. -/

namespace Sys2Proof.Machine

/-- The command at the front of the queue is carried out on the state with the rest of the queue; on an empty queue the
rows due at once join it, or one count of time passes (notes/assumptions/1.md). -/
def step (s : State) : Host.Outcome State Fault Refusal :=
  match s.pending with
  | i :: rest => exec i { s with pending := rest }
  | [] => .next s.idle

/-- The command a word spells, put at the front of the queue; the table gives bits to no row, so no word spells one
(notes/assumptions/16.md). -/
def State.withFetchWord (s : State) (nbits w : Nat) : State :=
  match decodeTableWord nbits w with
  | some i => { s with pending := i :: s.pending }
  | none => s

end Sys2Proof.Machine
end

