-- ==== Sys2Proof/Safety.lean ====
section
/-! DEFINITION. What counts as a safe state: the properties of the spec's prose that every step keeps, and the conditions
under which a command is taken. Claims are stated in these terms. -/

namespace Sys2Proof.Machine

/-! ### When a command is taken (R37, R179, R184, R185) -/

/-- The Console Link can take this frame: the reset line is not held, the reply slot is empty, no change of the link is
due, and the inbound buffer is empty or this frame is its oldest. -/
def State.Takes (s : State) (f : Frame) : Prop :=
  s.resetHeld = false ∧ s.link.slot = .empty ∧ s.link.effectDue = false
    ∧ (s.link.inbound = [] ∨ s.link.inbound.head? = some f)

/-- The Console Link after a command has been taken and answered: its frame has left the inbound buffer and its reply is
in the slot (R178, R179). -/
def Link.answered (k : Link) (kind : Byte) (code : ResultCode) (data : List Byte) : Link :=
  { k with inbound := k.inbound.tail, slot := .holding ⟨kind, code, data⟩ }

/-- A state with nothing changed but the Console Link, whose command has been taken and answered. -/
def State.replied (s : State) (kind : Byte) (code : ResultCode) (data : List Byte) : State :=
  { s with link := s.link.answered kind code data }

/-! ### Race state, program and clock agree (R1, R16, R17, R26, R168, table 2.1) -/

/-- The clock phase of a race state (table 2.1). -/
def RaceState.clockPhase : RaceState → ClockPhase
  | .empty => .stopped
  | .loaded => .stopped
  | .armed => .prestart
  | .running => .running
  | .complete => .held
  | .official => .held

/-- The race has been started. -/
def RaceState.started : RaceState → Bool
  | .empty => false
  | .loaded => false
  | .armed => false
  | .running => true
  | .complete => true
  | .official => true

/-- The race is over. -/
def RaceState.over : RaceState → Bool
  | .empty => false
  | .loaded => false
  | .armed => false
  | .running => false
  | .complete => true
  | .official => true

/-- The race state, the program in force, the clock, the start source, the clock-overrun fault and the freeze fit each
other. -/
def State.RaceFits (s : State) : Prop :=
  (s.program = none ↔ s.race = .empty) ∧ s.clock.phase = s.race.clockPhase ∧ s.clock.value ≤ Config.maxCount
    ∧ (s.clock.phase = .stopped → s.clock.value = 0) ∧ s.source.isSome = s.race.started
    ∧ (s.overrun = true → s.race.over = true) ∧ (s.board.freeze.isSome = true → s.race = .running)

/-! ### Buffers, queues, counters and the access area keep their bounds (R44, R150, R151, R157, R158, R162, R172, R177, R178,
R181) -/

/-- The access area lies on the board, the cursor in the access area, and so does the next row of a clear (R157, R158,
R162). -/
def Board.AreaFits (b : Board) : Prop :=
  b.area.x0 ≤ b.area.x1 ∧ b.area.x1 ≤ 31 ∧ b.area.y0 ≤ b.area.y1 ∧ b.area.y1 ≤ 11
    ∧ b.area.x0 ≤ b.cursor.x ∧ b.cursor.x ≤ b.area.x1 ∧ b.area.y0 ≤ b.cursor.y ∧ b.cursor.y ≤ b.area.y1
    ∧ ∀ c, b.clear = some c → b.area.y0 ≤ c.nextRow ∧ c.nextRow ≤ b.area.y1

/-- Every buffer, queue and counter holds at most what its rule allows, and the access area fits the board. -/
def State.Bounded (s : State) : Prop :=
  s.link.queue.length ≤ 32 ∧ s.link.inbound.length ≤ 2 ∧ s.link.checkFail ≤ 65535 ∧ s.link.overrunCount ≤ 65535
    ∧ s.log.entries.length ≤ 512 ∧ s.log.counter < 65536 ∧ s.log.dropped ≤ 65535 ∧ s.ports.blink < 10000
    ∧ s.board.sinceRow1 ≤ 1000 ∧ s.board.AreaFits

/-! ### Platform channels and thresholds keep their ranges (4.1) -/

/-- A channel's values lie in the ranges of 4.1. -/
def Channel.InRange (c : Channel) : Prop :=
  c.raw ≤ 1023 ∧ c.corrected ≤ 1023 ∧ c.offset ≤ 1022 ∧ c.fullRun ≤ 3 ∧ c.goodRun ≤ 10

/-- A sampler's thresholds and channels lie in their ranges. -/
def Sampler.InRange (m : Sampler) : Prop :=
  1 ≤ m.load ∧ m.load ≤ 1022 ∧ 1 ≤ m.release ∧ m.release ≤ m.load ∧ ∀ l : Lane, m.channels[l].InRange

/-- Both samplers lie in their ranges. -/
def State.SamplersInRange (s : State) : Prop := s.samplers.start.InRange ∧ s.samplers.turn.InRange

/-! ### Judgement sets (R130, R131) -/

/-- The judgements stand in priority order, each cause at most once. -/
def LaneContext.JudgementsOrdered (c : LaneContext) : Prop :=
  c.judgements.Pairwise fun a b => a.priority < b.priority

/-- Every lane's judgements stand in priority order, each cause at most once. -/
def State.JudgementsOrdered (s : State) : Prop := ∀ l : Lane, (s.context l).JudgementsOrdered

/-! ### The display row map (R169) -/

/-- The display row map is the one R169 gives for the layout, the race state and the result order as they stand. -/
def State.MapFits (s : State) : Prop := s.board.map = s.mapNow

/-! ### Lanes and their walls (R8, R12, R71 to R75, R87, R91, R92, R103) -/

/-- The settings of a program in force that the walls rest on (R7, R8). -/
def Program.Fits (p : Program) : Prop :=
  1 ≤ p.lengths ∧ 10000 ≤ p.window ∧ 10000 ≤ p.armDelay ∧ (p.station ≠ none → p.window ≤ p.armDelay)

/-- A context without walls and without a final time, as before every start (R20, R26, R34). -/
def LaneContext.Bare (c : LaneContext) : Prop :=
  c.expected = none ∧ c.collecting = none ∧ c.resolved = [] ∧ c.final = none ∧ c.status ≠ .finished

/-- The last official time of a lane, 0 at the start. -/
def LaneContext.lastTime (c : LaneContext) : Nat := (c.resolved.getLast?.map WallRecord.official).getD 0

/-- The resolved walls are walls 1 to n at the ends of R12, their official times rising and not past the clock; n is the
length count exactly with a confirmed final time (R71, R87, R103). -/
def LaneContext.ResolvedFit (p : Program) (now : Nat) (c : LaneContext) : Prop :=
  (∀ i r, c.resolved[i]? = some r →
      r.index = i + 1 ∧ r.side = wallEnd (i + 1) ∧ 0 < r.official ∧ r.official ≤ now)
    ∧ c.resolved.Pairwise (fun a b => a.official < b.official) ∧ c.resolved.length ≤ p.lengths
    ∧ (c.resolved.length = p.lengths ↔ ∃ f, c.final = some f ∧ f.confirmed = true)
    ∧ (∀ f, c.final = some f → f.confirmed = false → ∃ w, c.collecting = some w ∧ w.index = p.lengths)
    ∧ (c.status = .finished → c.final ≠ none)

/-- A collecting wall stands in a running race alone, in a lane of the race that is SWIMMING or FINISHED. It is wall n + 1,
a station wall, holds a pad time or a press, all of them after the last official time and before the clock, at most three
presses and each of another button, and its close time has not been passed (R14, R71, R91, R92, R95). -/
def LaneContext.CollectingFits (p : Program) (race : RaceState) (now : Nat) (l : Lane) (c : LaneContext) : Prop :=
  ∀ w, c.collecting = some w →
    race = .running ∧ p.inRace l = true ∧ (c.status = .swimming ∨ c.status = .finished)
      ∧ w.index = c.resolved.length + 1 ∧ w.side = wallEnd w.index ∧ p.station = some w.side ∧ w.index ≤ p.lengths
      ∧ (w.pad ≠ none ∨ w.presses ≠ [])
      ∧ (∀ v, w.pad = some v → c.lastTime < v ∧ v < now ∧ w.closeTime ≤ v + p.window)
      ∧ (∀ q ∈ w.presses, c.lastTime < q.stamp ∧ q.stamp < now)
      ∧ w.presses.length ≤ 3 ∧ (w.presses.map Press.button).Nodup
      ∧ now ≤ w.closeTime ∧ w.closeTime < now + p.window

/-- An expected wall stands in a running race alone, in a SWIMMING lane of the race. Its index follows that of the
collecting wall, else n; its arm time is the pad time, else the last official time, plus arm_delay; it is ARMED only from
its arm time on (R71, R73, R75). -/
def LaneContext.ExpectedFits (p : Program) (race : RaceState) (now : Nat) (l : Lane) (c : LaneContext) : Prop :=
  ∀ e, c.expected = some e →
    race = .running ∧ p.inRace l = true ∧ c.status = .swimming ∧ e.side = wallEnd e.index ∧ e.index ≤ p.lengths
      ∧ (e.armed = true → e.armTime ≤ now)
      ∧ (c.collecting = none → e.index = c.resolved.length + 1 ∧ e.armTime = c.lastTime + p.armDelay)
      ∧ ∀ w, c.collecting = some w → e.index = w.index + 1 ∧ ∃ v, w.pad = some v ∧ e.armTime = v + p.armDelay

/-- The walls of every lane fit the program, the race state and the clock. A collecting wall whose close time the clock has
reached has its CLOSE_TIMER_EXPIRY in the queue; the reset line is held only without a started race (R36, R37). -/
def State.WallsFit (s : State) : Prop :=
  (s.race.started = false → ∀ l, (s.context l).Bare)
    ∧ (∀ p, s.program = some p → p.Fits) ∧ (s.race ≠ .empty → s.program ≠ none)
    ∧ (s.resetHeld = true → s.race.started = false)
    ∧ (∀ p l, s.race.started = true → s.program = some p →
        (s.context l).ResolvedFit p s.clock.value ∧ (s.context l).CollectingFits p s.race s.clock.value l
          ∧ (s.context l).ExpectedFits p s.race s.clock.value l)
    ∧ ∀ l w, (s.context l).collecting = some w → w.closeTime ≤ s.clock.value → Instr.closeTimerExpiry l ∈ s.pending

/-- The contact line whose press a row can complete. -/
def pressLine : Instr → Option Line
  | .padPress l side => some (.pad l side)
  | .buttonPress l side b => some (.button l side b)
  | .contactLineSample line true => some line
  | _ => none

/-- The sender keeps the time of R38: a press that the row at the front recognises in a running race was first sampled one
count before (notes/assumptions/21.md). -/
def State.PressTimely (s : State) : Prop :=
  ∀ i rest line v, s.pending = i :: rest → pressLine i = some line → s.ports.line line = .pressSeen (.race v) →
    s.race = .running → s.clock.value = v + 1

/-! ### Reports of an event, in their order (R20, R29, R84, R132, R133, R136, R137, R152) -/

/-- Reports generated one after the other. -/
def Link.reported (k : Link) (rs : List Report) : Link := rs.foldl Link.report k

/-- The LOG_NOTE of an entry that raises the fill from 383 to 384 while the notice is armed, none for any other (R152). -/
def EventLog.notes (g : EventLog) : List Report :=
  if g.armed = true ∧ g.entries.length = 383 then [.log 384 g.counter g.dropped] else []

/-- The RANK_NOTE of a ranking: each ranked lane with its place, its final hundredths and whether they are confirmed, in
result order (R137). -/
def State.rankNote (s : State) : Report :=
  .rank (s.results.order.map fun l =>
    ⟨l, s.results.places[l].getD 0, ((s.context l).final.map fun f => f.time / 100).getD 0,
      (s.context l).final.any Final.confirmed⟩)

/-- An event that changes one lane re-ranks when the lane is FINISHED before or after it, but for a lane that stays
FINISHED with the value of its final (R136). -/
def ranksAnew (before after : LaneContext) : Bool :=
  (before.status == .finished || after.status == .finished)
    && !(before.status == .finished && after.status == .finished
      && before.final.map Final.time == after.final.map Final.time)

/-- The last reports of an event of a lane: the RANK_NOTE when it re-ranks, the RACE_NOTE when it completes the race (R28,
R84). -/
def State.closingNotes (s t : State) (l : Lane) : List Report :=
  (if ranksAnew (s.context l) (t.context l) then [t.rankNote] else [])
    ++ (if s.race = .running ∧ t.race = .complete then
        [.race .complete .running .completion s.eventId s.clock.value s.source]
      else [])

/-! ### Ranking, place lamps and completion after an event (R28, R47, R133, R135, R136) -/

/-- A lane's final time in hundredths, rounded down (R133). -/
def State.rankHundredths (s : State) (l : Lane) : Nat := ((s.context l).final.map fun f => f.time / 100).getD 0

/-- The result order and the places are those R135 gives for the contexts: the FINISHED lanes, each once, by hundredths and
then by lane number, each placed one after the lanes with a strictly smaller time. -/
def State.RanksFit (s : State) : Prop :=
  (∀ l, l ∈ s.results.order ↔ (s.context l).status = .finished) ∧ s.results.order.Nodup
    ∧ s.results.order.Pairwise (fun a b =>
        s.rankHundredths a < s.rankHundredths b ∨ s.rankHundredths a = s.rankHundredths b ∧ a < b)
    ∧ (∀ l : Lane, (s.context l).status = .finished → s.results.places[l] = some
        (1 + (s.results.order.filter fun k => decide (s.rankHundredths k < s.rankHundredths l)).length))
    ∧ ∀ l : Lane, (s.context l).status ≠ .finished → s.results.places[l] = none

/-- The ranking fits the contexts, and no lane is FINISHED before the start (R70, R135, R136). -/
def State.ResultsFit (s : State) : Prop :=
  s.RanksFit ∧ (s.race.started = false → ∀ l, (s.context l).status ≠ .finished)

/-- The finish-end lamp of each lane of the race whose place has changed takes the pattern of its place in a TIMED group; no
other lamp moves (R46, R47). -/
def State.LampsFollow (s t : State) (p : Program) : Prop :=
  ∀ l side, (t.ports.laneEnd l side).lamp =
    if side = wallEnd p.lengths ∧ p.inRace l = true ∧ s.ports.laneMode l = .timed
        ∧ t.results.places[l] ≠ s.results.places[l] then
      match t.results.places[l] with
      | some 1 => .on
      | some 2 => .slow
      | some 3 => .fast
      | _ => .off
    else (s.ports.laneEnd l side).lamp

/-- The ranking and the place lamps after an event of one lane: ranked anew by R135, or as they were (R47, R136). -/
def State.RankingFollows (s t : State) (p : Program) (l : Lane) : Prop :=
  (ranksAnew (s.context l) (t.context l) = true → t.RanksFit)
    ∧ (ranksAnew (s.context l) (t.context l) = false →
        t.results.order = s.results.order ∧ t.results.places = s.results.places)
    ∧ s.LampsFollow t p

/-- The lane is terminal: FINISHED with a confirmed final time, NO_TIME, DISQUALIFIED or DID_NOT_START (R28, R70). -/
def LaneContext.IsTerminal (c : LaneContext) : Prop :=
  c.status = .finished ∧ c.final.any Final.confirmed = true ∨ c.status = .noTime ∨ c.status = .disqualified
    ∨ c.status = .didNotStart

/-- Race state and clock after an event of one lane: a running race becomes COMPLETE, its clock held, exactly when every lane
of the race is then terminal and no wall is collecting; otherwise both stay (R28). -/
def State.CompletionFollows (s t : State) (p : Program) : Prop :=
  (s.race = .running →
      (t.race = .complete ↔
        (∀ m, p.inRace m = true → (t.context m).IsTerminal) ∧ ∀ m, (t.context m).collecting = none))
    ∧ (t.race = s.race ∧ t.clock = s.clock
      ∨ s.race = .running ∧ t.race = .complete ∧ t.clock = ⟨.held, s.clock.value⟩)

/-- A ranking that held a lane is discarded with an empty RANK_NOTE (R20, R26, R34). -/
def State.discardNotes (s : State) : List Report := if s.results.order = [] then [] else [.rank []]

/-- A raised clock-overrun fault is cleared with its FAULT_NOTE (R20, R30, R34). -/
def State.overrunNotes (s : State) : List Report := if s.overrun then [.fault .clockOverrun false] else []

/-- The FAULT_NOTEs of the pads already held past a new stuck limit, in lane order, START before TURN (R11, R20). -/
def State.stuckNotes (s : State) (limit : Nat) : List Report :=
  (allLanes.map fun l => ([PoolEnd.start, .turn].filter fun side =>
      (s.ports.laneEnd l side).held.any (fun n => decide (limit ≤ n)) && !(s.ports.laneEnd l side).stuck).map
    fun side => Report.fault (.padStuck l side) true).flatten

/-! ### Judgements added by an event (R101, R107, R130 to R132) -/

/-- A cause joins a set in its place by priority; a cause held already changes nothing. -/
def withCause (held : List Judgement) (j : Judgement) : List Judgement :=
  if held.any fun k => k.priority = j.priority then held
  else
    (held.takeWhile fun k => decide (k.priority ≤ j.priority))
      ++ j :: held.dropWhile fun k => decide (k.priority ≤ j.priority)

/-- The set after several causes. -/
def withCauses (held js : List Judgement) : List Judgement := js.foldl withCause held

/-- The JUDGE_NOTEs of causes added one after the other: one for each that joins, with the primary cause and the number
held after it (R132). -/
def judgeNotes (l : Lane) (held : List Judgement) : List Judgement → List Report
  | [] => []
  | j :: js =>
    (if held.any fun k => k.priority = j.priority then []
      else [.judge l j ((withCause held j).headD j) (withCause held j).length])
      ++ judgeNotes l (withCause held j) js

/-- The cause of a reaction: EARLY_START below 0, SUSPECT_START below the floor (R113). -/
def Program.startCauses (p : Program) (reaction : Int) : List Judgement :=
  if reaction < 0 then [.earlyStart reaction] else if reaction < p.floor then [.suspectStart reaction] else []

/-- The causes of a wall record: HAND_TIMED for a hand time, PAD_DISAGREE for a disagreement, BACKUP_TIMED for a time from
the presses (R101, R107). -/
def WallRecord.causes (r : WallRecord) : List Judgement :=
  (if r.source = .hand then [.handTimed r.index] else []) ++ (if r.disagree then [.padDisagree r.index] else [])
    ++ (if r.source = .backupMedian ∨ r.source = .backupMean ∨ r.source = .backupSingle then [.backupTimed r.index]
      else [])

/-! ### What the resolution of a wall settles (R114, R119 to R122) -/

/-- What a resolution leaves of a lane's leg records and pending takeoff, the causes it adds, and the watch it ends, by
its end and leg. -/
structure Settlement where
  legs : List LegRecord
  takeoff : Option PendingTakeoff
  causes : List Judgement
  ended : Option (PoolEnd × Nat)

/-- A resolution that settles nothing. -/
def LaneContext.unsettled (c : LaneContext) : Settlement := ⟨c.legs, c.takeoff, [], none⟩

/-- The margin of a takeoff against an official time (R120). -/
def exchangeMargin (stamp : Stamp) (official : Nat) : Int := max (-99999) (min 99999 ((stamp.value : Int) - official))

/-- The exchange judged at a wall: the pending takeoff of the leg whose exchange wall it is goes, and the leg is EARLY
below minus the tolerance, with EARLY_TAKEOFF, else LEGAL (R119 to R121). -/
def LaneContext.exchangeJudged (p : Program) (index official : Nat) (c : LaneContext) : Settlement :=
  match c.takeoff.filter fun t => p.exchangeLeg index = some t.leg with
  | some t =>
    let margin := exchangeMargin t.stamp official
    if margin < -(p.tolerance : Int) then
      ⟨c.legs.set (t.leg - 2) ⟨.early, some margin⟩, none, [.earlyTakeoff t.leg margin], none⟩
    else ⟨c.legs.set (t.leg - 2) ⟨.legal, some margin⟩, none, [], none⟩
  | none => c.unsettled

/-- A resolution judges the exchange of its wall and then settles as UNJUDGED the leg whose first wall it is: leg 1 of a
PLATFORM start without a reaction, with its prestart takeoff and its start watch; a later leg that is still PENDING, with
its watch (R114, R122). -/
def LaneContext.settledAt (p : Program) (index official : Nat) (c : LaneContext) : Settlement :=
  let e := c.exchangeJudged p index official
  if index = 1 then
    if p.startKind = .platform ∧ c.reaction = none then
      ⟨e.legs, e.takeoff.filter fun t => decide (t.leg ≠ 1), e.causes ++ [.unjudged 1], some (.start, 1)⟩
    else e
  else
    match p.opensLeg index with
    | some k =>
      if e.legs[k - 2]?.any fun r => r.verdict = .pending then
        ⟨e.legs.set (k - 2) ⟨.unjudged, none⟩, e.takeoff, e.causes ++ [.unjudged k],
          some (wallEnd (p.exchangeWall k), k)⟩
      else e
    | none => e

/-- The watches of a lane. -/
def State.watches (s : State) (l : Lane) (side : PoolEnd) : Option Nat := (s.channel side l).watch

/-- The watches after a wall is expected with its phase set against the clock: at its first arming an exchange wall sets
the watch of its leg (R74, R118). -/
def Program.watchesArmed (p : Program) (now : Nat) (e : ExpectedWall) (watch : PoolEnd → Option Nat) (side : PoolEnd) :
    Option Nat :=
  match p.exchangeLeg e.index with
  | some k => if e.armTime ≤ now ∧ e.everArmed = false ∧ side = e.side then some k else watch side
  | none => watch side

/-- The watches after the one a resolution ends. -/
def Settlement.watches (x : Settlement) (watch : PoolEnd → Option Nat) (side : PoolEnd) : Option Nat :=
  match x.ended with
  | some (place, leg) => if side = place ∧ watch side = some leg then none else watch side
  | none => watch side

/-- Legs, pending takeoff and judgements of a lane after an event that settled them, its reaction and start source
kept. -/
def LaneContext.SettledFrom (x : Settlement) (causes : List Judgement) (before after : LaneContext) : Prop :=
  after.legs = x.legs ∧ after.takeoff = x.takeoff
    ∧ after.judgements = withCauses before.judgements (causes ++ x.causes)
    ∧ after.reaction = before.reaction ∧ after.source = before.source

/-- The watches after an event of one lane: every watch has ended when the race has completed; else the lane's are these
and the other lanes' are kept (R28, R60). -/
def State.WatchesAre (s t : State) (l : Lane) (watch : PoolEnd → Option Nat) : Prop :=
  (s.race = .running → t.race = .complete → ∀ side m, (t.channel side m).watch = none)
    ∧ (¬ (s.race = .running ∧ t.race = .complete) →
        ∀ side, (t.channel side l).watch = watch side ∧ ∀ m, m ≠ l → t.channel side m = s.channel side m)

/-- The wall after a resolved wall of a running race, with its new arm time: the expected wall, else a new one (R75). -/
def LaneContext.wallAfter (p : Program) (index official : Nat) (c : LaneContext) : ExpectedWall :=
  { c.expected.getD ⟨index + 1, wallEnd (index + 1), 0, false, false⟩ with armTime := official + p.armDelay }

/-- An expected wall with its phase set against the clock (R73, R74). -/
def ExpectedWall.placed (now : Nat) (e : ExpectedWall) : ExpectedWall :=
  { e with armed := decide (e.armTime ≤ now), everArmed := e.everArmed || decide (e.armTime ≤ now) }

/-! ### What a close settles in a lane (R29) -/

/-- What stage 1 of a close settles: the collecting wall, if there is one. -/
def LaneContext.closeSettled (p : Program) (c : LaneContext) : Settlement :=
  match c.collecting with
  | some w => c.settledAt p w.index (recordOfWall p w).official
  | none => c.unsettled

/-- The leg records after a close: every leg still PENDING is UNJUDGED. -/
def LaneContext.closeLegs (p : Program) (c : LaneContext) : List LegRecord :=
  (c.closeSettled p).legs.mapIdx fun i r => if i + 2 ≤ p.legs ∧ r.verdict = .pending then ⟨.unjudged, none⟩ else r

/-- The causes a close adds to a lane, in their order: those of stage 1, the open later legs, and leg 1 when its start
watch is still set without a reaction. -/
def LaneContext.closeCauses (p : Program) (watch : PoolEnd → Option Nat) (c : LaneContext) : List Judgement :=
  (match c.collecting with
    | some w => (recordOfWall p w).causes
    | none => [])
    ++ (c.closeSettled p).causes
    ++ ((List.range (p.legs - 1)).filter fun i => (c.closeSettled p).legs[i]?.any fun r => r.verdict = .pending).map
        (fun i => Judgement.unjudged (i + 2))
    ++ (if (c.closeSettled p).watches watch .start = some 1 ∧ c.reaction = none then [.unjudged 1] else [])

/-- The reports of a close in one lane: WALL_NOTE, FINISH_NOTE and JUDGE_NOTEs as each applies. -/
def LaneContext.closeNotes (p : Program) (l : Lane) (watch : PoolEnd → Option Nat) (c : LaneContext) : List Report :=
  (match c.collecting with
    | some w =>
      [Report.wall l .close (recordOfWall p w)]
        ++ (if w.index = p.lengths then
            [.finish l .finished (recordOfWall p w).official true (c.final.map Final.time)]
          else [])
    | none => [])
    ++ judgeNotes l c.judgements (c.closeCauses p watch)

/-! ### Texts of the board (R166, R167) -/

/-- The code of a decimal digit. -/
def digitCode (n : Nat) : Nat := 48 + n % 10

/-- The eight codes of a time in hundredths, right-aligned: "S.hh", "SS.hh", "M:SS.hh" or "MM:SS.hh". -/
def timeCodes (h : Nat) : List Nat :=
  if h < 1000 then [32, 32, 32, 32, digitCode (h / 100), 46, digitCode (h / 10), digitCode h]
  else if h < 6000 then [32, 32, 32, digitCode (h / 1000), digitCode (h / 100), 46, digitCode (h / 10), digitCode h]
  else
    [if h < 60000 then 32 else digitCode (h / 60000), digitCode (h / 6000), 58, digitCode (h / 100 % 60 / 10),
      digitCode (h / 100 % 60), 46, digitCode (h / 10), digitCode h]

/-- The eight codes of the running clock in tenths, right-aligned: "M:SS.t" or "MM:SS.t". -/
def clockCodes (counts : Nat) : List Nat :=
  let t := counts / 1000
  [32, if t < 6000 then 32 else digitCode (t / 6000), digitCode (t / 600), 58, digitCode (t / 10 % 60 / 10),
    digitCode (t / 10 % 60), 46, digitCode t]

/-- The two codes of the place field: DQ, NS, NT, a place right-aligned, or blanks. -/
def placeCodes (c : LaneContext) (place : Option Nat) : List Nat :=
  match c.status, place with
  | .disqualified, _ => [68, 81]
  | .didNotStart, _ => [78, 83]
  | .noTime, _ => [78, 84]
  | _, some p => [if p < 10 then 32 else digitCode (p / 10), digitCode p]
  | _, none => [32, 32]

/-- The mark: "*" in colour 4 for a start or takeoff cause as the primary one, "?" in colour 4 for any other, else a
blank. -/
def markOf (c : LaneContext) : Cell :=
  match c.judgements.head? with
  | some j => if j.priority ≤ 3 then ⟨42, 4⟩ else ⟨63, 4⟩
  | none => ⟨32, 7⟩

/-- The eight codes of the time field: the final of a FINISHED lane, the last split of a SWIMMING one, else blanks. -/
def timeFieldCodes (c : LaneContext) : List Nat :=
  match c.status, c.final, c.resolved.getLast? with
  | .finished, some f, _ => timeCodes (f.time / 100)
  | .swimming, _, some r => timeCodes (r.official / 100)
  | _, _, _ => List.replicate 8 32

/-- The eight codes of the clock field at this moment. -/
def State.clockFieldCodes (s : State) : List Nat :=
  match s.clock.phase, s.board.freeze, (s.results.order.head?.bind fun l => (s.context l).final) with
  | .prestart, _, _ => [32, 32, 48, 58, 48, 48, 46, 48]
  | .running, some f, _ => timeCodes (f.final / 100)
  | .running, none, _ => clockCodes s.clock.value
  | .held, _, some f => timeCodes (f.time / 100)
  | _, _, _ => List.replicate 8 32

/-- The cell of a field at its offset, in colour 7. -/
def fieldCell (codes : List Nat) (offset : Nat) : Cell := ⟨BitVec.ofNat 7 (codes.getD offset 32), 7⟩

/-- A cell of a lane row after its auto fields have been written in the order place, mark, time (R165). -/
def Layout.autoCell (y : Layout) (c : LaneContext) (place : Option Nat) (x : Nat) (old : Cell) : Cell :=
  if y.timeCol ≤ x ∧ x < y.timeCol + 8 then fieldCell (timeFieldCodes c) (x - y.timeCol)
  else if x = y.markCol then markOf c
  else if y.placeCol ≤ x ∧ x < y.placeCol + 2 then fieldCell (placeCodes c place) (x - y.placeCol)
  else old

/-- The content of a frame of a display row: the memory row of the map, with the clock field over it in row 1 while the
clock row is ON (R167, R172). -/
def State.Shows (s : State) (d : Row) (content : CellRow) : Prop :=
  ∀ x : Fin 32, content[x] =
    if d = 1 ∧ s.board.layout.clockRow = true ∧ s.board.layout.clockCol ≤ x ∧ x < s.board.layout.clockCol + 8 then
      fieldCell s.clockFieldCodes (x - s.board.layout.clockCol)
    else s.board.cells[s.board.map[d]][x]

/-! ### What the board shows of an event of the race (R165, R168 to R170, R173) -/

/-- The lanes whose auto fields an event of the race writes: status, resolved walls, final time, primary cause or, in a lane
of the race, the place has changed (R165). -/
def State.autoChanged (s t : State) (l : Lane) : Bool :=
  (s.context l).status != (t.context l).status
    || (s.context l).resolved.length != (t.context l).resolved.length
    || (s.context l).final.map Final.time != (t.context l).final.map Final.time
    || (s.context l).judgements.head? != (t.context l).judgements.head?
    || (s.inRace l && s.results.places[l] != t.results.places[l])

/-- With lane rows ON the auto fields of these lanes show the contexts and places after the event; every other cell of board
memory is as before (R156, R165). -/
def State.AutoRows (s : State) (written : Lane → Bool) (t : State) : Prop :=
  (∀ (l : Lane) (x : Fin 32), t.board.cells[laneRow l][x] =
      if t.board.layout.laneRows = true ∧ written l = true then
        t.board.layout.autoCell (t.context l) t.results.places[l] x s.board.cells[laneRow l][x]
      else s.board.cells[laneRow l][x])
    ∧ t.board.cells[0] = s.board.cells[0] ∧ t.board.cells[1] = s.board.cells[1]

/-- A display row that shows another memory row after an event, or the row of a lane whose auto fields it writes. -/
def State.RowTouched (s : State) (written : Lane → Bool) (t : State) (d : Row) : Prop :=
  s.board.map[d] ≠ t.board.map[d]
    ∨ t.board.layout.laneRows = true ∧ ∃ l, written l = true ∧ s.board.map[d] = laneRow l

/-- The display rows marked, but for row 1. A row that shows another memory row after the event, or whose memory row has
changed, is dirty; under RESTART it may instead be the row being sent, whose frame has begun again with its content of now
(notes/assumptions/20.md).
A row that is not touched keeps its mark, and the frame on the chain goes on unless it is of a row that is (R169, R170,
R173). -/
def State.RowsMarked (s : State) (written : Lane → Bool) (t : State) : Prop :=
  (∀ d : Row, d ≠ 1 → s.board.map[d] ≠ t.board.map[d] ∨ s.board.cells[s.board.map[d]] ≠ t.board.cells[s.board.map[d]] →
      t.board.dirty[d] = true
        ∨ t.board.layout.policy = .restart ∧ t.board.chain = some ⟨.row d (t.rowContent d), 20, true⟩
          ∧ ∃ content left, s.board.chain = some ⟨.row d content, left, false⟩)
    ∧ (∀ d : Row, d ≠ 1 → ¬ s.RowTouched written t d → t.board.dirty[d] = s.board.dirty[d])
    ∧ (t.board.layout.policy = .hold
        ∨ (∀ d content left, s.board.chain = some ⟨.row d content, left, false⟩ → ¬ s.RowTouched written t d) →
      t.board.chain = s.board.chain)
    ∧ t.board.sinceRow1 = s.board.sinceRow1

/-- What marks display row 1: a change of clock phase, the start or the end of a freeze, and in a race that is over another
first lane of the result order (R170). -/
def State.MarksClockRow (s t : State) : Prop :=
  s.clock.phase ≠ t.clock.phase ∨ s.board.freeze ≠ t.board.freeze ∨ (s.board.spent = false ∧ t.board.spent = true)
    ∨ s.race.over = true ∧ t.race.over = true ∧ s.results.order.head? ≠ t.results.order.head?

/-- What an event that writes the auto fields of these lanes does to memory, map and marks. -/
def State.BoardShows (s : State) (written : Lane → Bool) (t : State) : Prop :=
  s.AutoRows written t
    ∧ (s.MapFits → t.MapFits ∧ s.RowsMarked written t
      ∧ (t.board.dirty[1] = true ↔ s.board.dirty[1] = true ∨ s.MarksClockRow t))

/-- A lane's first final time in RUNNING starts the freeze when the interval is above 0 and the spent flag clear (R168,
notes/assumptions/31.md). -/
def State.FreezeStarts (s t : State) : Prop :=
  s.race = .running ∧ 0 < s.board.layout.freezeSeconds ∧ s.board.spent = false
    ∧ ∃ l, (s.context l).final = none ∧ (t.context l).final ≠ none

/-- The freeze after an event of the race other than a start: one that starts holds that final and the end moment the
interval later, and the flag is spent; no other final touches it; and it ends when the race leaves its state (R168). -/
def State.FreezeFollows (s t : State) : Prop :=
  (t.race ≠ s.race → t.board.freeze = none)
    ∧ (s.FreezeStarts t → t.board.spent = true
      ∧ (t.race = s.race → ∀ l f, (s.context l).final = none → (t.context l).final = some f →
          t.board.freeze = some ⟨f.time, s.clock.value + s.board.layout.freezeSeconds * 10000⟩))
    ∧ (¬ s.FreezeStarts t → t.board.spent = s.board.spent ∧ (t.race = s.race → t.board.freeze = s.board.freeze))

/-- The board after an event of lanes: auto fields, map and marks as they follow from what has changed, and the freeze. -/
def State.BoardFollows (s t : State) : Prop := s.BoardShows (s.autoChanged t) t ∧ s.FreezeFollows t

/-! ### What a write of cells marks (R170, R173) -/

/-- A display row whose memory row differs after a write is dirty, unless what its frame carries has changed while it is
being sent under RESTART for the first time: that frame begins again with the new content, and the row is out of the dirty
set. The other rows keep their marks, and no other frame is touched (R170, R173, notes/assumptions/20.md). -/
def State.WriteMarks (s t : State) : Prop :=
  ∀ d : Row,
    (t.board.cells[s.board.map[d]] = s.board.cells[s.board.map[d]] → t.board.dirty[d] = s.board.dirty[d])
      ∧ (t.board.cells[s.board.map[d]] ≠ s.board.cells[s.board.map[d]] →
        (t.board.dirty[d] = false ↔ s.board.layout.policy = .restart ∧ t.rowContent d ≠ s.rowContent d
          ∧ ∃ content left, s.board.chain = some ⟨.row d content, left, false⟩))
      ∧ (t.board.cells[s.board.map[d]] ≠ s.board.cells[s.board.map[d]] → t.board.dirty[d] = false →
        t.board.chain = some ⟨.row d (t.rowContent d), 20, true⟩)
      ∧ ((∀ k : Row, t.board.dirty[k] = true ∨ t.board.cells[s.board.map[k]] = s.board.cells[s.board.map[k]]) →
        t.board.chain = s.board.chain ∧ t.board.sinceRow1 = s.board.sinceRow1)

/-! ### What a conversion does to its channel (R58, R61, R63, R64) -/

/-- What a conversion makes of its channel, of the takeoffs on their way and of the link, `d` being the channel with the
reading entered: full-scale readings are counted while the fault is CLEAR, good ones while it is RAISED, and a reading below
full scale of a channel without a fault sets the platform state by the thresholds. -/
def State.ConvertedTo (s t : State) (side : PoolEnd) (l : Lane) (d : Channel) : Prop :=
  (d.fault = false → d.raw < 1023 → t.link = s.link
      ∧ (d.loaded = true → d.corrected < (s.sampler side).release →
          t.channel side l = { d with fullRun := 0, loaded := false, watch := none }
          ∧ t.takeoffs = s.takeoffs ++ (d.watch.toList.map fun leg => ⟨side, l, leg, s.clock.reading⟩))
      ∧ (d.loaded = true → ¬ d.corrected < (s.sampler side).release →
          t.channel side l = { d with fullRun := 0 } ∧ t.takeoffs = s.takeoffs)
      ∧ (d.loaded = false →
          t.channel side l = { d with fullRun := 0, loaded := decide ((s.sampler side).load ≤ d.corrected) }
          ∧ t.takeoffs = s.takeoffs))
    ∧ (d.fault = false → d.raw = 1023 → t.takeoffs = s.takeoffs
      ∧ (d.fullRun < 2 → t.channel side l = { d with fullRun := d.fullRun + 1 } ∧ t.link = s.link)
      ∧ (2 ≤ d.fullRun → t.channel side l = { d with fault := true, fullRun := 0, goodRun := 0 }
          ∧ t.link = s.link.report (.fault (.platform l side) true)))
    ∧ (d.fault = true → t.takeoffs = s.takeoffs
      ∧ (d.raw = 1023 → t.channel side l = { d with goodRun := 0 } ∧ t.link = s.link)
      ∧ (d.raw < 1023 → d.goodRun < 9 → t.channel side l = { d with goodRun := d.goodRun + 1 } ∧ t.link = s.link)
      ∧ (d.raw < 1023 → 9 ≤ d.goodRun →
          t.channel side l =
            { d with fault := false, goodRun := 0, loaded := decide ((s.sampler side).load ≤ d.corrected) }
          ∧ t.link = s.link.report (.fault (.platform l side) false)))

/-- One conversion of a sampler: nothing but samplers, takeoffs, zeroing and link changes, the count's conversion is spent,
and every other channel is kept (R53). -/
def State.ConvertsOne (s t : State) (side : PoolEnd) (l : Lane) : Prop :=
  t = { s with samplers := t.samplers, takeoffs := t.takeoffs, zeroing := t.zeroing, link := t.link }
    ∧ (∀ other, t.sampler other =
        { s.sampler other with
          channels := (t.sampler other).channels, spent := decide (other = side) || (s.sampler other).spent })
    ∧ ∀ other m, ¬ (other = side ∧ m = l) → t.channel other m = s.channel other m

/-! ### What an event of the race keeps -/

/-- The Console Link but for the report queue and the summary set. -/
def Link.SameButReports (before after : Link) : Prop :=
  after = { before with queue := after.queue, summary := after.summary }

/-- The settings of the board, its area, cursor, masks, clear, layout, mode, slots and rotation. -/
def State.BoardKept (s t : State) : Prop :=
  t.board =
    { s.board with
      cells := t.board.cells, map := t.board.map, dirty := t.board.dirty, chain := t.board.chain
      sinceRow1 := t.board.sinceRow1, freeze := t.board.freeze, spent := t.board.spent }

/-- Both samplers but for the watches of their channels. -/
def State.SamplersKept (s t : State) : Prop :=
  ∀ side, t.sampler side = { s.sampler side with channels := (t.sampler side).channels }
    ∧ ∀ l, t.channel side l = { s.channel side l with watch := (t.channel side l).watch }

/-- The Lane Port Unit but for the lamps. -/
def State.PortsButLamps (s t : State) : Prop :=
  t.ports = { s.ports with lanes := t.ports.lanes }
    ∧ ∀ l side, t.ports.laneEnd l side = { s.ports.laneEnd l side with lamp := (t.ports.laneEnd l side).lamp }

/-- What an event keeps of queue, reset line, zeroing, board, samplers and link. -/
def State.EventKeeps (s t : State) : Prop :=
  t.pending = s.pending ∧ t.resetHeld = s.resetHeld ∧ t.zeroing = s.zeroing ∧ s.BoardKept t ∧ s.SamplersKept t
    ∧ s.link.SameButReports t.link

/-- What a command of the race keeps, beside taking its frame and placing its reply. -/
def State.CommandKeeps (kind : Byte) (code : ResultCode) (data : List Byte) (s t : State) : Prop :=
  t.pending = s.pending ∧ t.resetHeld = s.resetHeld ∧ t.zeroing = s.zeroing ∧ t.takeoffs = s.takeoffs ∧ s.BoardKept t
    ∧ s.SamplersKept t ∧ (s.link.answered kind code data).SameButReports t.link

/-! ### Moves of the race state (2.1) -/

/-- The moves of the race state that a row can make. Every other row leaves it (R16, R20 to R34). -/
def raceMove (i : Instr) (before after : RaceState) : Bool :=
  match i with
  | .powerOn | .resetLineAssert | .resetLineRelease | .controllerResetTakesEffect => after == .empty
  | .programLoad _ => !before.isUnderWay && after == .loaded
  | .raceArm _ => before == .loaded && after == .armed
  | .startManual _ | .startLineEdge | .contactLineSample .startLine _ => before == .armed && after == .running
  | .raceRecall _ => before.isUnderWay && after == .loaded
  | .raceClose _ | .clockSaturation => before == .running && after == .complete
  | .padPress _ _ | .contactLineSample (.pad _ _) _ | .closeTimerExpiry _ => before == .running && after == .complete
  | .amendDisqualify _ _ _ | .amendDidNotStart _ _ _ | .amendRestore _ _ _ | .amendTimeWall _ _ _ | .amend _ =>
    before == .running && after == .complete
  | .resultsRelease _ => before == .complete && after == .official
  | .raceClear _ => !before.isUnderWay && after == .empty
  | _ => false

/-! ### What a lane holds after a start, a load and a close (R20, R23, R29, R111) -/

/-- An emptied context of a program: READY in the race, IDLE outside it, leg records PENDING (R20, R69). -/
def Program.freshContext (p : Program) (l : Lane) : LaneContext :=
  { status := if p.inRace l then .ready else .idle
    expected := none, collecting := none, resolved := [], takeoff := none, reaction := none, source := none
    legs := List.replicate (p.legs - 1) ⟨.pending, none⟩
    judgements := [], final := none }

/-- What the start signal makes of a lane of the race: SWIMMING, the start source, wall 1 at TURN expected with its
phase set against the clock, and a prestart takeoff turned into a reaction (R23, R73, R111). -/
def LaneContext.StartedFrom (p : Program) (mark now : Nat) (source : StartSource) (before after : LaneContext) : Prop :=
  after.status = .swimming ∧ after.source = some source
    ∧ after.expected = some ⟨1, .turn, p.armDelay, decide (p.armDelay ≤ now), decide (p.armDelay ≤ now)⟩
    ∧ after.collecting = before.collecting ∧ after.resolved = before.resolved ∧ after.legs = before.legs
    ∧ after.final = before.final
    ∧ (∀ stamp, before.takeoff = some ⟨1, stamp⟩ →
        after.takeoff = none ∧ after.reaction = some (exchangeMargin stamp mark)
          ∧ after.judgements = withCauses before.judgements (p.startCauses (exchangeMargin stamp mark)))
    ∧ ((∀ stamp, before.takeoff ≠ some ⟨1, stamp⟩) →
        after.takeoff = before.takeoff ∧ after.reaction = before.reaction ∧ after.judgements = before.judgements)

/-- The JUDGE_NOTEs of a start in one lane: those of the reaction that its prestart takeoff gives (R111, R113). -/
def LaneContext.startNotes (p : Program) (mark : Nat) (l : Lane) (c : LaneContext) : List Report :=
  match c.takeoff with
  | some ⟨1, stamp⟩ => judgeNotes l c.judgements (p.startCauses (exchangeMargin stamp mark))
  | _ => []

/-- The reports of a start: the RACE_NOTE with the start mark, then the JUDGE_NOTEs in lane order (R35, R111). -/
def State.startNotes (s : State) (p : Program) (mark : Nat) (cause : RaceCause) (source : StartSource) : List Report :=
  .race .running .armed cause p.eventId mark (some source)
    :: ((allLanes.filter p.inRace).map fun l => (s.context l).startNotes p mark l).flatten

/-- What a close makes of a lane of the race: the collecting wall resolved by R99, no takeoff pending, no leg open, a
terminal status, NO_TIME for a swimmer whose final wall was not collecting (R29). -/
def LaneContext.ClosedFrom (p : Program) (before after : LaneContext) : Prop :=
  after.collecting = none ∧ after.takeoff = none
    ∧ after.status ∈ [LaneStatus.finished, .noTime, .disqualified, .didNotStart]
    ∧ (∀ k r, 2 ≤ k → k ≤ p.legs → after.leg k = some r → r.verdict ≠ .pending)
    ∧ (∀ w, before.collecting = some w →
        after.resolved = before.resolved ++ [recordOfWall p w]
          ∧ (w.index = p.lengths → after.status = .finished ∧ after.final = some ⟨(recordOfWall p w).official, true⟩)
          ∧ (w.index ≠ p.lengths → after.final = before.final))
    ∧ (before.collecting = none → after.resolved = before.resolved ∧ after.final = before.final)
    ∧ ((∀ w, before.collecting = some w → w.index ≠ p.lengths) → before.status = .swimming →
        after.status = .noTime ∧ after.expected = none)

/-- What a close makes of the whole (R29, R30): COMPLETE with the clock held at its value, every lane of the race
closed, every watch ended, the rest of the channels, the program, the log and the settings kept. -/
def State.ClosedFrom (p : Program) (s t : State) : Prop :=
  t.race = .complete ∧ t.clock = ⟨.held, s.clock.value⟩
    ∧ (∀ l, p.inRace l = true → (s.context l).ClosedFrom p (t.context l))
    ∧ (∀ l, p.inRace l = true → (t.context l).legs = (s.context l).closeLegs p
        ∧ (t.context l).judgements =
            withCauses (s.context l).judgements ((s.context l).closeCauses p (s.watches l))
        ∧ (t.context l).reaction = (s.context l).reaction ∧ (t.context l).source = (s.context l).source)
    ∧ (∀ l, p.inRace l = false → t.context l = s.context l)
    ∧ (∀ side l, t.channel side l = { s.channel side l with watch := none })
    ∧ t.program = s.program ∧ t.source = s.source ∧ t.log = s.log ∧ t.takeoffs = s.takeoffs ∧ s.PortsButLamps t

/-- The reports of a close: lane by lane in lane order, then the RANK_NOTE, then the RACE_NOTE (R29). -/
def State.closeNotes (s t : State) (p : Program) (cause : RaceCause) : List Report :=
  ((allLanes.filter p.inRace).map fun l => (s.context l).closeNotes p l (s.watches l)).flatten
    ++ [t.rankNote, .race .complete .running cause p.eventId s.clock.value s.source]

end Sys2Proof.Machine
end

