-- ==== Sys2Proof/WellFormed.lean ====
section
/-! DEFINITION. Well-formed rows: payloads that fit a frame (R177), bursts of bytes no longer than one frame, and the
refused forms kept apart from the forms that have a row of their own (R45, R138, R174, R179). -/

namespace Sys2Proof

/-- The longest payload of a frame, 249 bytes (11.2). -/
def maxPayload : Nat := 249

/-- The longest frame on the line: sync, length, 250 bytes, check (11.2). -/
def maxFrameBytes : Nat := 253

/-- A payload fits a frame. -/
def fitsFrame (p : Payload) : Bool := p.length ≤ maxPayload

/-- The well-formed rows. -/
def Instr.wf : Instr → Bool
  | .frameReceived bytes => 0 < bytes.length && bytes.length ≤ maxFrameBytes
  | .unknownKind kind p => (payloadLength kind p).isNone && fitsFrame p
  | .lineSet p => (lineSetRow p).isNone && fitsFrame p
  | .amend p => (amendRow p).isNone && fitsFrame p
  | .boardModule p => (boardModuleRow p).isNone && fitsFrame p
  | .identAsk p | .statusAsk p | .linkSet p | .controllerReset p => fitsFrame p
  | .programLoad p | .programAsk p | .raceArm p | .startManual p => fitsFrame p
  | .raceRecall p | .raceClose p | .resultsRelease p | .raceClear p => fitsFrame p
  | .groupMode p | .linesAsk p | .platformZero p | .platformLimits p => fitsFrame p
  | .platformAsk p | .samplerSet p | .laneAsk p | .wallsAsk p | .resultsAsk p => fitsFrame p
  | .logRead p | .logClear p | .boardMode p | .boardArea p | .boardMask p => fitsFrame p
  | .boardWrite p | .boardRead p | .boardClear p | .boardClearStop p | .boardLayout p => fitsFrame p
  | .powerOn | .resetLineAssert | .resetLineRelease => true
  | .frameGapTimeout | .lineFrameEnd | .controllerResetTakesEffect | .linkSpeedChange => true
  | .lamp _ _ _ | .padEnable _ _ _ | .buttonEnable _ _ _ | .zeroingComplete => true
  | .amendDisqualify _ _ _ | .amendDidNotStart _ _ _ | .amendRestore _ _ _ | .amendTimeWall _ _ _ => true
  | .brightness _ | .blank _ | .selfTest _ | .moduleReset _ => true
  | .padPress _ _ | .buttonPress _ _ _ | .startLineEdge | .lineRelease _ => true
  | .stuckTimerExpiry _ _ | .platformConversion _ _ | .takeoff _ _ => true
  | .armTimerExpiry _ | .closeTimerExpiry _ | .clockSaturation | .prestartClockLimit => true
  | .freezeEnd | .clearRowFill | .boardFrameEnd | .clockRowDue | .contactLineSample _ _ => true

end Sys2Proof
end

