-- ==== Sys2Proof/Certificates/Slice0/Obligations.lean ====
section
/-! DEFINITION. The statements for the provers. OBLIGATIONS.json lists them with their tiers, sections and quotes; where a
clause rests on a choice of the model and not on the spec, the docstring names the log entry. -/

open Sys2Proof Sys2Proof.Machine

/-! ### The step -/

/-- With a row at the front of the queue, the step carries that row out on the state with the queue's rest. -/
def Obligations.StepRunsFront : Prop :=
  ∀ (s : State) (i : Instr) (rest : List Instr), s.pending = i :: rest → step s = exec i { s with pending := rest }

/-- On an empty queue, when nothing is due at once, one count of 100 µs passes (the model's choice, log entry 1): the race
clock rises by one in PRESTART and RUNNING up to its maximum, stuck timers and the blink base rise, the clear, the frames
and the gap move on, and both rotations move on one channel. The race, lanes, results, log and board memory stay. A free
line begins the reply in the slot, or else the oldest report. Every timer that has run out joins the queue; the order among
them is the model's (2).
When the change a reply brings about is due, a zeroing has ended, a takeoff is on its way or a command can be taken, that
row joins the queue and no time passes (that a takeoff arrives in the count of its conversion is the model's choice, 32).
While the reset line is held nothing moves (15). -/
def Obligations.IdleTakesOneCount : Prop :=
  (∀ s : State, s.pending = [] → s.resetHeld = false →
    ¬ (s.link.effectDue = true ∧ s.link.effect ≠ none) → (∀ z, s.zeroing = some z → z.finished = false) →
    s.takeoffs = [] → (s.link.inbound = [] ∨ s.link.slot ≠ .empty ∨ s.link.effectDue = true) →
    ∃ t, step s = .next t
      ∧ t.clock.phase = s.clock.phase
      ∧ t.clock.value =
          (if (s.clock.phase = .prestart ∨ s.clock.phase = .running) ∧ s.clock.value < 35999999 then s.clock.value + 1
          else s.clock.value)
      ∧ t.ports.blink = (s.ports.blink + 1) % 10000
      ∧ (∀ l side, t.ports.laneEnd l side =
          { s.ports.laneEnd l side with held := (s.ports.laneEnd l side).held.map (· + 1) })
      ∧ (∀ side, t.sampler side = { s.sampler side with spent := false, rotation := (s.sampler side).rotation + 1 })
      ∧ t.program = s.program ∧ t.race = s.race ∧ t.source = s.source ∧ t.overrun = s.overrun
      ∧ t.startMark = s.startMark ∧ t.zeroing = s.zeroing ∧ t.takeoffs = [] ∧ t.lanes = s.lanes
      ∧ t.results = s.results ∧ t.log = s.log ∧ t.resetHeld = s.resetHeld
      ∧ t.board =
          { s.board with
            chain := t.board.chain, clear := t.board.clear, dirty := t.board.dirty, sinceRow1 := t.board.sinceRow1
            rotation := t.board.rotation, modeSlot := t.board.modeSlot, moduleSlot := t.board.moduleSlot }
      ∧ t.board.clear = s.board.clear.map (fun c => { c with wait := c.wait - 1 })
      ∧ (∀ f, s.board.chain = some f →
          t.board.chain = some { f with left := f.left - 1 } ∧ t.board.dirty = s.board.dirty
            ∧ t.board.sinceRow1 = min 1000 (s.board.sinceRow1 + 1))
      ∧ t.link = { s.link with rx := t.link.rx, line := t.link.line, queue := t.link.queue }
      ∧ t.link.rx = (match s.link.rx with
          | .hunting => .hunting
          | .inFrame bytes gap => .inFrame bytes (gap + 1))
      ∧ (∀ f, s.link.line = some f →
          t.link.line = some { f with left := f.left - Config.baud s.link.speed } ∧ t.link.queue = s.link.queue)
      ∧ (s.link.line = none → s.link.effectDue = false →
          (∀ r, s.link.slot = .holding r →
              t.link.line = some ⟨true, r.frame, r.frame.length * 100000 - Config.baud s.link.speed⟩
              ∧ t.link.queue = s.link.queue)
          ∧ ∀ r rs, (∀ a, s.link.slot ≠ .holding a) → s.link.queue = r :: rs →
              t.link.line = some ⟨false, r.frame, r.frame.length * 100000 - Config.baud s.link.speed⟩
              ∧ t.link.queue = rs)
      ∧ (∀ l, Instr.closeTimerExpiry l ∈ t.pending ↔
          s.race = .running ∧ ∃ w, (s.context l).collecting = some w ∧ w.closeTime ≤ t.clock.value)
      ∧ (∀ l, Instr.armTimerExpiry l ∈ t.pending ↔
          s.race = .running ∧ ∃ e, (s.context l).expected = some e ∧ e.armed = false ∧ e.armTime ≤ t.clock.value)
      ∧ (∀ l side, Instr.stuckTimerExpiry l side ∈ t.pending ↔
          (s.ports.laneEnd l side).stuck = false ∧ ∃ n, (s.ports.laneEnd l side).held = some n ∧ s.stuckLimit ≤ n + 1)
      ∧ (Instr.clockSaturation ∈ t.pending ↔ s.race = .running ∧ t.clock.value = 35999999)
      ∧ (Instr.prestartClockLimit ∈ t.pending ↔
          s.clock.phase = .prestart ∧ t.clock.value = 35999999 ∧ s.clock.value ≠ 35999999)
      ∧ (Instr.freezeEnd ∈ t.pending ↔ ∃ f, s.board.freeze = some f ∧ f.endMoment ≤ t.clock.value)
      ∧ (Instr.clearRowFill ∈ t.pending ↔ ∃ c, s.board.clear = some c ∧ c.wait ≤ 1)
      ∧ (Instr.boardFrameEnd ∈ t.pending ↔ ∃ f, t.board.chain = some f ∧ f.left = 0)
      ∧ (Instr.clockRowDue ∈ t.pending ↔ t.clockRowDue = true ∧ s.board.sinceRow1 < 1000)
      ∧ (Instr.frameGapTimeout ∈ t.pending ↔ ∃ bytes gap, s.link.rx = .inFrame bytes gap ∧ 200 ≤ gap + 1)
      ∧ (Instr.lineFrameEnd ∈ t.pending ↔ ∃ f, t.link.line = some f ∧ f.left = 0))
  ∧ (∀ s : State, s.pending = [] → s.resetHeld = false →
    (s.link.effectDue = true ∧ s.link.effect ≠ none) ∨ (∃ z, s.zeroing = some z ∧ z.finished = true) ∨ s.takeoffs ≠ []
      ∨ (s.link.inbound ≠ [] ∧ s.link.slot = .empty ∧ s.link.effectDue = false) →
    ∃ rows, step s = .next { s with pending := rows }
      ∧ (Instr.linkSpeedChange ∈ rows ↔ s.link.effectDue = true ∧ ∃ code, s.link.effect = some (.speed code))
      ∧ (Instr.controllerResetTakesEffect ∈ rows ↔ s.link.effectDue = true ∧ s.link.effect = some .reset)
      ∧ (Instr.zeroingComplete ∈ rows ↔ ∃ z, s.zeroing = some z ∧ z.finished = true)
      ∧ (∀ side l, Instr.takeoff side l ∈ rows ↔ ∃ t₀ ∈ s.takeoffs, t₀.side = side ∧ t₀.lane = l)
      ∧ (∀ f rest, s.link.inbound = f :: rest → s.link.slot = .empty → s.link.effectDue = false → commandOf f ∈ rows)
      ∧ ∀ i ∈ rows, i = .linkSpeedChange ∨ i = .controllerResetTakesEffect ∨ i = .zeroingComplete
          ∨ (∃ t₀ ∈ s.takeoffs, i = .takeoff t₀.side t₀.lane) ∨ ∃ f rest, s.link.inbound = f :: rest ∧ i = commandOf f)
  ∧ ∀ s : State, s.pending = [] → s.resetHeld = true → step s = .next s

/-! ### Resets (R36, R37, R52, R68, R90, R147, R155, R175, R185, R186) -/

/-- The values the chapters give for power-on; both rotations stand at lane 0. The power-on state meets every invariant. -/
def Obligations.ResetValues : Prop :=
  ((State.reset.program = none ∧ State.reset.race = .empty ∧ State.reset.source = none ∧ State.reset.overrun = false
    ∧ State.reset.clock = ⟨.stopped, 0⟩)
  ∧ (State.reset.ports.low = .level ∧ State.reset.ports.high = .level ∧ State.reset.ports.startLine = .released
    ∧ State.reset.ports.blink = 0
    ∧ ∀ l side, State.reset.ports.laneEnd l side =
        ⟨.released, #v[.released, .released, .released], none, false, .off, true, true⟩)
  ∧ (∀ side, (State.reset.sampler side).enabled = true ∧ (State.reset.sampler side).load = 300
    ∧ (State.reset.sampler side).release = 150 ∧ (State.reset.sampler side).spent = false
    ∧ (State.reset.sampler side).rotation = 0
    ∧ ∀ l, State.reset.channel side l = ⟨0, 0, 0, false, none, false, 0, 0⟩)
  ∧ (∀ l, State.reset.context l = ⟨.idle, none, none, [], none, none, none, [], [], none⟩)
  ∧ (State.reset.results.order = []
    ∧ ∀ l : Lane, State.reset.results.places[l] = none ∧ State.reset.results.amend[l] = ⟨none, false⟩)
  ∧ State.reset.log = ⟨[], 0, 0, true⟩
  ∧ ((∀ (x : Fin 32) (y : Fin 12), State.reset.board.cellAt x y = ⟨32, 7⟩)
    ∧ State.reset.board.area = ⟨0, 0, 31, 11⟩ ∧ State.reset.board.cursor = ⟨0, 0⟩
    ∧ State.reset.board.window = ⟨.off, ⟨0, 0, 31, 11⟩⟩ ∧ State.reset.board.locks = ⟨false, false, false, false⟩
    ∧ State.reset.board.clear = none ∧ State.reset.board.layout = ⟨true, .byLane, 0, 23, 24, true, 12, 5, .hold⟩
    ∧ State.reset.board.freeze = none ∧ State.reset.board.spent = false
    ∧ (∀ d : Row, State.reset.board.map[d] = d ∧ State.reset.board.dirty[d] = false)
    ∧ State.reset.board.mode = .off ∧ State.reset.board.modeSlot = some true ∧ State.reset.board.moduleSlot = none
    ∧ State.reset.board.chain = none ∧ State.reset.board.rotation = 11)
  ∧ (State.reset.link.speed = 2 ∧ State.reset.link.enables = 0xFF ∧ State.reset.link.rx = .hunting
    ∧ State.reset.link.inbound = [] ∧ State.reset.link.slot = .empty ∧ State.reset.link.queue = []
    ∧ State.reset.link.summary = 0x100 ∧ State.reset.link.checkFail = 0 ∧ State.reset.link.overrunCount = 0
    ∧ State.reset.readyLine = true))
  ∧ (State.reset.RaceFits ∧ State.reset.Bounded ∧ State.reset.SamplersInRange ∧ State.reset.JudgementsOrdered
    ∧ State.reset.MapFits ∧ State.reset.WallsFit ∧ State.reset.ResultsFit)

/-- Power-on and the release of the reset line give the power-on state; while the line is held, every lamp is dark and
the ready line is deasserted. That the block holds its power-on state from the assertion on is the model's choice (log
entry 15), and the power-on state takes in the model's values of log entries 5, 6, 8 and 17. The queue of waiting rows
is the model's own and is kept (24). -/
def Obligations.PowerOnAndResetLine : Prop :=
  ∀ s : State,
    exec .powerOn s = .next { State.reset with pending := s.pending }
      ∧ exec .resetLineRelease s = .next { State.reset with pending := s.pending }
      ∧ ∃ t, exec .resetLineAssert s = .next t ∧ t = { State.reset with pending := s.pending, resetHeld := true }
          ∧ (∀ l side, t.lampOutput l side = false) ∧ t.readyLine = false

/-- While the reset line is held the LT10 takes no input: no row but the resets changes anything. That no row at all,
timers included, does so in any such state is the model's choice (log entry 15). -/
def Obligations.ResetLineHeldTakesNothing : Prop :=
  ∀ (s : State) (i : Instr), s.resetHeld = true → i ≠ .powerOn → i ≠ .resetLineAssert → i ≠ .resetLineRelease →
    exec i s = .next s

/-- CONTROLLER_RESET: its reply is placed at once and nothing else happens; the reset is due when the reply has been
sent; it then gives every block its power-on state but for link speed, report enables, platform offsets and thresholds.
The power-on state takes in the model's values of log entries 5, 6, 7 (the blink base), 8 and 17. That the row changes
nothing while it is not due is the model's choice (3). -/
def Obligations.ControllerResetInTwoSteps : Prop :=
  (∀ s : State, s.Takes ⟨kindControllerReset, []⟩ →
    exec (.controllerReset []) s = .next
      { s with link := { s.link.answered kindControllerReset .done [] with effect := some .reset } })
  ∧ (∀ s : State, s.resetHeld = false → s.link.effectDue = true → s.link.effect = some .reset →
    ∃ t, exec .controllerResetTakesEffect s = .next t
      ∧ t = { State.reset with
          pending := s.pending, samplers := t.samplers
          link := { Link.reset with speed := s.link.speed, enables := s.link.enables } }
      ∧ ∀ side, (t.sampler side).enabled = true ∧ (t.sampler side).spent = false
          ∧ (t.sampler side).rotation = 0
          ∧ (t.sampler side).load = (s.sampler side).load ∧ (t.sampler side).release = (s.sampler side).release
          ∧ ∀ l, t.channel side l = { Channel.reset with offset := (s.channel side l).offset })
  ∧ (∀ s : State, ¬ (s.link.effectDue = true ∧ s.link.effect = some .reset) →
    exec .controllerResetTakesEffect s = .next s)

/-! ### The console link (R177 to R184) -/

/-- A frame that arrives whole at a hunting receiver is handed to the inbound buffer, which holds two; a third is
discarded and counted. Bytes other than the sync byte before it are skipped without a count. A frame cut over two rows is
received as one, whatever the gap between them has grown to, as long as no timeout is taken (that a row carries a burst of
bytes is the model's choice, log entry 22). -/
def Obligations.FrameRoundTrip : Prop :=
  (∀ (s : State) (kind : Byte) (payload : Payload), s.resetHeld = false → s.link.rx = .hunting → payload.length ≤ 249 →
    (s.link.inbound.length < 2 →
      exec (.frameReceived (frameBytes kind payload)) s =
        .next { s with link := { s.link with inbound := s.link.inbound ++ [⟨kind, payload⟩] } })
    ∧ (2 ≤ s.link.inbound.length → s.link.overrunCount < 65535 →
      exec (.frameReceived (frameBytes kind payload)) s =
        .next { s with link := { s.link with overrunCount := s.link.overrunCount + 1 } })
    ∧ (2 ≤ s.link.inbound.length → s.link.overrunCount = 65535 →
      exec (.frameReceived (frameBytes kind payload)) s = .next s)
    ∧ ∀ (front back : List Byte) (gap : Nat), frameBytes kind payload = front ++ back → front ≠ [] → back ≠ [] →
      exec (.frameReceived front) s = .next { s with link := { s.link with rx := .inFrame front.tail 0 } }
      ∧ exec (.frameReceived back) { s with link := { s.link with rx := .inFrame front.tail gap } } =
          exec (.frameReceived (frameBytes kind payload)) s)
  ∧ ∀ (s : State) (noise bytes : List Byte), s.resetHeld = false → s.link.rx = .hunting → (∀ b ∈ noise, b ≠ 0xA5) →
    exec (.frameReceived noise) s = .next s
    ∧ exec (.frameReceived (noise ++ bytes)) s = exec (.frameReceived bytes) s

/-- A frame whose check byte is wrong is discarded whole: the check-fail count rises by one, up to 65,535, and nothing is
handed on. So is a length byte of 0 or above 250, and a partial frame when 20 ms have passed without a byte. A timeout
row that comes earlier, or while hunting, changes nothing: a byte taken before it continues the frame (that such a row is
no event is the model's choice, log entry 3). -/
def Obligations.DamagedFrameDiscarded : Prop :=
  (∀ (s : State) (kind check : Byte) (payload : Payload), s.resetHeld = false → s.link.rx = .hunting →
    payload.length ≤ 249 → s.link.checkFail < 65535 →
    check ≠ checkByte (BitVec.ofNat 8 (payload.length + 1) :: kind :: payload) →
    exec (.frameReceived (0xA5 :: BitVec.ofNat 8 (payload.length + 1) :: kind :: payload ++ [check])) s =
      .next { s with link := { s.link with checkFail := s.link.checkFail + 1 } })
  ∧ (∀ (s : State) (length : Byte), s.resetHeld = false → s.link.rx = .hunting → s.link.checkFail < 65535 →
    length = 0 ∨ 250 < length.toNat →
    exec (.frameReceived [0xA5, length]) s = .next { s with link := { s.link with checkFail := s.link.checkFail + 1 } })
  ∧ (∀ (s : State) (bytes : List Byte) (gap : Nat), s.resetHeld = false → s.link.rx = .inFrame bytes gap →
    200 ≤ gap → s.link.checkFail < 65535 →
    exec .frameGapTimeout s =
      .next { s with link := { s.link with checkFail := s.link.checkFail + 1, rx := .hunting } })
  ∧ (∀ s : State, (∀ bytes gap, s.link.rx = .inFrame bytes gap → gap < 200) → exec .frameGapTimeout s = .next s)
  ∧ ∀ k : Link, k.checkFail = 65535 → k.failCheck.checkFail = 65535

/-- The two checks of the link come before the owning block's: a kind that 11.6 does not list is answered UNKNOWN_KIND,
a known kind with a payload of the wrong length BAD_LENGTH, and nothing but the link changes.
A command that the link cannot take yet, since the reply slot is occupied, another frame is older, a change of the
link is due or the reset line is held, changes nothing (that such a row changes nothing is the model's choice,
notes/assumptions/4.md). -/
def Obligations.LinkChecksComeFirst : Prop :=
  ((∀ (s : State) (kind : Byte) (payload : Payload), s.Takes ⟨kind, payload⟩ → payloadLength kind payload = none →
    exec (.unknownKind kind payload) s = .next (s.replied kind .unknownKind []))
  ∧ ∀ (s : State) (i : Instr) (f : Frame) (n : Nat), (∀ kind payload, i ≠ .unknownKind kind payload) →
    frameOf i = some f → s.Takes f → payloadLength f.kind f.payload = some n → n ≠ f.payload.length →
    exec i s = .next (s.replied f.kind .badLength []))
  ∧ (∀ (s : State) (i : Instr) (f : Frame), frameOf i = some f → ¬ s.Takes f → exec i s = .next s)

/-- Every command that is taken leaves the inbound buffer and gets exactly one reply, which names its kind; only the
reply of PLATFORM_ZERO can be held back. A reply other than DONE carries no data, but for BAD_VALUE to PROGRAM_LOAD and
BAD_STATE to RACE_ARM. -/
def Obligations.EveryCommandOneReply : Prop :=
  ∀ (s : State) (i : Instr) (f : Frame), i.wf = true → frameOf i = some f → s.Takes f →
    ∃ t, exec i s = .next t ∧ t.link.inbound = s.link.inbound.tail
      ∧ ((∃ r, t.link.slot = .holding r ∧ r.kind = f.kind
            ∧ (r.code = .done ∨ r.data = [] ∨ (f.kind = kindProgramLoad ∧ r.code = .badValue)
              ∨ (f.kind = kindRaceArm ∧ r.code = .badState)))
          ∨ (f.kind = kindPlatformZero ∧ t.link.slot = .zeroing ∧ t.zeroing.isSome = true))

/-- Rows and frames correspond: the frame of a well-formed console row spells that row and no other, and every frame
that fits the line spells a well-formed row that is carried in it. -/
def Obligations.RowsAndFramesCorrespond : Prop :=
  (∀ (i : Instr) (f : Frame), i.wf = true → frameOf i = some f → commandOf f = i)
  ∧ ∀ f : Frame, f.payload.length ≤ 249 → (commandOf f).wf = true ∧ frameOf (commandOf f) = some f

/-- The end of a frame on the line. At the end of a reply the slot empties and what that reply brings about is due. The
oldest report then begins and leaves the queue; with a command waiting, which can now be taken, the command and the choice
go in either order: the line stays free for the command's reply, or the report begins (the free value of log entry 17). At
the end of a report, or on a free line, the transmitter chooses a complete reply before the oldest report; it leaves the
line free for the reply of a command that can be taken, and while a change of the link is due. A frame with time still to
go has not ended (3).
A report sets its kind's flag in the summary set and no other flag; it is appended to the queue when its kind is
enabled and the queue holds fewer than 32, and otherwise leaves the queue as it was. Nothing else changes. -/
def Obligations.ReportsAndLine : Prop :=
  (∀ (s : State) (f : LineFrame), s.link.line = some f → f.left ≠ 0 → exec .lineFrameEnd s = .next s)
  ∧ (∀ s : State, s.resetHeld = false → (∀ f, s.link.line = some f → f.left = 0) →
    ∃ k, exec .lineFrameEnd s = .next { s with link := k }
      ∧ (∀ bytes freed begun, s.link.line = some ⟨true, bytes, 0⟩ →
          freed = { s.link with
            line := none, slot := .empty, effectDue := decide (s.link.effect ≠ none), choices := s.link.choices + 1 } →
          (∀ r rs, s.link.queue = r :: rs →
            begun = { freed with queue := rs, line := some ⟨false, r.frame, r.frame.length * byteTime⟩ }) →
          (s.link.effect ≠ none ∨ s.link.queue = [] → k = freed)
          ∧ (s.link.effect = none → s.link.queue ≠ [] →
              (s.link.inbound = [] → k = begun) ∧ (s.link.inbound ≠ [] → k = freed ∨ k = begun)))
      ∧ ((∀ bytes left, s.link.line ≠ some ⟨true, bytes, left⟩) →
          (s.link.effectDue = true → k = { s.link with line := none })
          ∧ (∀ r, s.link.effectDue = false → s.link.slot = .holding r →
              k = { s.link with line := some ⟨true, r.frame, r.frame.length * byteTime⟩ })
          ∧ (s.link.slot = .empty → s.link.inbound ≠ [] → k = { s.link with line := none })
          ∧ (∀ r rs, s.link.effectDue = false → (∀ a, s.link.slot ≠ .holding a) →
              s.link.slot ≠ .empty ∨ s.link.inbound = [] → s.link.queue = r :: rs →
              k = { s.link with queue := rs, line := some ⟨false, r.frame, r.frame.length * byteTime⟩ })
          ∧ ((∀ a, s.link.slot ≠ .holding a) → s.link.queue = [] → k = { s.link with line := none })))
  ∧ (∀ (s : State) (r : Report),
    s.report r = { s with link := { s.link with
        summary := (s.report r).link.summary, queue := (s.report r).link.queue } }
      ∧ (∀ n, n < 9 → ((s.report r).link.summary.getLsbD n = true ↔
          s.link.summary.getLsbD n = true ∨ n = r.kindIndex))
      ∧ (s.link.enables.getLsbD r.kindIndex = true → s.link.queue.length < 32 →
          (s.report r).link.queue = s.link.queue ++ [r])
      ∧ (s.link.enables.getLsbD r.kindIndex = false ∨ 32 ≤ s.link.queue.length →
          (s.report r).link.queue = s.link.queue))

/-- IDENT_ASK is taken in every state and answered with the fixed identification: "LT10", revision 1, ten lanes, twelve
rows, thirty-two columns, log capacity 512 in two bytes. With a payload it is answered BAD_LENGTH. -/
def Obligations.IdentificationIsFixed : Prop :=
  (∀ s : State, s.Takes ⟨kindIdentAsk, []⟩ →
    exec (.identAsk []) s =
      .next (s.replied kindIdentAsk .done [0x4C, 0x54, 0x31, 0x30, 1, 10, 12, 32, 0x02, 0x00]))
  ∧ ∀ (s : State) (payload : Payload), payload ≠ [] → s.Takes ⟨kindIdentAsk, payload⟩ →
    exec (.identAsk payload) s = .next (s.replied kindIdentAsk .badLength [])

/-- STATUS_ASK reports the state as it stands in the 23 bytes of R182 and then clears every flag of the summary set;
nothing else changes. -/
def Obligations.StatusIsReported : Prop :=
  ∀ s : State, s.Takes ⟨kindStatusAsk, []⟩ →
    exec (.statusAsk []) s = .next
      { s with link := { s.link with
          summary := 0, inbound := s.link.inbound.tail
          slot := .holding ⟨kindStatusAsk, .done,
            [s.race.code, s.clock.phase.code] ++ be32 s.clock.value ++ be16 s.link.summary.toNat
              ++ be16 s.link.checkFail ++ be16 s.link.overrunCount ++ be16 s.log.entries.length
              ++ [boolCode s.board.clear.isSome] ++ be8 (s.board.dirty.toList.count true)
              ++ laneEndSet (fun l side => (s.ports.laneEnd l side).stuck)
              ++ laneEndSet (fun l side => (s.channel side l).fault) ++ [boolCode s.overrun]⟩ } }

/-- LINK_SET stores the enables at once and answers with both settings; a new speed takes effect when the reply has been
sent, discarding a frame that is being gathered; the speed in force changes nothing; a speed code above 3 is refused. -/
def Obligations.LinkSettings : Prop :=
  (∀ (s : State) (code : Fin 4) (enables : Byte), s.Takes ⟨kindLinkSet, [BitVec.ofNat 8 code.val, enables]⟩ →
    exec (.linkSet [BitVec.ofNat 8 code.val, enables]) s = .next
      { s with link := { s.link.answered kindLinkSet .done [BitVec.ofNat 8 code.val, enables] with
          enables, effect := if code = s.link.speed then none else some (.speed code) } })
  ∧ (∀ (s : State) (b enables : Byte), 3 < b.toNat → s.Takes ⟨kindLinkSet, [b, enables]⟩ →
    exec (.linkSet [b, enables]) s = .next (s.replied kindLinkSet .badValue []))
  ∧ (∀ (s : State) (code : Fin 4), s.resetHeld = false → s.link.effectDue = true →
    s.link.effect = some (.speed code) →
    (s.link.rx = .hunting → exec .linkSpeedChange s = .next
      { s with link := { s.link with speed := code, effect := none, effectDue := false } })
    ∧ ∀ bytes gap, s.link.rx = .inFrame bytes gap → s.link.checkFail < 65535 → exec .linkSpeedChange s = .next
      { s with link := { s.link with
          speed := code, effect := none, effectDue := false, rx := .hunting, checkFail := s.link.checkFail + 1 } })

/-! ### The race program (chapter 01) -/

/-- The record that PROGRAM_ASK returns is the stored program: loading it again passes every structural test, stores the
same program, and clamps nothing. -/
def Obligations.ProgramRecordRoundTrip : Prop :=
  (∀ payload : Payload, payload.length = 27 → firstBadField payload = none →
    (storedProgram payload).bytes.length = 27 ∧ firstBadField (storedProgram payload).bytes = none
      ∧ storedProgram (storedProgram payload).bytes = storedProgram payload
      ∧ clampedFlag (storedProgram payload).bytes = false)
  ∧ (∀ (s : State) (p : Program), s.Takes ⟨kindProgramAsk, []⟩ → s.program = some p →
    exec (.programAsk []) s = .next (s.replied kindProgramAsk .done p.bytes))
  ∧ ∀ s : State, s.Takes ⟨kindProgramAsk, []⟩ → s.program = none →
    exec (.programAsk []) s = .next (s.replied kindProgramAsk .badState [])

/-- A PROGRAM_LOAD outside ARMED and RUNNING whose record passes the structural tests stores it and makes the race
LOADED: clock STOPPED at 0, no start source, no clock-overrun fault, every context empty, READY in the race and IDLE
outside it, no watch, no results, lamps of TIMED groups OFF, no freeze, and with lane rows ON every lane's auto fields
blank, with the display map and the rows marked that follow. The log, the group modes, the enables, the platform offsets and
the rest of board memory are kept, and the reply carries the clamped flag. The reports go in the order of R20: the empty
RANK_NOTE, the clock-overrun FAULT_NOTE, the stuck FAULT_NOTEs and the RACE_NOTE. -/
def Obligations.ProgramLoadStores : Prop :=
  ∀ (s : State) (payload : Payload), s.Takes ⟨kindProgramLoad, payload⟩ → payload.length = 27 →
    s.race ≠ .armed → s.race ≠ .running → firstBadField payload = none →
    ∃ t p, exec (.programLoad payload) s = .next t ∧ p = storedProgram payload ∧ t.program = some p
      ∧ t.race = .loaded ∧ t.clock = ⟨.stopped, 0⟩ ∧ t.source = none ∧ t.overrun = false
      ∧ (∀ l, t.context l = p.freshContext l)
      ∧ (∀ side l, t.channel side l = { s.channel side l with watch := none })
      ∧ t.results = Results.reset
      ∧ (∀ l side, (t.ports.laneEnd l side).lamp =
          if s.ports.laneMode l = .timed then .off else (s.ports.laneEnd l side).lamp)
      ∧ (∀ l side, (t.ports.laneEnd l side).padOn = (s.ports.laneEnd l side).padOn
          ∧ (t.ports.laneEnd l side).buttonsOn = (s.ports.laneEnd l side).buttonsOn
          ∧ ((t.ports.laneEnd l side).stuck = true ↔ (s.ports.laneEnd l side).stuck = true
              ∨ ∃ n, (s.ports.laneEnd l side).held = some n ∧ p.stuckLimit ≤ n))
      ∧ t.ports.low = s.ports.low ∧ t.ports.high = s.ports.high
      ∧ t.log = s.log
      ∧ s.BoardShows (fun _ => true) t ∧ t.board.freeze = none ∧ t.board.spent = s.board.spent
      ∧ s.CommandKeeps kindProgramLoad .done [if storedProgram payload = recordOf payload then 0 else 1] t
      ∧ t.link = (s.link.answered kindProgramLoad .done [if p = recordOf payload then 0 else 1]).reported
          (s.discardNotes ++ s.overrunNotes ++ s.stuckNotes p.stuckLimit
            ++ [.race .loaded s.race .load p.eventId 0 none])

/-- The settings that a load stores: each is the value sent, or the lowest or the highest legal value where it lies
outside its range, whatever the other fields say; arm_delay is then raised to backup_window where there is a station
end. -/
def Obligations.SettingsAreClamped : Prop :=
  ∀ (s : State) (payload : Payload), s.Takes ⟨kindProgramLoad, payload⟩ → payload.length = 27 →
    s.race ≠ .armed → s.race ≠ .running → firstBadField payload = none →
    ∃ t p, exec (.programLoad payload) s = .next t ∧ t.program = some p
      ∧ p.window = (if num32 payload 13 < 10000 then 10000
          else if 100000 < num32 payload 13 then 100000 else num32 payload 13)
      ∧ p.disagree = (if num16 payload 17 < 100 then 100
          else if 10000 < num16 payload 17 then 10000 else num16 payload 17)
      ∧ p.floor = (if 5000 < num16 payload 19 then 5000 else num16 payload 19)
      ∧ p.tolerance = (if 1000 < num16 payload 21 then 1000 else num16 payload 21)
      ∧ p.stuckLimit = (if num32 payload 23 < 10000 then 10000
          else if 600000 < num32 payload 23 then 600000 else num32 payload 23)
      ∧ ∃ a, a = (if num32 payload 9 < 10000 then 10000
          else if 1200000 < num32 payload 9 then 1200000 else num32 payload 9)
        ∧ p.armDelay = if p.station ≠ none ∧ a < p.window then p.window else a

/-- A refused PROGRAM_LOAD changes nothing but the link: BAD_STATE in ARMED and RUNNING without a look at the record,
else BAD_VALUE with the number of the first field, in field order, that fails its test. -/
def Obligations.ProgramLoadRefused : Prop :=
  ∀ (s : State) (payload : Payload), s.Takes ⟨kindProgramLoad, payload⟩ → payload.length = 27 →
    (s.race = .armed ∨ s.race = .running →
      exec (.programLoad payload) s = .next (s.replied kindProgramLoad .badState []))
    ∧ (s.race ≠ .armed → s.race ≠ .running → ∀ n : Byte,
        n = 2 ∧ ¬ (1 ≤ num16 payload 2 ∧ num16 payload 2 ≤ 1023)
        ∨ (1 ≤ num16 payload 2 ∧ num16 payload 2 ≤ 1023)
          ∧ (n = 3 ∧ ¬ (1 ≤ num8 payload 4 ∧ num8 payload 4 ≤ 64)
          ∨ (1 ≤ num8 payload 4 ∧ num8 payload 4 ≤ 64)
            ∧ (n = 4 ∧ ¬ (1 ≤ num8 payload 5 ∧ num8 payload 5 ≤ 4 ∧ num8 payload 4 % num8 payload 5 = 0)
            ∨ (1 ≤ num8 payload 5 ∧ num8 payload 5 ≤ 4 ∧ num8 payload 4 % num8 payload 5 = 0)
              ∧ (n = 5 ∧ ¬ num8 payload 6 ≤ 1
              ∨ num8 payload 6 ≤ 1
                ∧ (n = 6 ∧ ¬ num8 payload 7 ≤ 2 ∨ num8 payload 7 ≤ 2 ∧ n = 7 ∧ ¬ num8 payload 8 ≤ 1)))) →
        exec (.programLoad payload) s = .next (s.replied kindProgramLoad .badValue [n]))

/-! ### Race control and the race clock (chapter 02) -/

/-- RACE_ARM in LOADED with every lane of the race in a TIMED group: ARMED, the clock in PRESTART from 0, leg-1 watches
on the START end of the lanes of the race for a PLATFORM start; one report, the RACE_NOTE; on the board display row 1 marked
for the change of clock phase; everything else kept, from states whose clock, freeze and map fit the race.
A refused RACE_ARM changes nothing but the link. Its two bytes are the race state and the set of lane groups, bit 0
LOW and bit 1 HIGH, that hold a lane of the race in LEVEL mode; the set is empty outside LOADED. -/
def Obligations.RaceArming : Prop :=
  (∀ (s : State) (p : Program), s.Takes ⟨kindRaceArm, []⟩ → s.program = some p → s.race = .loaded →
    (∀ l, p.inRace l = true → s.ports.laneMode l = .timed) →
    ∃ t, exec (.raceArm []) s = .next t ∧ t.race = .armed ∧ t.clock = ⟨.prestart, 0⟩
      ∧ (∀ l, p.startKind = .platform ∧ p.inRace l = true →
          t.channel .start l = { s.channel .start l with watch := some 1 })
      ∧ (∀ l, ¬ (p.startKind = .platform ∧ p.inRace l = true) → t.channel .start l = s.channel .start l)
      ∧ t.samplers.turn = s.samplers.turn
      ∧ t.program = s.program ∧ t.source = s.source ∧ t.overrun = s.overrun ∧ t.ports = s.ports ∧ t.lanes = s.lanes
      ∧ t.startMark = s.startMark ∧ t.results = s.results ∧ t.log = s.log ∧ s.CommandKeeps kindRaceArm .done [] t
      ∧ t.board.cells = s.board.cells ∧ t.board.map = t.mapNow ∧ t.board.freeze = none ∧ t.board.spent = s.board.spent
      ∧ (s.RaceFits → s.MapFits → t.board = { s.board with dirty := s.board.dirty.set 1 true })
      ∧ t.link.summary = s.link.summary ||| 1
      ∧ t.link = (s.link.answered kindRaceArm .done []).reported [.race .armed .loaded .arm p.eventId 0 s.source])
  ∧ (∀ s : State, s.Takes ⟨kindRaceArm, []⟩ →
    (s.race ≠ .loaded → exec (.raceArm []) s = .next (s.replied kindRaceArm .badState [s.race.code, 0]))
    ∧ (s.race = .loaded → (∃ l, s.inRace l = true ∧ s.ports.laneMode l = .level) →
      ∃ g : Byte, exec (.raceArm []) s = .next (s.replied kindRaceArm .badState [1, g]) ∧ g.toNat < 4
        ∧ (g.getLsbD 0 = true ↔ ∃ l : Lane, l.val < 5 ∧ s.inRace l = true ∧ s.ports.low = .level)
        ∧ (g.getLsbD 1 = true ↔ ∃ l : Lane, 5 ≤ l.val ∧ s.inRace l = true ∧ s.ports.high = .level)))

/-- The start of an ARMED race, by START_MANUAL with the prestart value as its mark and the clock from 0, or by a start
line edge stamped in PRESTART with that stamp as its mark and the clock from 1 (DEDUCED: the edge is recognised one
count after its stamp): RUNNING, the start source, every lane of the race started, the other lanes kept. The start watches
that are set stay set, and the TURN end's are those of wall 1 as it is placed. The auto fields of the lanes that change, the
map and the rows marked follow, the spent flag is cleared and a freeze untouched. The RACE_NOTE with the start mark and then
the JUDGE_NOTEs of the reactions, in lane order, after a LOG_NOTE of the edge's entry.
A start line edge that finds the race in any state but ARMED, or an ARMED race with a NONE stamp, leaves its entry in
the log, NOT_ARMED_RACE, and nothing else; START_MANUAL outside ARMED is refused. -/
def Obligations.RaceStarting : Prop :=
  (∀ (s : State) (p : Program), s.program = some p → s.race = .armed →
    (s.Takes ⟨kindStartManual, []⟩ →
      ∃ t, exec (.startManual []) s = .next t ∧ t.race = .running ∧ t.clock = ⟨.running, 0⟩ ∧ t.source = some .manual
        ∧ t.startMark = some s.clock.value
        ∧ (∀ l, p.inRace l = true → (s.context l).StartedFrom p s.clock.value 0 .manual (t.context l))
        ∧ (∀ l, p.inRace l = false → t.context l = s.context l)
        ∧ (∀ l, (t.channel .start l).watch = (s.channel .start l).watch
            ∧ (t.channel .turn l).watch = if p.inRace l then
                p.watchesArmed 0 ⟨1, .turn, p.armDelay, false, false⟩ (s.watches l) .turn
              else (s.channel .turn l).watch)
        ∧ s.BoardShows (s.autoChanged t) t ∧ t.board.freeze = s.board.freeze
        ∧ t.program = s.program ∧ t.results = s.results ∧ t.log = s.log ∧ t.ports = s.ports ∧ t.board.spent = false
        ∧ s.CommandKeeps kindStartManual .done (be32 s.clock.value) t
        ∧ t.link = (s.link.answered kindStartManual .done (be32 s.clock.value)).reported
            (s.startNotes p s.clock.value .startManual .manual))
    ∧ ∀ mark, s.resetHeld = false → s.ports.startLine = .pressSeen (.pre mark) →
      ∃ t, exec .startLineEdge s = .next t ∧ t.race = .running ∧ t.clock = ⟨.running, 1⟩ ∧ t.source = some .line
        ∧ t.startMark = some mark
        ∧ (∀ l, p.inRace l = true → (s.context l).StartedFrom p mark 1 .line (t.context l))
        ∧ (∀ l, p.inRace l = false → t.context l = s.context l)
        ∧ (∀ l, (t.channel .start l).watch = (s.channel .start l).watch
            ∧ (t.channel .turn l).watch = if p.inRace l then
                p.watchesArmed 1 ⟨1, .turn, p.armDelay, false, false⟩ (s.watches l) .turn
              else (s.channel .turn l).watch)
        ∧ s.BoardShows (s.autoChanged t) t ∧ t.board.freeze = s.board.freeze
        ∧ t.log = s.log.add (.pre mark) .start none .accepted
        ∧ t.ports = { s.ports with startLine := .pressed }
        ∧ t.program = s.program ∧ t.results = s.results ∧ t.board.spent = false ∧ t.takeoffs = s.takeoffs
        ∧ s.EventKeeps t
        ∧ t.link = s.link.reported (s.log.notes ++ s.startNotes p mark .startLine .line))
  ∧ ((∀ (s : State) (stamp : Stamp), s.resetHeld = false → s.ports.startLine = .pressSeen stamp →
    s.race ≠ .armed ∨ stamp = .none →
    exec .startLineEdge s = .next
      { s with
        ports := { s.ports with startLine := .pressed }
        log := s.log.add stamp .start none (.ignored .notArmedRace)
        link := s.link.reported s.log.notes })
  ∧ ∀ s : State, s.Takes ⟨kindStartManual, []⟩ → s.race ≠ .armed →
    exec (.startManual []) s = .next (s.replied kindStartManual .badState []))

/-- RACE_RECALL in ARMED and RUNNING: LOADED with the program kept, clock STOPPED at 0, contexts emptied, watches ended,
results discarded, lamps of TIMED groups OFF, the freeze ended, with lane rows ON every lane's auto fields blank, with the
display map and the rows marked that follow; log, modes, enables, stuck timers, faults and the rest of board memory kept. An
empty RANK_NOTE when a ranking is discarded, then the RACE_NOTE. Elsewhere refused. -/
def Obligations.RaceRecalled : Prop :=
  (∀ (s : State) (p : Program), s.Takes ⟨kindRaceRecall, []⟩ → s.program = some p → s.race = .armed ∨ s.race = .running →
    ∃ t, exec (.raceRecall []) s = .next t ∧ t.race = .loaded ∧ t.clock = ⟨.stopped, 0⟩ ∧ t.source = none
      ∧ t.program = s.program ∧ t.log = s.log ∧ t.overrun = s.overrun
      ∧ (∀ l, t.context l = p.freshContext l)
      ∧ (∀ side l, t.channel side l = { s.channel side l with watch := none })
      ∧ t.results = Results.reset
      ∧ (∀ l side, (t.ports.laneEnd l side).lamp =
          if s.ports.laneMode l = .timed then .off else (s.ports.laneEnd l side).lamp)
      ∧ s.BoardShows (fun _ => true) t ∧ t.board.freeze = none ∧ t.board.spent = s.board.spent
      ∧ s.PortsButLamps t ∧ s.CommandKeeps kindRaceRecall .done [] t
      ∧ t.link = (s.link.answered kindRaceRecall .done []).reported
          (s.discardNotes ++ [.race .loaded s.race .recall p.eventId 0 none]))
  ∧ ∀ s : State, s.Takes ⟨kindRaceRecall, []⟩ → s.race ≠ .armed → s.race ≠ .running →
    exec (.raceRecall []) s = .next (s.replied kindRaceRecall .badState [])

/-- RACE_CLOSE in RUNNING, and the saturation of the running clock at 35,999,999, close the race; saturation raises the
clock-overrun fault besides. In each lane of the race the collecting wall is resolved with what it settles, the open legs
become UNJUDGED with their judgements, and the notes go lane by lane, then the RANK_NOTE and the RACE_NOTE, after the
FAULT_NOTE of a saturation. The ranking is that of R135, with the place lamps. Auto fields, display map, marked rows and
the freeze (log entry 31) follow. RACE_CLOSE elsewhere is refused. Short of the maximum CLOCK_SATURATION is no event (the
model's choice, log entry 3). The order among several legs of one lane rests on entry 11. -/
def Obligations.RaceClosed : Prop :=
  (∀ (s : State) (p : Program), s.program = some p → s.race = .running →
    (s.Takes ⟨kindRaceClose, []⟩ →
      ∃ t, exec (.raceClose []) s = .next t ∧ s.ClosedFrom p t ∧ t.overrun = s.overrun
        ∧ t.RanksFit ∧ t.results.amend = s.results.amend ∧ s.LampsFollow t p
        ∧ s.BoardFollows t ∧ s.CommandKeeps kindRaceClose .done [] t
        ∧ t.link = (s.link.answered kindRaceClose .done []).reported (s.closeNotes t p .close))
    ∧ (s.resetHeld = false → s.clock.value = 35999999 →
      ∃ t, exec .clockSaturation s = .next t ∧ s.ClosedFrom p t ∧ t.overrun = true
        ∧ t.RanksFit ∧ t.results.amend = s.results.amend ∧ s.LampsFollow t p
        ∧ s.BoardFollows t ∧ s.EventKeeps t
        ∧ t.link = s.link.reported (.fault .clockOverrun true :: s.closeNotes t p .overrun)))
  ∧ (∀ s : State, s.Takes ⟨kindRaceClose, []⟩ → s.race ≠ .running →
    exec (.raceClose []) s = .next (s.replied kindRaceClose .badState []))
  ∧ ∀ s : State, s.race ≠ .running ∨ s.clock.value ≠ 35999999 → exec .clockSaturation s = .next s

/-- RESULTS_RELEASE in COMPLETE makes the race OFFICIAL, with clock, contexts, results and judgements as they stand, a
DONE reply without data and the RACE_NOTE of the release; elsewhere it is refused; and no row takes a race from OFFICIAL
back to COMPLETE. While the race is OFFICIAL no row but PROGRAM_LOAD, RACE_CLEAR and the resets changes a lane context, the
result order, a place, an amendment or the program. -/
def Obligations.ResultsReleased : Prop :=
  (∀ s : State, s.Takes ⟨kindResultsRelease, []⟩ → s.race = .complete →
    ∃ t, exec (.resultsRelease []) s = .next t ∧ t.race = .official ∧ t.clock = s.clock ∧ t.lanes = s.lanes
      ∧ t.results = s.results ∧ t.program = s.program ∧ t.source = s.source ∧ t.overrun = s.overrun
      ∧ t.ports = s.ports ∧ t.samplers = s.samplers ∧ t.log = s.log ∧ t.board.cells = s.board.cells
      ∧ s.BoardFollows t
      ∧ t.link =
          ({ s.link with
            inbound := s.link.inbound.tail, slot := .holding ⟨kindResultsRelease, .done, []⟩ } : Link).report
            (.race .official .complete .release s.eventId s.clock.value s.source))
  ∧ (∀ s : State, s.Takes ⟨kindResultsRelease, []⟩ → s.race ≠ .complete →
    exec (.resultsRelease []) s = .next (s.replied kindResultsRelease .badState []))
  ∧ (∀ (i : Instr) (s t : State), s.race = .official → exec i s = .next t → t.race ≠ .complete)
  ∧ ∀ (i : Instr) (s t : State), s.race = .official → exec i s = .next t →
    (∀ payload, i ≠ .programLoad payload ∧ i ≠ .raceClear payload) →
    i ≠ .powerOn → i ≠ .resetLineAssert → i ≠ .resetLineRelease → i ≠ .controllerResetTakesEffect →
    t.lanes = s.lanes ∧ t.results = s.results ∧ t.program = s.program ∧ t.race = .official

/-- RACE_CLEAR: refused in ARMED and RUNNING, without effect in EMPTY, and else the program goes with everything of its
race: EMPTY, clock STOPPED at 0, contexts IDLE without leg records, no watch, no results, no clock-overrun fault, lamps of
TIMED groups OFF, no freeze, and with lane rows ON every lane's auto fields blank, with the display map and the rows marked
that follow; the stuck limit is 100,000 again. The log, the group modes, the enables and the rest of board memory are kept.
The reports: an empty RANK_NOTE, the clock-overrun FAULT_NOTE, the stuck FAULT_NOTEs of the new limit, the RACE_NOTE. -/
def Obligations.RaceCleared : Prop :=
  (∀ s : State, s.Takes ⟨kindRaceClear, []⟩ → s.race = .loaded ∨ s.race = .complete ∨ s.race = .official →
    ∃ t, exec (.raceClear []) s = .next t ∧ t.race = .empty ∧ t.program = none ∧ t.clock = ⟨.stopped, 0⟩
      ∧ t.source = none ∧ t.overrun = false ∧ (∀ l, t.context l = LaneContext.reset)
      ∧ (∀ side l, t.channel side l = { s.channel side l with watch := none }) ∧ t.results = Results.reset
      ∧ (∀ l side, (t.ports.laneEnd l side).lamp =
          if s.ports.laneMode l = .timed then .off else (s.ports.laneEnd l side).lamp)
      ∧ (∀ l side, (t.ports.laneEnd l side).padOn = (s.ports.laneEnd l side).padOn
          ∧ (t.ports.laneEnd l side).buttonsOn = (s.ports.laneEnd l side).buttonsOn
          ∧ ((t.ports.laneEnd l side).stuck = true ↔ (s.ports.laneEnd l side).stuck = true
              ∨ ∃ n, (s.ports.laneEnd l side).held = some n ∧ 100000 ≤ n))
      ∧ t.ports.low = s.ports.low ∧ t.ports.high = s.ports.high ∧ t.stuckLimit = 100000
      ∧ t.log = s.log ∧ s.BoardShows (fun _ => true) t ∧ t.board.freeze = none ∧ t.board.spent = s.board.spent
      ∧ s.CommandKeeps kindRaceClear .done [] t
      ∧ t.link = (s.link.answered kindRaceClear .done []).reported
          (s.discardNotes ++ s.overrunNotes ++ s.stuckNotes 100000
            ++ [.race .empty s.race .clear ((s.program.map Program.eventId).getD 0) 0 none]))
  ∧ (∀ s : State, s.Takes ⟨kindRaceClear, []⟩ → s.race = .empty →
    exec (.raceClear []) s = .next (s.replied kindRaceClear .done []))
  ∧ ∀ s : State, s.Takes ⟨kindRaceClear, []⟩ → s.race = .armed ∨ s.race = .running →
    exec (.raceClear []) s = .next (s.replied kindRaceClear .badState [])

/-- The race state moves only as chapter 02 lets it: each row makes only its own moves, and no other row any. -/
def Obligations.RaceStateMoves : Prop :=
  ∀ (i : Instr) (s t : State), exec i s = .next t → t.race = s.race ∨ raceMove i s.race t.race = true

/-! ### The lane ports (chapter 03) -/

/-- GROUP_MODE: the group's mode, every lamp of the group OFF, pads and buttons enabled, half-recognised changes dropped
with levels kept, stuck timers of pressed pads restarted; the other group, the start line and all else kept. It is
refused with BAD_STATE for a group of the race while ARMED or RUNNING, and with BAD_VALUE for an unknown code. -/
def Obligations.GroupModeTaken : Prop :=
  ∀ (s : State) (a b : Byte), s.Takes ⟨kindGroupMode, [a, b]⟩ →
    (1 < a.toNat ∨ 1 < b.toNat → exec (.groupMode [a, b]) s = .next (s.replied kindGroupMode .badValue []))
    ∧ ∀ (g : Group) (m : GroupMode), groupOfCode a = some g → modeOfCode b = some m →
      ((s.race = .armed ∨ s.race = .running) ∧ (∃ l, groupOf l = g ∧ s.inRace l = true) →
        exec (.groupMode [a, b]) s = .next (s.replied kindGroupMode .badState []))
      ∧ (¬ ((s.race = .armed ∨ s.race = .running) ∧ ∃ l, groupOf l = g ∧ s.inRace l = true) →
        ∃ p, exec (.groupMode [a, b]) s = .next ({ s with ports := p }.replied kindGroupMode .done [])
          ∧ p.mode g = m ∧ (∀ g', g' ≠ g → p.mode g' = s.ports.mode g') ∧ p.startLine = s.ports.startLine
          ∧ p.blink = s.ports.blink
          ∧ (∀ l side, groupOf l ≠ g → p.laneEnd l side = s.ports.laneEnd l side)
          ∧ ∀ l side, groupOf l = g →
              (p.laneEnd l side).lamp = .off ∧ (p.laneEnd l side).padOn = true ∧ (p.laneEnd l side).buttonsOn = true
              ∧ (p.laneEnd l side).stuck = (s.ports.laneEnd l side).stuck
              ∧ (p.laneEnd l side).pad = (if (s.ports.laneEnd l side).pad.isPressed then .pressed else .released)
              ∧ (∀ b : Fin 3, (p.laneEnd l side).buttons[b] =
                  if (s.ports.laneEnd l side).buttons[b].isPressed then .pressed else .released)
              ∧ (p.laneEnd l side).held =
                  if (s.ports.laneEnd l side).pad.isPressed then some 0 else (s.ports.laneEnd l side).held)

/-- LINE_SET writes one thing at one lane end, the lamp pattern, the pad enable or the button enable, and leaves every
other item of that lane end, every other lane end and all else.
LINE_SET is refused with BAD_VALUE, and changes nothing but the link, for a lane above 9, an unknown end or target, or
a value that does not belong to its target. -/
def Obligations.LineSetting : Prop :=
  ((∀ (s : State) (l : Lane) (side : PoolEnd) (v : Lamp), s.Takes ⟨kindLineSet, [laneCode l, side.code, 0, v.code]⟩ →
    ∃ p, exec (.lamp l side v) s = .next ({ s with ports := p }.replied kindLineSet .done [])
      ∧ p = { s.ports with lanes := p.lanes }
      ∧ p.laneEnd l side = { s.ports.laneEnd l side with lamp := v }
      ∧ ∀ m other, ¬ (m = l ∧ other = side) → p.laneEnd m other = s.ports.laneEnd m other)
  ∧ (∀ (s : State) (l : Lane) (side : PoolEnd) (v : Bool),
    s.Takes ⟨kindLineSet, [laneCode l, side.code, 1, boolCode v]⟩ →
    ∃ p, exec (.padEnable l side v) s = .next ({ s with ports := p }.replied kindLineSet .done [])
      ∧ p = { s.ports with lanes := p.lanes }
      ∧ p.laneEnd l side = { s.ports.laneEnd l side with padOn := v }
      ∧ ∀ m other, ¬ (m = l ∧ other = side) → p.laneEnd m other = s.ports.laneEnd m other)
  ∧ ∀ (s : State) (l : Lane) (side : PoolEnd) (v : Bool),
    s.Takes ⟨kindLineSet, [laneCode l, side.code, 2, boolCode v]⟩ →
    ∃ p, exec (.buttonEnable l side v) s = .next ({ s with ports := p }.replied kindLineSet .done [])
      ∧ p = { s.ports with lanes := p.lanes }
      ∧ p.laneEnd l side = { s.ports.laneEnd l side with buttonsOn := v }
      ∧ ∀ m other, ¬ (m = l ∧ other = side) → p.laneEnd m other = s.ports.laneEnd m other)
  ∧ (∀ (s : State) (l e target v : Byte), s.Takes ⟨kindLineSet, [l, e, target, v]⟩ →
    9 < l.toNat ∨ 1 < e.toNat ∨ 2 < target.toNat ∨ (target = 0 ∧ 3 < v.toNat) ∨ (target ≠ 0 ∧ 1 < v.toNat) →
    exec (.lineSet [l, e, target, v]) s = .next (s.replied kindLineSet .badValue []))

/-- One sample of a contact line moves its recognition state by the table of R38. A sample that completes neither a press
nor a release changes nothing else; one that completes a press or a release does what the row of that press or release
does; and such a row, sent for a line that has no press or release to complete, changes nothing (the model's choice,
notes/assumptions/4.md). -/
def Obligations.LinesAreRecognised : Prop :=
  (∀ (s : State) (line : Line) (closed : Bool), s.resetHeld = false →
    ∃ t, exec (.contactLineSample line closed) s = .next t
      ∧ t.ports.line line =
          (match s.ports.line line, closed with
          | .released, true => .pressSeen s.clock.reading
          | .released, false => .released
          | .pressSeen _, true => .pressed
          | .pressSeen _, false => .released
          | .pressed, true => .pressed
          | .pressed, false => .releaseSeen
          | .releaseSeen, true => .pressed
          | .releaseSeen, false => .released)
      ∧ (¬ (∃ stamp, s.ports.line line = .pressSeen stamp ∧ closed = true) →
          ¬ (s.ports.line line = .releaseSeen ∧ closed = false) →
          t = { s with ports := s.ports.setLine line (t.ports.line line) }))
  ∧ ∀ (s : State) (line : Line) (press : Instr),
    (∃ l side, line = .pad l side ∧ press = .padPress l side)
      ∨ (∃ l side b, line = .button l side b ∧ press = .buttonPress l side b)
      ∨ line = .startLine ∧ press = .startLineEdge →
    (∀ stamp, s.ports.line line = .pressSeen stamp → exec (.contactLineSample line true) s = exec press s)
    ∧ (s.ports.line line = .releaseSeen → exec (.contactLineSample line false) s = exec (.lineRelease line) s)
    ∧ ((∀ stamp, s.ports.line line ≠ .pressSeen stamp) → exec press s = .next s)
    ∧ (s.ports.line line ≠ .releaseSeen → exec (.lineRelease line) s = .next s)

/-- The stuck timer of a pad: at the limit in force the flag is set with a FAULT_NOTE, and in a running race the lane
gains PAD_STUCK with its JUDGE_NOTE, and its auto fields follow when that is its primary cause; a recognised release stops
the timer and clears the flag, with a FAULT_NOTE when it was set. Before the limit STUCK_TIMER_EXPIRY is no event (the
model's choice, log entry 3). The release of a button or of the start line changes that line alone. -/
def Obligations.StuckPads : Prop :=
  (∀ (s : State) (l : Lane) (side : PoolEnd) (n : Nat), s.resetHeld = false →
    (s.ports.laneEnd l side).held = some n → s.stuckLimit ≤ n → (s.ports.laneEnd l side).stuck = false →
    ∃ t, exec (.stuckTimerExpiry l side) s = .next t
      ∧ t.ports = s.ports.setLaneEnd l side { s.ports.laneEnd l side with stuck := true }
      ∧ t.link.summary.getLsbD 6 = true
      ∧ t.link = s.link.reported (.fault (.padStuck l side) true
          :: if s.race = .running ∧ s.inRace l = true then judgeNotes l (s.context l).judgements [.padStuck side] else [])
      ∧ (s.race = .running → s.inRace l = true → t.context l =
          { s.context l with judgements := withCauses (s.context l).judgements [.padStuck side] })
      ∧ (¬ (s.race = .running ∧ s.inRace l = true) → t.lanes = s.lanes)
      ∧ (s.race = .running → s.inRace l = true → ∃ j ∈ (t.context l).judgements, j.priority = 8)
      ∧ t.race = s.race ∧ t.clock = s.clock ∧ t.program = s.program ∧ t.log = s.log ∧ t.results = s.results
      ∧ (∀ m, m ≠ l → t.context m = s.context m) ∧ t.takeoffs = s.takeoffs ∧ s.BoardFollows t ∧ s.EventKeeps t)
  ∧ (∀ (s : State) (l : Lane) (side : PoolEnd), s.stuckDue l side = false →
    exec (.stuckTimerExpiry l side) s = .next s)
  ∧ (∀ (s : State) (l : Lane) (side : PoolEnd), s.resetHeld = false →
    (s.ports.laneEnd l side).pad = .releaseSeen →
    exec (.lineRelease (.pad l side)) s = .next
      { s with
        ports := s.ports.setLaneEnd l side
          { s.ports.laneEnd l side with pad := .released, held := none, stuck := false }
        link := if (s.ports.laneEnd l side).stuck then s.link.report (.fault (.padStuck l side) false) else s.link })
  ∧ (∀ (s : State) (l : Lane) (side : PoolEnd) (b : Fin 3), s.resetHeld = false →
    (s.ports.laneEnd l side).buttons[b] = .releaseSeen →
    exec (.lineRelease (.button l side b)) s = .next
      { s with ports := s.ports.setLine (.button l side b) .released })
  ∧ ∀ s : State, s.resetHeld = false → s.ports.startLine = .releaseSeen →
    exec (.lineRelease .startLine) s = .next { s with ports := { s.ports with startLine := .released } }

/-! ### The platform samplers (chapter 04) -/

/-- PLATFORM_ZERO: refused in ARMED and RUNNING; answered at once with no ends and no lane ends when neither sampler is
ENABLED; else the reply is held back. Each zeroing conversion takes a reading below full scale of a channel without a fault
as its offset, so that its corrected value is 0 and its platform EMPTY, and else skips the lane end; it then goes on as any
conversion does, with the fault counting and the test of the platform state. When every channel has been converted the
reply is placed; before that ZEROING_COMPLETE is no event (the model's choice, log entry 3). -/
def Obligations.PlatformZeroing : Prop :=
  (∀ s : State, s.Takes ⟨kindPlatformZero, []⟩ →
    (s.race = .armed ∨ s.race = .running →
      exec (.platformZero []) s = .next (s.replied kindPlatformZero .badState []))
    ∧ (s.race ≠ .armed → s.race ≠ .running →
      ((s.sampler .start).enabled = false ∧ (s.sampler .turn).enabled = false →
        exec (.platformZero []) s = .next (s.replied kindPlatformZero .done [0, 0, 0, 0]))
      ∧ ((s.sampler .start).enabled = true ∨ (s.sampler .turn).enabled = true →
        exec (.platformZero []) s = .next
          { s with
            zeroing := some ⟨⟨if (s.sampler .start).enabled then some allLanes else none,
              if (s.sampler .turn).enabled then some allLanes else none⟩, []⟩
            link := { s.link with inbound := s.link.inbound.tail, slot := .zeroing } })))
  ∧ (∀ (s : State) (side : PoolEnd) (l : Lane) (reading : Fin 1024) (z : Zeroing) (lanes : List Lane),
    s.resetHeld = false → s.SamplersInRange → (s.sampler side).enabled = true →
    (s.sampler side).spent = false → convertedLane side (s.sampler side).rotation = l →
    s.zeroing = some z → z.left.get side = some lanes → l ∈ lanes →
    ∃ t z', exec (.platformConversion side reading) s = .next t ∧ t.zeroing = some z'
      ∧ z'.left.get side = some (lanes.filter fun k => k != l)
      ∧ ((reading.val < 1023 ∧ (s.channel side l).fault = false →
          z'.skipped = z.skipped ∧ (t.channel side l).offset = reading.val ∧ (t.channel side l).corrected = 0
            ∧ (t.channel side l).loaded = false))
      ∧ (¬ (reading.val < 1023 ∧ (s.channel side l).fault = false) →
          z'.skipped = z.skipped ++ [(l, side)] ∧ (t.channel side l).offset = (s.channel side l).offset)
      ∧ (∀ other, other ≠ side → z'.left.get other = z.left.get other) ∧ s.ConvertsOne t side l
      ∧ ∀ offset, offset = (if reading.val < 1023 ∧ (s.channel side l).fault = false then reading.val
            else (s.channel side l).offset) →
          s.ConvertedTo t side l
            { s.channel side l with raw := reading.val, corrected := reading.val - offset, offset })
  ∧ (∀ (s : State) (z : Zeroing), s.resetHeld = false → s.zeroing = some z → z.finished = true →
    exec .zeroingComplete s = .next
      { s with zeroing := none, link := { s.link with slot := .holding ⟨kindPlatformZero, .done, z.reply⟩ } })
  ∧ ∀ s : State, s.zeroing.any Zeroing.finished = false → exec .zeroingComplete s = .next s

/-- PLATFORM_LIMITS stores both thresholds of one sampler, the load threshold clamped to 1 to 1,022 and the release
threshold to 1 to the load threshold stored, answers with them, and changes nothing else, whatever the race state and
the enable; an unknown end is refused. A LOADED channel whose corrected value is below the new release threshold empties
at its next conversion, a takeoff when it is watched. Power-on and the reset line set 300 and 150, CONTROLLER_RESET keeps
them. -/
def Obligations.ThresholdsAreStored : Prop :=
  (∀ (s : State) (payload : Payload), s.Takes ⟨kindPlatformLimits, payload⟩ → payload.length = 5 →
    (1 < num8 payload 0 → exec (.platformLimits payload) s = .next (s.replied kindPlatformLimits .badValue []))
    ∧ ∀ (side : PoolEnd) (load release : Nat), byteAt payload 0 = side.code →
      load = (if num16 payload 1 < 1 then 1 else if 1022 < num16 payload 1 then 1022 else num16 payload 1) →
      release = (if num16 payload 3 < 1 then 1 else if load < num16 payload 3 then load else num16 payload 3) →
      ∃ m, exec (.platformLimits payload) s =
          .next ({ s with samplers := m }.replied kindPlatformLimits .done (be16 load ++ be16 release))
        ∧ m.get side = { s.sampler side with load, release }
        ∧ ∀ other, other ≠ side → m.get other = s.sampler other)
  ∧ (∀ (c : Channel) (load release reading : Nat), c.loaded = true → c.fault = false → reading < 1023 →
    reading - c.offset < release →
    (c.convert load release reading).channel.loaded = false ∧ (c.convert load release reading).takeoff = c.watch)
  ∧ (∀ (s : State) (side : PoolEnd), ∃ t u, exec .powerOn s = .next t ∧ exec .resetLineRelease s = .next u
    ∧ (t.sampler side).load = 300 ∧ (t.sampler side).release = 150
    ∧ (u.sampler side).load = 300 ∧ (u.sampler side).release = 150)
  ∧ ∀ (s : State) (side : PoolEnd), ∃ t, exec .controllerResetTakesEffect s = .next t
    ∧ (t.sampler side).load = (s.sampler side).load ∧ (t.sampler side).release = (s.sampler side).release

/-- A completed conversion of a channel that no zeroing waits for: raw and corrected values; with the fault CLEAR, the
count of full-scale readings, the fault raised at the third in a row, and else the platform state against the thresholds,
with a takeoff when a watched LOADED platform empties; with the fault RAISED, the count of good readings, the fault cleared
and the state set afresh at the tenth in a row. Every other channel and all else is kept. There is one conversion per count
and sampler: after it and in a DISABLED sampler nothing is converted. START converts the channel at its rotation position,
TURN the one before it (the model's choice, log entry 26; which count is the first is entry 29). -/
def Obligations.ConversionsAreCounted : Prop :=
  (∀ (s : State) (side : PoolEnd) (reading : Fin 1024),
    (s.sampler side).enabled = false ∨ (s.sampler side).spent = true →
    exec (.platformConversion side reading) s = .next s)
  ∧ ∀ (s : State) (side : PoolEnd) (l : Lane) (reading : Fin 1024) (c d : Channel), s.resetHeld = false →
    (∀ z lanes, s.zeroing = some z → z.left.get side = some lanes → l ∉ lanes) →
    (s.sampler side).enabled = true → (s.sampler side).spent = false →
    l = (if side = .start then (s.sampler .start).rotation else (s.sampler .turn).rotation - 1) → s.channel side l = c →
    d = { c with raw := reading.val, corrected := reading.val - c.offset } →
    ∃ t, exec (.platformConversion side reading) s = .next t
      ∧ t.zeroing = s.zeroing ∧ s.ConvertsOne t side l ∧ s.ConvertedTo t side l d

/-- SAMPLER_SET: an enable changes no channel, and a DISABLED sampler that is enabled converts from the next count on;
disabling an ENABLED sampler zeroes its channels but for offset and watch, with a FAULT_NOTE for each fault cleared (in
lane order, the model's choice, log entry 28), and no other report; the other sampler, the thresholds and all else are
kept; the reply carries both enables; an unknown end or value is refused. -/
def Obligations.SamplersAreEnabled : Prop :=
  (∀ (s : State) (a b : Byte), s.Takes ⟨kindSamplerSet, [a, b]⟩ → 1 < a.toNat ∨ 1 < b.toNat →
    exec (.samplerSet [a, b]) s = .next (s.replied kindSamplerSet .badValue []))
  ∧ ∀ (s : State) (side : PoolEnd) (on : Bool), s.Takes ⟨kindSamplerSet, [side.code, boolCode on]⟩ →
    ∃ t, exec (.samplerSet [side.code, boolCode on]) s = .next t
      ∧ t = { s with samplers := t.samplers, link := t.link }
      ∧ (∀ other, other ≠ side → t.sampler other = s.sampler other)
      ∧ t.sampler side =
          { s.sampler side with
            enabled := on, channels := (t.sampler side).channels
            spent := (s.sampler side).spent || (on && !(s.sampler side).enabled) }
      ∧ (on = true ∨ (s.sampler side).enabled = false → (t.sampler side).channels = (s.sampler side).channels)
      ∧ (on = false → (s.sampler side).enabled = true →
          (∀ l, t.channel side l =
            { Channel.reset with offset := (s.channel side l).offset, watch := (s.channel side l).watch })
          ∧ ((∃ l, (s.channel side l).fault = true) → t.link.summary.getLsbD 6 = true))
      ∧ t.link = (s.link.answered kindSamplerSet .done
          [boolCode (t.sampler .start).enabled, boolCode (t.sampler .turn).enabled]).reported
            (if on = false ∧ (s.sampler side).enabled = true then
              (allLanes.filter fun l => (s.channel side l).fault).map fun l => .fault (.platform l side) false
            else [])
      ∧ t.link.slot = .holding ⟨kindSamplerSet, .done,
          [boolCode (t.sampler .start).enabled, boolCode (t.sampler .turn).enabled]⟩
      ∧ t.link.inbound = s.link.inbound.tail

/-! ### The queries -/

/-- The queries of lines, platforms, lanes, walls and results answer from the state as it stands, with the fields of R48,
R67, R88, R89 and R146 in their order, refuse an unknown code or a value out of range with BAD_VALUE, and change nothing
but the link. How absent items, lists and records are laid out is the model's choice where 11.7 leaves it open (log
entry 10). -/
def Obligations.QueriesChangeNothing : Prop :=
  (∀ (s : State) (b : Byte), s.Takes ⟨kindLinesAsk, [b]⟩ →
    (∀ (g : Group) (lanes : List Lane), (b = 0 ∧ g = .low ∧ lanes = [0, 1, 2, 3, 4]) ∨
        (b = 1 ∧ g = .high ∧ lanes = [5, 6, 7, 8, 9]) →
      exec (.linesAsk [b]) s = .next (s.replied kindLinesAsk .done
        ([if s.ports.mode g = .level then 0 else 1, boolCode s.ports.startLine.isPressed]
          ++ (lanes.map fun l => ([PoolEnd.start, .turn].map fun side =>
            [boolCode (s.ports.laneEnd l side).pad.isPressed, boolCode (s.ports.laneEnd l side).buttons[0].isPressed,
              boolCode (s.ports.laneEnd l side).buttons[1].isPressed,
              boolCode (s.ports.laneEnd l side).buttons[2].isPressed, (s.ports.laneEnd l side).lamp.code,
              boolCode (s.ports.laneEnd l side).padOn, boolCode (s.ports.laneEnd l side).buttonsOn,
              boolCode (s.ports.laneEnd l side).stuck]).flatten).flatten)))
    ∧ (1 < b.toNat → exec (.linesAsk [b]) s = .next (s.replied kindLinesAsk .badValue [])))
  ∧ (∀ (s : State) (side : PoolEnd) (l : Lane) (c : Channel) (m : Sampler), c = s.channel side l → m = s.sampler side →
    s.Takes ⟨kindPlatformAsk, [side.code, laneCode l]⟩ →
    exec (.platformAsk [side.code, laneCode l]) s = .next (s.replied kindPlatformAsk .done
      (be16 c.raw ++ be16 c.corrected ++ be16 c.offset
        ++ [boolCode c.loaded, (c.watch.map (BitVec.ofNat 8)).getD 0xFF, boolCode c.fault, boolCode m.enabled]
        ++ be16 m.load ++ be16 m.release)))
  ∧ (∀ (s : State) (a b : Byte), s.Takes ⟨kindPlatformAsk, [a, b]⟩ → 1 < a.toNat ∨ 9 < b.toNat →
    exec (.platformAsk [a, b]) s = .next (s.replied kindPlatformAsk .badValue []))
  ∧ (∀ (s : State) (l : Lane) (c : LaneContext), c = s.context l → s.Takes ⟨kindLaneAsk, [laneCode l]⟩ →
    exec (.laneAsk [laneCode l]) s = .next (s.replied kindLaneAsk .done
      ([laneCode l, boolCode (s.inRace l), c.status.code]
        ++ (match c.expected with
          | some e => [1, BitVec.ofNat 8 e.index, e.side.code] ++ be32 e.armTime ++ [boolCode e.armed]
          | none => List.replicate 8 0)
        ++ (match c.collecting with
          | some w => [1, BitVec.ofNat 8 w.index, w.side.code] ++ optTime w.pad ++ be32 w.closeTime
              ++ counted (w.presses.map fun q => BitVec.ofNat 8 (q.button.val + 1) :: be32 q.stamp)
          | none => List.replicate 13 0)
        ++ be8 c.resolved.length ++ optTime (c.resolved.getLast?.map WallRecord.official)
        ++ (match c.takeoff with
          | some t => [1, BitVec.ofNat 8 t.leg, t.stamp.phaseCode] ++ be32 t.stamp.value
          | none => List.replicate 7 0)
        ++ optSigned c.reaction ++ [sourceCode c.source]
        ++ counted (c.legs.map fun r => r.verdict.code :: optSigned r.margin)
        ++ counted (c.judgements.map fun j => BitVec.ofNat 8 j.priority :: detailBytes (some j))
        ++ (match c.judgements with
          | j :: _ => BitVec.ofNat 8 j.priority :: detailBytes (some j)
          | [] => 0xFF :: detailBytes none)
        ++ (match c.final with
          | some f => 1 :: be32 f.time ++ [boolCode f.confirmed] ++ be32 (f.time / 100)
          | none => List.replicate 10 0)
        ++ [(s.results.places[l].map (BitVec.ofNat 8)).getD 0xFF])))
  ∧ (∀ (s : State) (b : Byte), s.Takes ⟨kindLaneAsk, [b]⟩ → 9 < b.toNat →
    exec (.laneAsk [b]) s = .next (s.replied kindLaneAsk .badValue []))
  ∧ (∀ (s : State) (l : Lane) (first count : Byte), s.Takes ⟨kindWallsAsk, [laneCode l, first, count]⟩ →
    1 ≤ first.toNat → first.toNat ≤ 64 → 1 ≤ count.toNat → count.toNat ≤ 8 →
    exec (.wallsAsk [laneCode l, first, count]) s = .next (s.replied kindWallsAsk .done
      (be8 (s.context l).resolved.length
        ++ ((((s.context l).resolved.drop (first.toNat - 1)).take count.toNat).map WallRecord.bytes).flatten)))
  ∧ (∀ (s : State) (b first count : Byte), s.Takes ⟨kindWallsAsk, [b, first, count]⟩ →
    9 < b.toNat ∨ first = 0 ∨ 64 < first.toNat ∨ count = 0 ∨ 8 < count.toNat →
    exec (.wallsAsk [b, first, count]) s = .next (s.replied kindWallsAsk .badValue []))
  ∧ (∀ (s : State) (cause : Lane → Byte), (∀ l, cause l = match (s.context l).judgements with
      | j :: _ => BitVec.ofNat 8 j.priority
      | [] => 0xFF) → s.Takes ⟨kindResultsAsk, [0xFF]⟩ →
    exec (.resultsAsk [0xFF]) s = .next (s.replied kindResultsAsk .done
      ([s.race.code]
        ++ (match s.program with
          | some p => 1 :: be16 p.eventId
          | none => [0, 0, 0])
        ++ counted (s.results.order.map fun l =>
          [laneCode l, (s.results.places[l].map (BitVec.ofNat 8)).getD 0xFF]
            ++ be32 (((s.context l).final.map fun f => f.time / 100).getD 0)
            ++ [boolCode ((s.context l).final.any Final.confirmed), cause l, boolCode s.results.amend[l].amended])
        ++ counted ((allLanes.filter fun l => s.inRace l && !s.results.order.contains l).map fun l =>
          [laneCode l, (s.context l).status.code] ++ optTime ((s.context l).final.map fun f => f.time / 100)
            ++ [(s.results.amend[l].code.map (BitVec.ofNat 8)).getD 0xFF, cause l,
              boolCode s.results.amend[l].amended]))))
  ∧ (∀ (s : State) (l : Lane) (c : LaneContext) (split : Nat → Option Nat) (between : Nat → Nat → Option Nat),
    c = s.context l → (∀ w, split w = if w = 0 then some 0 else
      (c.resolved.find? fun r => decide (r.index = w)).map fun r => r.official / 100) →
    (∀ v w, between v w = (split v).bind fun a => (split w).map fun b => b - a) →
    s.Takes ⟨kindResultsAsk, [laneCode l]⟩ →
    exec (.resultsAsk [laneCode l]) s = .next (s.replied kindResultsAsk .done
      ([c.status.code, boolCode (s.inRace l)] ++ optTime (c.final.map fun f => f.time / 100)
        ++ [(c.final.map fun f => boolCode f.confirmed).getD 0xFF,
          (s.results.places[l].map (BitVec.ofNat 8)).getD 0xFF]
        ++ be8 c.resolved.length
        ++ ((List.range c.resolved.length).map fun i => be32 ((between i (i + 1)).getD 0)).flatten
        ++ (match s.program with
          | some p => counted ((List.range p.legs).map fun i =>
              optTime (between (i * (p.lengths / p.legs)) ((i + 1) * (p.lengths / p.legs))))
          | none => [0]))))
  ∧ ∀ (s : State) (b : Byte), s.Takes ⟨kindResultsAsk, [b]⟩ → 9 < b.toNat → b ≠ 0xFF →
    exec (.resultsAsk [b]) s = .next (s.replied kindResultsAsk .badValue [])

/-! ### Touches, presses and takeoffs (chapters 05 to 07) -/

/-- A pad press in a TIMED group with the pad enabled, later than the arm time of a swimming lane's ARMED expected wall at
that end, for a wall that is not the final wall: the log entry, wall n + 1 expected at the stamp plus arm_delay, and the
wall resolved at once, or collecting until the stamp plus backup_window when it is a station wall. A resolution judges the
pending takeoff of the exchange at this wall and settles as UNJUDGED the leg it opens (in this order by log entry 11). The
reports: LOG_NOTE, TOUCH_NOTE, WALL_NOTE, JUDGE_NOTEs. The other lanes, the race, the clock and the results are kept. The
lane's auto fields, the marked rows and the freeze (log entry 31) follow, here and below.
A pad press at the end of a collecting wall without a pad time, before its close time, becomes its pad time; its close
time and presses are kept; the next wall is expected, or at the final wall the lane is FINISHED with a provisional final
time, a FINISH_NOTE and a RANK_NOTE, and ranking and place lamps follow. -/
def Obligations.TouchIsTaken : Prop :=
  (∀ (s : State) (p : Program) (l : Lane) (side : PoolEnd) (e : ExpectedWall) (v : Nat),
    s.resetHeld = false → (s.ports.laneEnd l side).pad = .pressSeen (.race v) → s.ports.laneMode l = .timed →
    (s.ports.laneEnd l side).padOn = true → s.race = .running → s.program = some p → p.inRace l = true →
    (s.context l).status = .swimming → (s.context l).collecting = none → (s.context l).expected = some e →
    e.side = side → e.armed = true → e.armTime < v → e.index ≠ p.lengths →
    ∃ t, exec (.padPress l side) s = .next t
      ∧ t.log = s.log.add (.race v) (.pad l side) (some e.index) .accepted
      ∧ (t.context l).status = .swimming ∧ (t.context l).final = (s.context l).final
      ∧ (∃ e', (t.context l).expected = some e' ∧ e'.index = e.index + 1 ∧ e'.side = wallEnd (e.index + 1)
          ∧ e'.armTime = v + p.armDelay ∧ e'.armed = decide (v + p.armDelay ≤ s.clock.value))
      ∧ (p.station = some (wallEnd e.index) →
          (t.context l).collecting = some ⟨e.index, side, some v, [], v + p.window⟩
          ∧ (t.context l).resolved = (s.context l).resolved)
      ∧ (p.station ≠ some (wallEnd e.index) →
          (t.context l).collecting = none
          ∧ (t.context l).resolved =
              (s.context l).resolved ++ [⟨e.index, side, v, .pad, some v, none, 0, false⟩])
      ∧ (∀ x notes, (p.station = some (wallEnd e.index) ∧ x = (s.context l).unsettled
            ∧ notes = [.touch l side e.index v .collecting false]
          ∨ p.station ≠ some (wallEnd e.index) ∧ x = (s.context l).settledAt p e.index v
            ∧ notes = [.touch l side e.index v .resolved false,
              .wall l .touch ⟨e.index, side, v, .pad, some v, none, 0, false⟩]) →
          (s.context l).SettledFrom x [] (t.context l)
          ∧ s.WatchesAre t l (x.watches (p.watchesArmed s.clock.value
              ⟨e.index + 1, wallEnd (e.index + 1), v + p.armDelay, false, false⟩ (s.watches l)))
          ∧ t.link = s.link.reported (s.log.notes ++ notes ++ judgeNotes l (s.context l).judgements x.causes))
      ∧ (∀ m, m ≠ l → t.context m = s.context m)
      ∧ t.race = s.race ∧ t.clock = s.clock ∧ t.program = s.program ∧ t.results = s.results
      ∧ t.ports = s.ports.setLaneEnd l side { s.ports.laneEnd l side with pad := .pressed, held := some 1 }
      ∧ t.takeoffs = s.takeoffs ∧ s.BoardFollows t ∧ s.EventKeeps t)
  ∧ ∀ (s : State) (p : Program) (l : Lane) (side : PoolEnd) (w : CollectingWall) (v : Nat),
    s.resetHeld = false → (s.ports.laneEnd l side).pad = .pressSeen (.race v) → s.ports.laneMode l = .timed →
    (s.ports.laneEnd l side).padOn = true → s.race = .running → s.program = some p → p.inRace l = true →
    (s.context l).status = .swimming → (s.context l).collecting = some w → w.side = side → w.pad = none →
    v < w.closeTime →
    ∃ t, exec (.padPress l side) s = .next t
      ∧ t.log = s.log.add (.race v) (.pad l side) (some w.index) .accepted
      ∧ (t.context l).collecting = some { w with pad := some v }
      ∧ (t.context l).resolved = (s.context l).resolved ∧ (t.context l).judgements = (s.context l).judgements
      ∧ (w.index ≠ p.lengths →
          (t.context l).status = .swimming ∧ (t.context l).final = (s.context l).final ∧ t.results = s.results
          ∧ t.ports = s.ports.setLaneEnd l side { s.ports.laneEnd l side with pad := .pressed, held := some 1 }
          ∧ (t.context l).expected = some ⟨w.index + 1, wallEnd (w.index + 1), v + p.armDelay,
              decide (v + p.armDelay ≤ s.clock.value), decide (v + p.armDelay ≤ s.clock.value)⟩)
      ∧ (w.index = p.lengths →
          (t.context l).status = .finished ∧ (t.context l).final = some ⟨v, false⟩
          ∧ (t.context l).expected = (s.context l).expected ∧ l ∈ t.results.order)
      ∧ s.RankingFollows t p l ∧ t.results.amend = s.results.amend
      ∧ (s.context l).SettledFrom (s.context l).unsettled [] (t.context l)
      ∧ s.WatchesAre t l (if w.index = p.lengths then s.watches l else p.watchesArmed s.clock.value
          ⟨w.index + 1, wallEnd (w.index + 1), v + p.armDelay, false, false⟩ (s.watches l))
      ∧ t.link = s.link.reported (s.log.notes
          ++ [.touch l side w.index v .padTime (decide (w.index = p.lengths))]
          ++ (if w.index = p.lengths then
              [.finish l .finished v false ((s.context l).final.map Final.time), t.rankNote]
            else []))
      ∧ (∀ m, m ≠ l → t.context m = s.context m)
      ∧ t.race = s.race ∧ t.clock = s.clock ∧ t.program = s.program ∧ t.takeoffs = s.takeoffs ∧ s.BoardFollows t
      ∧ s.EventKeeps t

/-- A touch of the final wall makes the lane FINISHED with the stamp as its final time, confirmed at once unless the wall
is a station wall; the lane is ranked, and ranking and place lamps follow; and the race completes exactly when every lane
of the race is then terminal and no wall is collecting. A resolution judges the exchange of this wall and settles the leg
it opens (11). Auto fields of the lanes that change, display map and marked rows follow, and the freeze: the first final of
the race starts it, a later one leaves it (log entry 31 for an interval that was 0). The reports: LOG_NOTE, TOUCH_NOTE,
WALL_NOTE, FINISH_NOTE, JUDGE_NOTEs, RANK_NOTE, RACE_NOTE, each as it applies. -/
def Obligations.FinalTouchFinishes : Prop :=
  ∀ (s : State) (p : Program) (l : Lane) (side : PoolEnd) (e : ExpectedWall) (v : Nat),
    s.resetHeld = false → (s.ports.laneEnd l side).pad = .pressSeen (.race v) → s.ports.laneMode l = .timed →
    (s.ports.laneEnd l side).padOn = true → s.race = .running → s.program = some p → p.inRace l = true →
    (s.context l).status = .swimming → (s.context l).collecting = none → (s.context l).expected = some e →
    e.side = side → e.armed = true → e.armTime < v → e.index = p.lengths →
    ∃ t, exec (.padPress l side) s = .next t
      ∧ t.log = s.log.add (.race v) (.pad l side) (some e.index) .accepted
      ∧ (t.context l).status = .finished ∧ (t.context l).expected = none
      ∧ (t.context l).final = some ⟨v, decide (p.station ≠ some (wallEnd e.index))⟩
      ∧ (p.station = some (wallEnd e.index) →
          (t.context l).collecting = some ⟨e.index, side, some v, [], v + p.window⟩ ∧ t.race = .running)
      ∧ (p.station ≠ some (wallEnd e.index) →
          (t.context l).resolved = (s.context l).resolved ++ [⟨e.index, side, v, .pad, some v, none, 0, false⟩]
          ∧ (t.race = .complete ↔
              ∀ m, m ≠ l → (p.inRace m = true → (s.context m).IsTerminal) ∧ (s.context m).collecting = none))
      ∧ s.CompletionFollows t p
      ∧ (∀ x walls use, (p.station = some (wallEnd e.index) ∧ x = (s.context l).unsettled ∧ use = .collecting ∧ walls = []
          ∨ p.station ≠ some (wallEnd e.index) ∧ x = (s.context l).settledAt p e.index v ∧ use = .resolved
            ∧ walls = [.wall l .touch ⟨e.index, side, v, .pad, some v, none, 0, false⟩]) →
          (s.context l).SettledFrom x [] (t.context l) ∧ s.WatchesAre t l (x.watches (s.watches l))
          ∧ t.link = s.link.reported (s.log.notes ++ [.touch l side e.index v use true] ++ walls
              ++ [.finish l .finished v (decide (p.station ≠ some (wallEnd e.index)))
                ((s.context l).final.map Final.time)]
              ++ judgeNotes l (s.context l).judgements x.causes ++ s.closingNotes t l))
      ∧ l ∈ t.results.order ∧ t.RanksFit ∧ s.RankingFollows t p l ∧ t.results.amend = s.results.amend
      ∧ (∀ m other, t.ports.laneEnd m other =
          { (s.ports.setLaneEnd l side
              { s.ports.laneEnd l side with pad := .pressed, held := some 1 }).laneEnd m other with
            lamp := (t.ports.laneEnd m other).lamp })
      ∧ (∀ m, m ≠ l → t.context m = s.context m) ∧ t.program = s.program ∧ t.clock.value = s.clock.value
      ∧ t.takeoffs = s.takeoffs ∧ s.BoardFollows t ∧ s.EventKeeps t

/-- An ignored pad press leaves its log entry and its line's state, nothing else; the first test of R77 that applies gives
the reason and the wall, a press at or after the close time of a collecting wall without a pad time being tested against
the expected wall. In a LEVEL group, or with the pad disabled, there is no entry. -/
def Obligations.PadPressIgnored : Prop :=
  (∀ (s : State) (l : Lane) (side : PoolEnd) (stamp : Stamp), s.resetHeld = false →
    (s.ports.laneEnd l side).pad = .pressSeen stamp →
    (s.ports.laneMode l = .level ∨ (s.ports.laneEnd l side).padOn = false →
      exec (.padPress l side) s = .next
        { s with
          ports := s.ports.setLaneEnd l side { s.ports.laneEnd l side with pad := .pressed, held := some 1 } })
    ∧ ∀ reason wall, s.ports.laneMode l = .timed → (s.ports.laneEnd l side).padOn = true →
      s.padUse l side stamp = .ignored reason wall →
      exec (.padPress l side) s = .next
          { s with
            ports := s.ports.setLaneEnd l side { s.ports.laneEnd l side with pad := .pressed, held := some 1 }
            log := s.log.add stamp (.pad l side) wall (.ignored reason)
            link := s.link.reported s.log.notes })
  ∧ ∀ (s : State) (l : Lane) (side : PoolEnd) (stamp : Stamp) (v : Nat) (c : LaneContext), c = s.context l →
    (s.race ≠ .running ∨ (∀ w, stamp ≠ .race w) → s.padUse l side stamp = .ignored .notRunning none)
    ∧ (s.race = .running → s.inRace l = false → s.padUse l side (.race v) = .ignored .notInRace none)
    ∧ (s.race = .running → s.inRace l = true →
      (c.takesTouches = false → s.padUse l side (.race v) = .ignored .laneDone none)
      ∧ (c.takesTouches = true →
        (∀ w, c.collecting = some w → w.side = side → w.pad.isSome = true →
          s.padUse l side (.race v) = .ignored .repeatTouch (some w.index))
        ∧ ((∀ w, c.collecting = some w → w.side ≠ side ∨ w.pad = none ∧ w.closeTime ≤ v) →
          ((∀ e, c.expected = some e → e.side ≠ side) → s.padUse l side (.race v) = .ignored .wrongEnd none)
          ∧ ∀ e, c.expected = some e → e.side = side → e.armed = false ∨ v ≤ e.armTime →
            s.padUse l side (.race v) = .ignored .notArmed (some e.index))))

/-- A button press at the station end of a lane of a running race: it joins the collecting wall's presses unless its
button is there already; without a collecting wall it opens the ARMED expected wall at that end; the log entry is made,
and everything else of the lane, the other lanes and the race is kept.
An ignored button press leaves its log entry and its line's state, nothing else; the first test of R93 that applies gives
the reason. In a LEVEL group, or with the buttons disabled, there is no entry. -/
def Obligations.ButtonPressIsTaken : Prop :=
  (∀ (s : State) (p : Program) (l : Lane) (side : PoolEnd) (b : Fin 3) (v : Nat), s.resetHeld = false →
    (s.ports.laneEnd l side).buttons[b] = .pressSeen (.race v) → s.ports.laneMode l = .timed →
    (s.ports.laneEnd l side).buttonsOn = true → s.race = .running → s.program = some p → p.inRace l = true →
    p.station = some side →
    (∀ w, (s.context l).collecting = some w → (∀ q ∈ w.presses, q.button ≠ b) →
      exec (.buttonPress l side b) s = .next
        { s with
          ports := s.ports.setLine (.button l side b) .pressed
          log := s.log.add (.race v) (.button l side b) (some w.index) .accepted
          lanes := s.lanes.set l
            { s.context l with collecting := some { w with presses := w.presses ++ [⟨b, v⟩] } }
          link := s.link.reported s.log.notes })
    ∧ (∀ w, (s.context l).collecting = some w → (∃ q ∈ w.presses, q.button = b) →
      exec (.buttonPress l side b) s = .next
        { s with
          ports := s.ports.setLine (.button l side b) .pressed
          log := s.log.add (.race v) (.button l side b) (some w.index) (.ignored .repeatButton)
          link := s.link.reported s.log.notes })
    ∧ (∀ e, (s.context l).collecting = none → (s.context l).expected = some e → e.side = side → e.armed = true →
      e.armTime < v →
      exec (.buttonPress l side b) s = .next
        { s with
          ports := s.ports.setLine (.button l side b) .pressed
          log := s.log.add (.race v) (.button l side b) (some e.index) .accepted
          lanes := s.lanes.set l
            { s.context l with
              expected := none, collecting := some ⟨e.index, side, none, [⟨b, v⟩], v + p.window⟩ }
          link := s.link.reported s.log.notes }))
  ∧ (∀ (s : State) (l : Lane) (side : PoolEnd) (b : Fin 3) (stamp : Stamp), s.resetHeld = false →
    (s.ports.laneEnd l side).buttons[b] = .pressSeen stamp →
    (s.ports.laneMode l = .level ∨ (s.ports.laneEnd l side).buttonsOn = false →
      exec (.buttonPress l side b) s = .next { s with ports := s.ports.setLine (.button l side b) .pressed })
    ∧ ∀ reason wall, s.ports.laneMode l = .timed → (s.ports.laneEnd l side).buttonsOn = true →
      s.buttonUse l side b stamp = .ignored reason wall →
      exec (.buttonPress l side b) s = .next
          { s with
            ports := s.ports.setLine (.button l side b) .pressed
            log := s.log.add stamp (.button l side b) wall (.ignored reason)
            link := s.link.reported s.log.notes })
  ∧ ∀ (s : State) (l : Lane) (side : PoolEnd) (b : Fin 3) (stamp : Stamp) (v : Nat) (p : Program),
    (s.race ≠ .running ∨ (∀ w, stamp ≠ .race w) → s.buttonUse l side b stamp = .ignored .notRunning none)
    ∧ (s.race = .running → s.program = some p →
      (p.inRace l = false → s.buttonUse l side b (.race v) = .ignored .notInRace none)
      ∧ (p.inRace l = true →
        (p.station ≠ some side → s.buttonUse l side b (.race v) = .ignored .notStation none)
        ∧ (p.station = some side → (s.context l).collecting = none →
          (∀ e, (s.context l).expected = some e → e.side ≠ side ∨ e.armed = false ∨ v ≤ e.armTime) →
          s.buttonUse l side b (.race v) = .ignored .noOpenWall none)))

/-- A leg-1 takeoff that reaches a lane of a running race without a reaction and without wall 1 resolved gives the
reaction: the stamp of the running clock, or the prestart stamp less the start mark, clamped to ±99,999. Below 0 the lane
gains EARLY_START, from 0 to below reaction_floor SUSPECT_START, each with the reaction and only if it does not hold the
cause already. Nothing else of the lane changes, nor any other lane, the race or the results; the auto fields follow when the
primary cause changes.
A takeoff of a later leg whose verdict is open: with the exchange wall resolved the exchange is judged by its margin,
EARLY below minus the tolerance with the judgement EARLY_TAKEOFF, else LEGAL; with the wall unresolved the takeoff is
kept pending. Other legs and other lanes are kept.
A leg-1 takeoff of an ARMED race is kept as the prestart takeoff. An ignored takeoff leaves its log entry and nothing
else; the first test of R116 that applies gives the reason and the wall. -/
def Obligations.TakeoffsAreJudged : Prop :=
  (∀ (s : State) (p : Program) (side : PoolEnd) (l : Lane) (t₀ : Takeoff) (mark : Nat) (r : Int), s.resetHeld = false →
    s.takeoffs.find? (fun t => decide (t.side = side ∧ t.lane = l)) = some t₀ → t₀.leg = 1 →
    s.race = .running → s.program = some p → p.inRace l = true → s.startMark = some mark →
    (s.context l).status ≠ .disqualified → (s.context l).status ≠ .didNotStart → (s.context l).reaction = none →
    (∀ w ∈ (s.context l).resolved, w.index ≠ 1) →
    ((∃ v, t₀.stamp = .race v ∧ r = min 99999 (v : Int))
      ∨ ∃ v, t₀.stamp = .pre v ∧ r = max (-99999) (min 99999 ((v : Int) - mark))) →
    ∃ t c, exec (.takeoff side l) s = .next t
      ∧ t.context l = { s.context l with reaction := some r, judgements := c }
      ∧ (∀ j, j ∈ c ↔ j ∈ (s.context l).judgements
          ∨ r < 0 ∧ j = .earlyStart r ∧ (∀ k ∈ (s.context l).judgements, k.priority ≠ 1)
          ∨ 0 ≤ r ∧ r < p.floor ∧ j = .suspectStart r ∧ (∀ k ∈ (s.context l).judgements, k.priority ≠ 3))
      ∧ c = withCauses (s.context l).judgements (p.startCauses r)
      ∧ t.link = s.link.reported (s.log.notes ++ judgeNotes l (s.context l).judgements (p.startCauses r))
      ∧ t.log = s.log.add t₀.stamp (.platform l side) none .accepted
      ∧ t.takeoffs = s.takeoffs.erase t₀
      ∧ (∀ m, m ≠ l → t.context m = s.context m) ∧ t.race = s.race ∧ t.clock = s.clock ∧ t.program = s.program
      ∧ t.results = s.results ∧ t.ports = s.ports ∧ s.BoardFollows t ∧ s.EventKeeps t)
  ∧ (∀ (s : State) (p : Program) (side : PoolEnd) (l : Lane) (t₀ : Takeoff) (m₀ : Option Int) (v : Nat),
    s.resetHeld = false → s.takeoffs.find? (fun t => decide (t.side = side ∧ t.lane = l)) = some t₀ → 2 ≤ t₀.leg →
    t₀.stamp = .race v → s.race = .running → s.program = some p → p.inRace l = true →
    (s.context l).status ≠ .disqualified → (s.context l).status ≠ .didNotStart → (s.context l).takeoff = none →
    (s.context l).leg t₀.leg = some ⟨.pending, m₀⟩ →
    (∀ w margin, (s.context l).wallRecord (p.exchangeWall t₀.leg) = some w →
      margin = max (-99999) (min 99999 ((v : Int) - w.official)) →
      ∃ t c, exec (.takeoff side l) s = .next t
        ∧ t.context l =
            { s.context l with
              judgements := c
              legs := (s.context l).legs.set (t₀.leg - 2)
                ⟨if margin < -(p.tolerance : Int) then .early else .legal, some margin⟩ }
        ∧ (∀ j, j ∈ c ↔ j ∈ (s.context l).judgements
            ∨ margin < -(p.tolerance : Int) ∧ j = .earlyTakeoff t₀.leg margin
              ∧ ∀ k ∈ (s.context l).judgements, k.priority ≠ 2)
        ∧ t.link = s.link.reported (s.log.notes ++ judgeNotes l (s.context l).judgements
            (if margin < -(p.tolerance : Int) then [.earlyTakeoff t₀.leg margin] else []))
        ∧ t.log = s.log.add (.race v) (.platform l side) (some (p.exchangeWall t₀.leg)) .accepted
        ∧ (∀ m, m ≠ l → t.context m = s.context m) ∧ t.race = s.race ∧ t.clock = s.clock ∧ t.program = s.program
        ∧ t.results = s.results ∧ t.ports = s.ports ∧ s.BoardFollows t ∧ s.EventKeeps t)
    ∧ ((s.context l).wallRecord (p.exchangeWall t₀.leg) = none →
      ∃ t, exec (.takeoff side l) s = .next t
        ∧ t.context l = { s.context l with takeoff := some ⟨t₀.leg, .race v⟩ }
        ∧ t.link = s.link.reported s.log.notes
        ∧ t.log = s.log.add (.race v) (.platform l side) (some (p.exchangeWall t₀.leg)) .accepted
        ∧ (∀ m, m ≠ l → t.context m = s.context m) ∧ t.race = s.race ∧ t.clock = s.clock ∧ t.program = s.program
        ∧ t.results = s.results ∧ t.ports = s.ports ∧ s.BoardFollows t ∧ s.EventKeeps t))
  ∧ (∀ (s : State) (side : PoolEnd) (l : Lane) (t₀ : Takeoff), s.resetHeld = false →
    s.takeoffs.find? (fun t => decide (t.side = side ∧ t.lane = l)) = some t₀ →
    (∀ p v, t₀.leg = 1 → t₀.stamp = .pre v → s.race = .armed → s.program = some p → p.inRace l = true →
      (s.context l).status ≠ .disqualified → (s.context l).status ≠ .didNotStart → (s.context l).reaction = none →
      (∀ w ∈ (s.context l).resolved, w.index ≠ 1) →
      exec (.takeoff side l) s = .next
          { s with
            takeoffs := s.takeoffs.erase t₀
            log := s.log.add (.pre v) (.platform l side) none .accepted
            lanes := s.lanes.set l { s.context l with takeoff := some ⟨1, .pre v⟩ }
            link := s.link.reported s.log.notes })
    ∧ ∀ reason wall, s.takeoffUse t₀ = .ignored reason wall →
      exec (.takeoff side l) s = .next
          { s with
            takeoffs := s.takeoffs.erase t₀
            log := s.log.add t₀.stamp (.platform l side) wall (.ignored reason)
            link := s.link.reported s.log.notes })
  ∧ ∀ (s : State) (t₀ : Takeoff) (p : Program) (c : LaneContext), c = s.context t₀.lane →
    (s.race ≠ .armed ∧ s.race ≠ .running ∨ t₀.stamp = .none → s.takeoffUse t₀ = .ignored .notRunning none)
    ∧ (s.race = .armed ∨ s.race = .running → t₀.stamp ≠ .none → s.program = some p →
      (p.inRace t₀.lane = false → s.takeoffUse t₀ = .ignored .notInRace none)
      ∧ (p.inRace t₀.lane = true →
        (c.status = .disqualified ∨ c.status = .didNotStart → s.takeoffUse t₀ = .ignored .laneDone none)
        ∧ (c.status ≠ .disqualified → c.status ≠ .didNotStart →
          (t₀.leg = 1 → c.reaction ≠ none ∨ (∃ w ∈ c.resolved, w.index = 1) →
            s.takeoffUse t₀ = .ignored .laneDone none)
          ∧ (2 ≤ t₀.leg →
            ((∀ m, c.leg t₀.leg ≠ some ⟨.pending, m⟩) →
              s.takeoffUse t₀ = .ignored .laneDone (some (p.exchangeWall t₀.leg)))
            ∧ ((∃ m, c.leg t₀.leg = some ⟨.pending, m⟩) → (∃ other, c.takeoff = some other ∧ other.leg ≠ t₀.leg) →
              s.takeoffUse t₀ = .ignored .notArmed (some (p.exchangeWall t₀.leg)))))))

/-- The timers of a lane of a running race. At its arm time a WAITING wall becomes ARMED, and at its first arming an
exchange wall sets the watch of its leg. At its close time a collecting wall is resolved by R99 and leaves; the final
wall sets and confirms the final time, any other wall gives the next wall's arm time. The resolution adds the judgements of
R101, judges the exchange of its wall and settles as UNJUDGED the leg it opens (in this order by log entry 11), with
WALL_NOTE, FINISH_NOTE, JUDGE_NOTEs, RANK_NOTE and RACE_NOTE as each applies. The race completes exactly when every lane of
the race is then terminal and no wall is collecting. Ranking, place lamps, auto fields, display map, marked rows and the
freeze (log entry 31) follow. Before their time neither is an event (the model's choice, log entry 3).
The freeze ends at its end moment, and the clock row is marked dirty, also while it is OFF (13); before it FREEZE_END is no
event (3). The clock that has stopped rising in PRESTART changes nothing. -/
def Obligations.TimersExpire : Prop :=
  ((∀ (s : State) (p : Program) (l : Lane) (e : ExpectedWall), s.resetHeld = false → s.race = .running →
    s.program = some p → (s.context l).expected = some e → e.armed = false → e.armTime ≤ s.clock.value →
    ∃ t, exec (.armTimerExpiry l) s = .next t
      ∧ t.context l = { s.context l with expected := some { e with armed := true, everArmed := true } }
      ∧ (∀ m, m ≠ l → t.context m = s.context m)
      ∧ (∀ k, p.exchangeLeg e.index = some k → e.everArmed = false → (t.channel e.side l).watch = some k)
      ∧ (p.exchangeLeg e.index = none ∨ e.everArmed = true → ∀ side m, t.channel side m = s.channel side m)
      ∧ t.race = s.race ∧ t.clock = s.clock ∧ t.log = s.log ∧ t.results = s.results ∧ t.ports = s.ports
      ∧ t.program = s.program ∧ t.takeoffs = s.takeoffs ∧ t.link = s.link ∧ s.BoardFollows t
      ∧ s.EventKeeps t)
  ∧ (∀ (s : State) (l : Lane), s.armDue l = none → exec (.armTimerExpiry l) s = .next s)
  ∧ (∀ (s : State) (p : Program) (l : Lane) (w : CollectingWall), s.resetHeld = false → s.race = .running →
    s.program = some p → (s.context l).collecting = some w → w.closeTime ≤ s.clock.value →
    ∃ t, exec (.closeTimerExpiry l) s = .next t
      ∧ (t.context l).collecting = none
      ∧ (t.context l).resolved = (s.context l).resolved ++ [recordOfWall p w]
      ∧ (w.index = p.lengths →
          (t.context l).status = .finished ∧ (t.context l).final = some ⟨(recordOfWall p w).official, true⟩
          ∧ (t.context l).expected = (s.context l).expected)
      ∧ (w.index ≠ p.lengths →
          (t.context l).status = (s.context l).status ∧ (t.context l).final = (s.context l).final
          ∧ (t.context l).expected = some
              (((s.context l).wallAfter p w.index (recordOfWall p w).official).placed s.clock.value))
      ∧ (∀ x, x = (s.context l).settledAt p w.index (recordOfWall p w).official →
          (s.context l).SettledFrom x (recordOfWall p w).causes (t.context l)
          ∧ s.WatchesAre t l (x.watches (if w.index = p.lengths then s.watches l else p.watchesArmed s.clock.value
              ((s.context l).wallAfter p w.index (recordOfWall p w).official) (s.watches l)))
          ∧ t.link = s.link.reported ([.wall l .closeTimer (recordOfWall p w)]
              ++ (if w.index = p.lengths then
                  [.finish l .finished (recordOfWall p w).official true ((s.context l).final.map Final.time)]
                else [])
              ++ judgeNotes l (s.context l).judgements ((recordOfWall p w).causes ++ x.causes)
              ++ s.closingNotes t l))
      ∧ (∀ m, m ≠ l → t.context m = s.context m) ∧ t.log = s.log ∧ t.program = s.program
      ∧ s.CompletionFollows t p ∧ s.RankingFollows t p l ∧ t.results.amend = s.results.amend
      ∧ s.PortsButLamps t ∧ t.takeoffs = s.takeoffs
      ∧ (p.inRace l = true → s.BoardFollows t) ∧ s.EventKeeps t)
  ∧ ∀ (s : State) (l : Lane), s.closeDue l = none → exec (.closeTimerExpiry l) s = .next s)
  ∧ ((∀ (s : State) (f : Freeze), s.resetHeld = false → s.board.freeze = some f → f.endMoment ≤ s.clock.value →
    exec .freezeEnd s = .next
      { s with board := { s.board with freeze := none, dirty := s.board.dirty.set 1 true } })
  ∧ (∀ s : State, (∀ f, s.board.freeze = some f → s.clock.value < f.endMoment) → exec .freezeEnd s = .next s)
  ∧ ∀ s : State, exec .prestartClockLimit s = .next s)

/-- The decision of R97 to R99: the backup reference is the middle stamp of three, the mean of two rounded down, the
stamp of one; it does not depend on the order of the presses and lies between the smallest and the largest stamp; a pad
time and two or three presses disagree exactly when they differ, without sign, by more than the limit; the official time
is the pad time unless there is none or CHECKED finds a disagreement, and then the reference. -/
def Obligations.BackupDecision : Prop :=
  (∀ presses others : List Press, presses.length ≤ 3 → presses.Perm others →
    backupReference presses = backupReference others)
  ∧ (∀ (presses : List Press) (r low high : Nat), presses.length ≤ 3 → backupReference presses = some r →
    (∀ q ∈ presses, low ≤ q.stamp ∧ q.stamp ≤ high) → low ≤ r ∧ r ≤ high)
  ∧ (∀ presses : List Press, backupReference presses = none ↔ presses = [])
  ∧ (∀ (presses : List Press) (a b c : Press), presses.Perm [a, b, c] → a.stamp ≤ b.stamp → b.stamp ≤ c.stamp →
    backupReference presses = some b.stamp)
  ∧ (∀ a b : Press, backupReference [a, b] = some ((a.stamp + b.stamp) / 2))
  ∧ (∀ a : Press, backupReference [a] = some a.stamp)
  ∧ (∀ (p : Program) (w : CollectingWall), (recordOfWall p w).disagree = true ↔
    ∃ pad ref, w.pad = some pad ∧ backupReference w.presses = some ref ∧ 2 ≤ w.presses.length
      ∧ p.disagree < (if pad ≤ ref then ref - pad else pad - ref))
  ∧ ∀ (p : Program) (w : CollectingWall),
    (recordOfWall p w).index = w.index ∧ (recordOfWall p w).side = w.side ∧ (recordOfWall p w).pad = w.pad
      ∧ (recordOfWall p w).backup = backupReference w.presses ∧ (recordOfWall p w).presses = w.presses.length
      ∧ (∀ pad, w.pad = some pad → ¬ ((recordOfWall p w).disagree = true ∧ p.policy = .checked) →
          (recordOfWall p w).official = pad ∧ (recordOfWall p w).source = .pad)
      ∧ (∀ ref, backupReference w.presses = some ref →
          w.pad = none ∨ ((recordOfWall p w).disagree = true ∧ p.policy = .checked) →
          (recordOfWall p w).official = ref
          ∧ (w.presses.length = 1 → (recordOfWall p w).source = .backupSingle)
          ∧ (w.presses.length = 2 → (recordOfWall p w).source = .backupMean)
          ∧ (w.presses.length = 3 → (recordOfWall p w).source = .backupMedian))

/-! ### Ranking and amendments (chapter 08) -/

/-- A re-rank: the ranked lanes are the FINISHED lanes, each once, by final hundredths and then by lane number; a lane's
place is one plus the number of ranked lanes with a strictly smaller time, and other lanes have none. Hundredths are the
final time divided by 100, rounded down. It sends one report, the RANK_NOTE. The finish-end lamp of a lane of the race
whose place changes takes the pattern of its place in a TIMED group, and no other lamp moves; its auto fields follow, the
display map is recomputed, and in a race that is over another first lane marks display row 1. Contexts, race, clock, log
and amendments are kept. -/
def Obligations.RankingFollowsHundredths : Prop :=
  ∀ s : State, s.rerank.RanksFit ∧ (∀ l, s.rankTime l = s.rankHundredths l)
    ∧ s.rerank.link = s.link.reported [s.rerank.rankNote]
    ∧ (∀ p, s.program = some p → s.LampsFollow s.rerank p) ∧ s.PortsButLamps s.rerank
    ∧ s.rerank.lanes = s.lanes ∧ s.rerank.race = s.race ∧ s.rerank.clock = s.clock ∧ s.rerank.log = s.log
    ∧ s.rerank.results.amend = s.results.amend ∧ s.BoardFollows s.rerank

/-- AMEND DISQUALIFY and DID_NOT_START of a lane in the race: the status, the referee code (kept by DISQUALIFY, absent
after DID_NOT_START), the amended flag and the reply; in RUNNING, for a lane that is not out yet, the expected wall, the
watches and the pending takeoff end, the collecting wall is resolved by R99 with the judgements of R101, a pending takeoff
of its exchange is judged, and every other open leg becomes UNJUDGED without a judgement; otherwise walls, legs, judgements
and final time stay. A FINISHED lane leaves the ranking. WALL_NOTE, FINISH_NOTE, JUDGE_NOTEs, RANK_NOTE and RACE_NOTE as
each applies. A running race completes exactly when every lane of the race is then terminal and no wall is collecting.
Ranking, place lamps, auto fields, display map, marked rows and the freeze (log entry 31) follow, here and below. Other
lanes, program and log are kept. AMEND RESTORE of a lane that is DISQUALIFIED or DID_NOT_START clears the referee code and
sets the amended flag. With a final time the lane is FINISHED and ranked again; without one it swims on in RUNNING, its
next wall expected from its last official time with its unreached exchanges PENDING again, and is NO_TIME in COMPLETE.
RESTORE of any other lane is refused. -/
def Obligations.LanesAreTakenOutAndRestored : Prop :=
  (∀ (s : State) (p : Program) (l : Lane) (code : Byte) (time : BitVec 32) (i : Instr) (action : Byte)
    (status : LaneStatus) (kept : Option Nat),
    s.race = .running ∨ s.race = .complete → s.program = some p → p.inRace l = true →
    s.Takes ⟨kindAmend, [laneCode l, action, code] ++ splitBytes time⟩ →
    (i = .amendDisqualify (laneCode l) code time ∧ action = 0 ∧ code ≠ 0 ∧ status = .disqualified
        ∧ kept = some code.toNat
      ∨ i = .amendDidNotStart (laneCode l) code time ∧ action = 1 ∧ status = .didNotStart ∧ kept = none) →
    ∃ t, exec i s = .next t ∧ (t.context l).status = status ∧ t.results.amend[l] = ⟨kept, true⟩
      ∧ (∀ m : Lane, m ≠ l → t.results.amend[m] = s.results.amend[m])
      ∧ s.CommandKeeps kindAmend .done [laneCode l, action, status.code] t ∧ s.PortsButLamps t
      ∧ (s.race = .running → (s.context l).status.isOut = false →
          (t.context l).expected = none ∧ (t.context l).collecting = none ∧ (t.context l).takeoff = none
          ∧ (t.channel .start l).watch = none ∧ (t.channel .turn l).watch = none
          ∧ (∀ r ∈ (t.context l).legs, r.verdict ≠ .pending)
          ∧ (∀ w, (s.context l).collecting = some w →
              (t.context l).resolved = (s.context l).resolved ++ [recordOfWall p w]
              ∧ (w.index = p.lengths → (t.context l).final = some ⟨(recordOfWall p w).official, true⟩)
              ∧ (w.index ≠ p.lengths → (t.context l).final = (s.context l).final))
          ∧ ∀ x causes walls, ((s.context l).collecting = none ∧ x = (s.context l).unsettled ∧ causes = [] ∧ walls = []
              ∨ ∃ w, (s.context l).collecting = some w
                ∧ x = (s.context l).exchangeJudged p w.index (recordOfWall p w).official
                ∧ causes = (recordOfWall p w).causes ++ x.causes
                ∧ walls = [.wall l .amend (recordOfWall p w)] ++ (if w.index = p.lengths then
                    [.finish l status (recordOfWall p w).official true ((s.context l).final.map Final.time)]
                  else [])) →
              (t.context l).legs = x.legs.map (fun r => if r.verdict = .pending then ⟨.unjudged, none⟩ else r)
              ∧ (t.context l).judgements = withCauses (s.context l).judgements causes
              ∧ t.link = (s.link.answered kindAmend .done [laneCode l, action, status.code]).reported
                  (walls ++ judgeNotes l (s.context l).judgements causes ++ s.closingNotes t l))
      ∧ (¬ (s.race = .running ∧ (s.context l).status.isOut = false) →
          t.context l = { s.context l with status } ∧ s.WatchesAre t l (s.watches l)
          ∧ t.link = (s.link.answered kindAmend .done [laneCode l, action, status.code]).reported
              (s.closingNotes t l))
      ∧ (t.context l).reaction = (s.context l).reaction ∧ (t.context l).source = (s.context l).source
      ∧ ((s.context l).collecting = none →
          (t.context l).resolved = (s.context l).resolved ∧ (t.context l).final = (s.context l).final)
      ∧ ((s.context l).status = .finished → l ∉ t.results.order)
      ∧ (∀ m, m ≠ l → t.context m = s.context m) ∧ t.program = s.program ∧ t.log = s.log
      ∧ s.CompletionFollows t p ∧ s.RankingFollows t p l ∧ s.BoardFollows t)
  ∧ (∀ (s : State) (p : Program) (l : Lane) (code : Byte) (time : BitVec 32),
    s.race = .running ∨ s.race = .complete → s.program = some p → p.inRace l = true →
    s.Takes ⟨kindAmend, [laneCode l, 2, code] ++ splitBytes time⟩ →
    ((s.context l).status ≠ .disqualified → (s.context l).status ≠ .didNotStart →
      exec (.amendRestore (laneCode l) code time) s = .next (s.replied kindAmend .badState []))
    ∧ ((s.context l).status = .disqualified ∨ (s.context l).status = .didNotStart →
      ∃ t, exec (.amendRestore (laneCode l) code time) s = .next t
        ∧ t.results.amend[l] = ⟨none, true⟩
        ∧ s.CommandKeeps kindAmend .done [laneCode l, 2, (t.context l).status.code] t ∧ s.PortsButLamps t
        ∧ (t.context l).resolved = (s.context l).resolved ∧ (t.context l).final = (s.context l).final
        ∧ (t.context l).judgements = (s.context l).judgements
        ∧ ((s.context l).final ≠ none → (t.context l).status = .finished ∧ l ∈ t.results.order)
        ∧ ((s.context l).final = none → s.race = .running →
            (t.context l).status = .swimming
            ∧ (t.context l).expected = some (ExpectedWall.placed s.clock.value
                ⟨(s.context l).resolved.length + 1, wallEnd ((s.context l).resolved.length + 1),
                  (s.context l).lastTime + p.armDelay, false, false⟩))
        ∧ ((s.context l).final = none → s.race = .complete → (t.context l).status = .noTime)
        ∧ ((s.context l).final ≠ none ∨ s.race = .complete → (t.context l).expected = (s.context l).expected)
        ∧ (t.context l).collecting = (s.context l).collecting
        ∧ (t.context l).legs = (if (s.context l).final = none ∧ s.race = .running then
            (s.context l).legs.mapIdx fun i r =>
              if (s.context l).resolved.length < p.exchangeWall (i + 2) then ⟨.pending, none⟩ else r
          else (s.context l).legs)
        ∧ (t.context l).takeoff = (s.context l).takeoff ∧ (t.context l).reaction = (s.context l).reaction
        ∧ s.WatchesAre t l (if (s.context l).final = none ∧ s.race = .running then
            p.watchesArmed s.clock.value ⟨(s.context l).resolved.length + 1, wallEnd ((s.context l).resolved.length + 1),
              (s.context l).lastTime + p.armDelay, false, false⟩ (s.watches l)
          else s.watches l)
        ∧ t.link = (s.link.answered kindAmend .done [laneCode l, 2, (t.context l).status.code]).reported
            (s.closingNotes t l)
        ∧ (∀ m : Lane, m ≠ l → t.context m = s.context m ∧ t.results.amend[m] = s.results.amend[m])
        ∧ t.program = s.program ∧ t.log = s.log
        ∧ s.CompletionFollows t p ∧ s.RankingFollows t p l ∧ s.BoardFollows t))

/-- AMEND TIME_WALL resolves the lane's earliest unresolved wall, in RUNNING the collecting wall or else the expected wall,
in COMPLETE the wall after the last resolved one, with the hand time as its official time and the pad time, backup
reference and press count of the collecting wall, if it is one; the final wall makes the lane FINISHED with a confirmed
final time, and in RUNNING any other wall gives the next wall's arm time. HAND_TIMED is added, the exchange of the wall is
judged, the leg it opens is settled (in this order by log entry 11), and an exchange wall never ARMED sets its watch.
WALL_NOTE, FINISH_NOTE, JUDGE_NOTEs, RANK_NOTE and RACE_NOTE as each applies. A running race completes exactly when every
lane of the race is then terminal and no wall is collecting. Ranking, place lamps, auto fields, display map, marked rows
and the freeze (log entry 31) follow. The amended flag is set and the referee code kept. A time not later than the last
official time or later than the clock is refused, and so is a lane that is out or has no unresolved wall. -/
def Obligations.WallsAreTimedByHand : Prop :=
  ∀ (s : State) (p : Program) (l : Lane) (code : Byte) (time : BitVec 32) (w : Option Nat),
    s.race = .running ∨ s.race = .complete → s.program = some p → p.inRace l = true →
    s.Takes ⟨kindAmend, [laneCode l, 3, code] ++ splitBytes time⟩ →
    (s.race = .running → w = match (s.context l).collecting, (s.context l).expected with
      | some c, _ => some c.index
      | none, some e => some e.index
      | none, none => none) →
    (s.race = .complete → w =
      if (s.context l).resolved.length < p.lengths then some ((s.context l).resolved.length + 1) else none) →
    ((s.context l).status = .disqualified ∨ (s.context l).status = .didNotStart ∨ w = none →
      exec (.amendTimeWall (laneCode l) code time) s = .next (s.replied kindAmend .badState []))
    ∧ ∀ n, (s.context l).status ≠ .disqualified → (s.context l).status ≠ .didNotStart → w = some n →
      (time.toNat ≤ (((s.context l).resolved.getLast?.map WallRecord.official).getD 0) ∨ s.clock.value < time.toNat →
        exec (.amendTimeWall (laneCode l) code time) s = .next (s.replied kindAmend .badValue []))
      ∧ ((((s.context l).resolved.getLast?.map WallRecord.official).getD 0) < time.toNat →
        time.toNat ≤ s.clock.value →
        ∃ t r, exec (.amendTimeWall (laneCode l) code time) s = .next t
          ∧ (t.context l).resolved = (s.context l).resolved ++ [r] ∧ (t.context l).collecting = none
          ∧ r.index = n ∧ r.side = wallEnd n ∧ r.official = time.toNat ∧ r.source = .hand ∧ r.disagree = false
          ∧ r.pad = (s.context l).collecting.bind CollectingWall.pad
          ∧ r.backup = (s.context l).collecting.bind (fun c => backupReference c.presses)
          ∧ r.presses = ((s.context l).collecting.map fun c => c.presses.length).getD 0
          ∧ (∃ j ∈ (t.context l).judgements, j.priority = 7)
          ∧ (n = p.lengths → (t.context l).status = .finished ∧ (t.context l).final = some ⟨time.toNat, true⟩)
          ∧ (n ≠ p.lengths → (t.context l).status = (s.context l).status ∧ (t.context l).final = (s.context l).final)
          ∧ (∀ x before armed unarmed, x = (s.context l).settledAt p n time.toNat →
              before = { s.context l with
                expected := if (s.context l).collecting = none then none else (s.context l).expected } →
              armed = (if s.race = .running ∧ n ≠ p.lengths then
                  p.watchesArmed s.clock.value (before.wallAfter p n time.toNat) (s.watches l)
                else s.watches l) →
              (∀ side, unarmed side = match (s.context l).collecting, (s.context l).expected, p.exchangeLeg n with
                | none, some e, some k =>
                  if s.race = .running ∧ e.everArmed = false ∧ side = e.side then some k else armed side
                | _, _, _ => armed side) →
              (s.context l).SettledFrom x [.handTimed n] (t.context l) ∧ s.WatchesAre t l (x.watches unarmed)
              ∧ (t.context l).expected = (if s.race = .running ∧ n ≠ p.lengths then
                  some ((before.wallAfter p n time.toNat).placed s.clock.value)
                else before.expected)
              ∧ t.link = (s.link.answered kindAmend .done
                  ([laneCode l, 3, (t.context l).status.code] ++ be8 n ++ be32 time.toNat)).reported
                    ([.wall l .hand r] ++ (if n = p.lengths then
                        [.finish l .finished time.toNat true ((s.context l).final.map Final.time)]
                      else [])
                    ++ judgeNotes l (s.context l).judgements (.handTimed n :: x.causes) ++ s.closingNotes t l))
          ∧ t.results.amend[l] = ⟨s.results.amend[l].code, true⟩
          ∧ s.CommandKeeps kindAmend .done
              ([laneCode l, 3, (t.context l).status.code] ++ be8 n ++ be32 time.toNat) t
          ∧ s.CompletionFollows t p ∧ s.RankingFollows t p l ∧ s.PortsButLamps t ∧ s.BoardFollows t
          ∧ (∀ m : Lane, m ≠ l → t.context m = s.context m ∧ t.results.amend[m] = s.results.amend[m])
          ∧ t.program = s.program ∧ t.log = s.log)

/-- The checks of every AMEND in their order: BAD_STATE outside RUNNING and COMPLETE; BAD_VALUE for a lane above 9 or an
unknown action; BAD_STATE for a lane not in the race; and BAD_VALUE for a DISQUALIFY with referee code 0. A refused AMEND
changes nothing but the link. -/
def Obligations.AmendmentsAreChecked : Prop :=
  ∀ (s : State) (lane action code : Byte) (time : BitVec 32) (i : Instr) (payload : Payload),
    payload = [lane, action, code] ++ splitBytes time → s.Takes ⟨kindAmend, payload⟩ →
    (i = .amendDisqualify lane code time ∧ action = 0 ∨ i = .amendDidNotStart lane code time ∧ action = 1
      ∨ i = .amendRestore lane code time ∧ action = 2 ∨ i = .amendTimeWall lane code time ∧ action = 3
      ∨ i = .amend payload ∧ 3 < action.toNat) →
    (s.race ≠ .running ∧ s.race ≠ .complete → exec i s = .next (s.replied kindAmend .badState []))
    ∧ (s.race = .running ∨ s.race = .complete →
      (9 < lane.toNat ∨ 3 < action.toNat → exec i s = .next (s.replied kindAmend .badValue []))
      ∧ ∀ l : Lane, lane = laneCode l → action.toNat ≤ 3 →
        (s.inRace l = false → exec i s = .next (s.replied kindAmend .badState []))
        ∧ (s.inRace l = true → action = 0 → code = 0 → exec i s = .next (s.replied kindAmend .badValue [])))

/-! ### The event log (chapter 09) -/

/-- One entry more: it takes the counter as its sequence number and stands last; the counter rises modulo 65,536; with
fewer than 512 entries nothing is lost, and a full log loses its oldest and counts it, up to 65,535; the rise to 384
spends the notice. Making an entry changes the log and, when it raises the fill from 383 to 384 with the notice armed,
generates a LOG_NOTE with the fill 384, the entry's sequence number and the dropped count; nothing else changes. -/
def Obligations.LogKeepsTheNewest : Prop :=
  (∀ (s : State) (stamp : Stamp) (source : LogSource) (wall : Option Nat) (d : Disposition),
    (s.log.armed = true → s.log.entries.length = 383 → s.logEntry stamp source wall d =
      { s with
        log := s.log.add stamp source wall d
        link := s.link.report (.log 384 s.log.counter s.log.dropped) })
    ∧ (s.log.armed = false ∨ s.log.entries.length ≠ 383 →
      s.logEntry stamp source wall d = { s with log := s.log.add stamp source wall d }))
  ∧ ∀ (g : EventLog) (stamp : Stamp) (source : LogSource) (wall : Option Nat) (d : Disposition),
    (g.entries.length < 512 →
      (g.add stamp source wall d).entries = g.entries ++ [⟨g.counter, stamp, source, wall, d⟩]
      ∧ (g.add stamp source wall d).dropped = g.dropped)
    ∧ (g.entries.length = 512 →
      (g.add stamp source wall d).entries = g.entries.tail ++ [⟨g.counter, stamp, source, wall, d⟩]
      ∧ (g.add stamp source wall d).entries.length = 512
      ∧ (g.dropped < 65535 → (g.add stamp source wall d).dropped = g.dropped + 1)
      ∧ (g.dropped = 65535 → (g.add stamp source wall d).dropped = 65535))
    ∧ (g.counter < 65535 → (g.add stamp source wall d).counter = g.counter + 1)
    ∧ (g.counter = 65535 → (g.add stamp source wall d).counter = 0)
    ∧ ((g.add stamp source wall d).armed = true ↔ g.armed = true ∧ g.entries.length ≠ 383)

/-- LOG_READ with a count of 1 to 8 removes the oldest entries, as many as the count or as the log holds, and answers
with them, the number that remain and the dropped count; sequence counter and dropped count stay, and a fill below 384
arms the notice. A count of 0 or above 8 is refused and changes nothing. No report is sent. -/
def Obligations.LogIsReadFromTheFront : Prop :=
  (∀ (s : State) (count : Byte), s.Takes ⟨kindLogRead, [count]⟩ → 1 ≤ count.toNat → count.toNat ≤ 8 →
    ∃ g, exec (.logRead [count]) s = .next ({ s with log := g }.replied kindLogRead .done
        (be8 (min count.toNat s.log.entries.length)
          ++ ((s.log.entries.take count.toNat).map LogEntry.bytes).flatten
          ++ be16 (s.log.entries.length - count.toNat) ++ be16 s.log.dropped))
      ∧ s.log.entries = s.log.entries.take count.toNat ++ g.entries
      ∧ g.entries.length = s.log.entries.length - count.toNat
      ∧ g.counter = s.log.counter ∧ g.dropped = s.log.dropped
      ∧ (g.armed = true ↔ s.log.armed = true ∨ g.entries.length < 384))
  ∧ ∀ (s : State) (count : Byte), s.Takes ⟨kindLogRead, [count]⟩ → count = 0 ∨ 8 < count.toNat →
    exec (.logRead [count]) s = .next (s.replied kindLogRead .badValue [])

/-- LOG_CLEAR, in every race state, removes every entry, sets the dropped count to 0, arms the notice and keeps the
sequence counter, with a DONE reply without data and no report; the race is the same with or without it. An input made
before it is removed with the rest; one made after it is the only entry and carries the counter. With a payload it is
answered BAD_LENGTH. -/
def Obligations.LogIsCleared : Prop :=
  (∀ s : State, s.Takes ⟨kindLogClear, []⟩ →
    exec (.logClear []) s = .next ({ s with log := ⟨[], s.log.counter, 0, true⟩ }.replied kindLogClear .done []))
  ∧ (∀ (s : State) (payload : Payload), payload ≠ [] → s.Takes ⟨kindLogClear, payload⟩ →
    exec (.logClear payload) s = .next (s.replied kindLogClear .badLength []))
  ∧ ∀ (s : State) (stamp : Stamp) (source : LogSource) (wall : Option Nat) (d : Disposition),
    s.Takes ⟨kindLogClear, []⟩ →
    (∃ t, exec (.logClear []) (s.logEntry stamp source wall d) = .next t ∧ t.log.entries = [])
    ∧ ∃ t, exec (.logClear []) s = .next t
      ∧ (t.logEntry stamp source wall d).log.entries = [⟨s.log.counter, stamp, source, wall, d⟩]

/-! ### The scoreboard (chapter 10) -/

/-- BOARD_MODE sets the mode; setting the mode in force changes nothing; leaving OFF or TEST marks every row dirty;
entering OFF puts BLANK-on and leaving it BLANK-off in the mode frame slot. An unknown code, and a PARTIAL band that is
upside down or below row 11, are refused.
BOARD_AREA sets the access area, by corners or by corner and size, and puts the cursor on its first cell; it is
refused with BUSY during a clear and with BAD_VALUE for an area that is upside down or leaves the board. BOARD_MASK sets
both masks whole or is refused. Neither changes a cell. -/
def Obligations.BoardSettingsAreTaken : Prop :=
  (∀ (s : State) (code a b : Byte), s.Takes ⟨kindBoardMode, [code, a, b]⟩ →
    (3 < code.toNat ∨ code = 3 ∧ (b.toNat < a.toNat ∨ 11 < b.toNat) →
      exec (.boardMode [code, a, b]) s = .next (s.replied kindBoardMode .badValue []))
    ∧ ∀ m : BoardMode,
      (code = 0 ∧ m = .off ∨ code = 1 ∧ m = .test ∨ code = 2 ∧ m = .live
        ∨ code = 3 ∧ ∃ first last : Row, a = BitVec.ofNat 8 first.val ∧ b = BitVec.ofNat 8 last.val ∧ first ≤ last
          ∧ m = .partialBand first last) →
      (m = s.board.mode → exec (.boardMode [code, a, b]) s = .next (s.replied kindBoardMode .done []))
      ∧ (m ≠ s.board.mode → exec (.boardMode [code, a, b]) s = .next
          ({ s with board := { s.board with
              mode := m
              dirty :=
                if s.board.mode = BoardMode.off ∨ s.board.mode = BoardMode.test then Vector.replicate 12 true
                else s.board.dirty
              modeSlot := if m = BoardMode.off then some true else if s.board.mode = BoardMode.off then some false
                else s.board.modeSlot } }.replied kindBoardMode .done [])))
  ∧ ((∀ (s : State) (f a b c d : Byte), s.Takes ⟨kindBoardArea, [f, a, b, c, d]⟩ →
    (s.board.clear ≠ none → exec (.boardArea [f, a, b, c, d]) s = .next (s.replied kindBoardArea .busy []))
    ∧ (s.board.clear = none →
      (f = 0 → a.toNat ≤ c.toNat → c.toNat ≤ 31 → b.toNat ≤ d.toNat → d.toNat ≤ 11 →
        exec (.boardArea [f, a, b, c, d]) s = .next
          ({ s with board := { s.board with
              area := ⟨a.toNat, b.toNat, c.toNat, d.toNat⟩, cursor := ⟨a.toNat, b.toNat⟩ } }.replied
            kindBoardArea .done []))
      ∧ (f = 1 → 1 ≤ c.toNat → 1 ≤ d.toNat → a.toNat + c.toNat ≤ 32 → b.toNat + d.toNat ≤ 12 →
        exec (.boardArea [f, a, b, c, d]) s = .next
          ({ s with board := { s.board with
              area := ⟨a.toNat, b.toNat, a.toNat + c.toNat - 1, b.toNat + d.toNat - 1⟩
              cursor := ⟨a.toNat, b.toNat⟩ } }.replied kindBoardArea .done []))
      ∧ (f = 0 ∧ ¬ (a.toNat ≤ c.toNat ∧ c.toNat ≤ 31 ∧ b.toNat ≤ d.toNat ∧ d.toNat ≤ 11)
          ∨ f = 1 ∧ ¬ (1 ≤ c.toNat ∧ 1 ≤ d.toNat ∧ a.toNat + c.toNat ≤ 32 ∧ b.toNat + d.toNat ≤ 12)
          ∨ 1 < f.toNat →
        exec (.boardArea [f, a, b, c, d]) s = .next (s.replied kindBoardArea .badValue []))))
  ∧ (∀ (s : State) (mode x0 y0 x1 y1 : Byte) (red green blue char : Bool) (m : WindowMode),
    s.Takes ⟨kindBoardMask, [mode, x0, y0, x1, y1, boolCode red, boolCode green, boolCode blue, boolCode char]⟩ →
    (mode = 0 ∧ m = .off ∨ mode = 1 ∧ m = .inside ∨ mode = 2 ∧ m = .outside) →
    x0.toNat ≤ x1.toNat → x1.toNat ≤ 31 → y0.toNat ≤ y1.toNat → y1.toNat ≤ 11 →
    exec (.boardMask [mode, x0, y0, x1, y1, boolCode red, boolCode green, boolCode blue, boolCode char]) s = .next
      ({ s with board := { s.board with
          window := ⟨m, ⟨x0.toNat, y0.toNat, x1.toNat, y1.toNat⟩⟩
          locks := ⟨red, green, blue, char⟩ } }.replied kindBoardMask .done []))
  ∧ ∀ (s : State) (mode x0 y0 x1 y1 r g b c : Byte),
    s.Takes ⟨kindBoardMask, [mode, x0, y0, x1, y1, r, g, b, c]⟩ →
    2 < mode.toNat ∨ x1.toNat < x0.toNat ∨ 31 < x1.toNat ∨ y1.toNat < y0.toNat ∨ 11 < y1.toNat ∨ 1 < r.toNat
      ∨ 1 < g.toNat ∨ 1 < b.toNat ∨ 1 < c.toNat →
    exec (.boardMask [mode, x0, y0, x1, y1, r, g, b, c]) s = .next (s.replied kindBoardMask .badValue []))

/-- BOARD_WRITE outside a clear, cell after cell from the cursor on: a cell the window mask protects is skipped, any other
is written under the plane mask; the cursor moves on within the area, no other cell changes, and the reply counts written
and skipped cells and gives the cursor. A display row whose memory row differs after the command (log entry 19) is marked
dirty, unless what its frame carries has changed while it is being sent under RESTART for the first time: that frame begins
again with the new content, and the row is out of the dirty set (20). BOARD_WRITE is refused with BUSY during a clear, and
with BAD_VALUE, nothing written, for a count of 0 or above 32, a code above 127 or a colour above 7.
BOARD_READ answers, also during a clear, with as many cells as asked for, each where the cursor stands as it moves on
within the area, and the cursor after them; nothing but the cursor changes on the board. A count of 0 or above 32 is
refused. The bytes of both replies are laid out as log entry 10 chooses: one byte each for the cells written, the cells
skipped and the cursor's column and row, and no count before the cells read. -/
def Obligations.CellsAreWrittenAndRead : Prop :=
  ((∀ (s : State) (payload : Payload), s.Takes ⟨kindBoardWrite, payload⟩ → payload.length = 1 + 2 * num8 payload 0 →
    (s.board.clear ≠ none → exec (.boardWrite payload) s = .next (s.replied kindBoardWrite .busy []))
    ∧ (s.board.clear = none →
      num8 payload 0 = 0 ∨ 32 < num8 payload 0
        ∨ (∃ n, n < num8 payload 0 ∧ (127 < num8 payload (2 * n + 1) ∨ 7 < num8 payload (2 * n + 2))) →
      exec (.boardWrite payload) s = .next (s.replied kindBoardWrite .badValue [])))
  ∧ ∀ (s : State) (cells : List Cell) (payload : Payload) (at' : Nat → Cursor) (mem : Nat → Nat → Nat → Cell),
    payload = BitVec.ofNat 8 cells.length :: (cells.map Cell.bytes).flatten → s.Takes ⟨kindBoardWrite, payload⟩ →
    s.board.clear = none → 1 ≤ cells.length → cells.length ≤ 32 →
    at' 0 = s.board.cursor → (∀ n, at' (n + 1) = (at' n).next s.board.area) →
    (∀ x y, mem 0 x y = s.board.cellAt x y) →
    (∀ n x y, mem (n + 1) x y =
      if x = (at' n).x ∧ y = (at' n).y ∧ s.board.window.masks x y = false then
        s.board.locks.apply (mem n x y) (cells.getD n Cell.blank)
      else mem n x y) →
    ∃ t written, exec (.boardWrite payload) s = .next t
      ∧ t.board.cursor = at' cells.length
      ∧ (∀ x y, x < 32 → y < 12 → t.board.cellAt x y = mem cells.length x y)
      ∧ written =
          ((List.range cells.length).filter fun n => !s.board.window.masks (at' n).x (at' n).y).length
      ∧ t.link = s.link.answered kindBoardWrite .done (be8 written ++ be8 (cells.length - written)
          ++ be8 (at' cells.length).x ++ be8 (at' cells.length).y)
      ∧ t = { s with board := t.board, link := t.link }
      ∧ t.board =
          { s.board with
            cells := t.board.cells, cursor := t.board.cursor, dirty := t.board.dirty, chain := t.board.chain
            sinceRow1 := t.board.sinceRow1 }
      ∧ s.WriteMarks t)
  ∧ ((∀ (s : State) (count : Byte), s.Takes ⟨kindBoardRead, [count]⟩ → count = 0 ∨ 32 < count.toNat →
    exec (.boardRead [count]) s = .next (s.replied kindBoardRead .badValue []))
  ∧ ∀ (s : State) (count : Byte) (at' : Nat → Cursor), s.Takes ⟨kindBoardRead, [count]⟩ → 1 ≤ count.toNat →
    count.toNat ≤ 32 → at' 0 = s.board.cursor → (∀ n, at' (n + 1) = (at' n).next s.board.area) →
    exec (.boardRead [count]) s = .next
      ({ s with board := { s.board with cursor := at' count.toNat } }.replied kindBoardRead .done
        (((List.range count.toNat).map fun n => (s.board.cellAt (at' n).x (at' n).y).bytes).flatten
          ++ be8 (at' count.toNat).x ++ be8 (at' count.toNat).y)))

/-- A clear: BOARD_CLEAR starts it at the area's top row and answers at once; while it runs, a further BOARD_CLEAR is
refused with BUSY; each CLEAR_ROW_FILL fills the cells of its row that lie in the area, are not masked and are no auto
field, under the plane mask, and goes on to the row below until the area's bottom row; the display rows that show the
filled row are marked when it changes, or the frame being sent under RESTART begins again (log entry 20); before its
millisecond has passed CLEAR_ROW_FILL is no event (the model's choice, log entry 3); BOARD_CLEAR_STOP ends it and says
whether there was one. The area is on the board and the next row in it by the invariant of BoundsAreKept. -/
def Obligations.ClearsRunRowByRow : Prop :=
  (∀ (s : State) (code colour : Byte), s.Takes ⟨kindBoardClear, [code, colour]⟩ →
    (s.board.clear ≠ none → exec (.boardClear [code, colour]) s = .next (s.replied kindBoardClear .busy []))
    ∧ (s.board.clear = none →
      (127 < code.toNat ∨ 7 < colour.toNat →
        exec (.boardClear [code, colour]) s = .next (s.replied kindBoardClear .badValue []))
      ∧ (code.toNat ≤ 127 → colour.toNat ≤ 7 →
        exec (.boardClear [code, colour]) s = .next
          ({ s with board := { s.board with
              clear := some ⟨⟨BitVec.ofNat 7 code.toNat, BitVec.ofNat 3 colour.toNat⟩, s.board.area.y0, 10⟩ } }.replied
            kindBoardClear .done []))))
  ∧ (∀ s : State, s.Takes ⟨kindBoardClearStop, []⟩ →
    exec (.boardClearStop []) s = .next
      ({ s with board := { s.board with clear := none } }.replied kindBoardClearStop .done
        [if s.board.clear = none then 0 else 1]))
  ∧ (∀ (s : State) (c : Clear), s.resetHeld = false → s.board.clear = some c → c.wait = 0 → s.board.AreaFits →
    ∃ t, exec .clearRowFill s = .next t
      ∧ (∀ x y, x < 32 → y < 12 → t.board.cellAt x y =
          if y = c.nextRow ∧ s.board.area.x0 ≤ x ∧ x ≤ s.board.area.x1 ∧ s.board.window.masks x y = false
            ∧ s.board.layout.isAutoCell x y = false then
            s.board.locks.apply (s.board.cellAt x y) c.fill
          else s.board.cellAt x y)
      ∧ t.board.clear =
          (if c.nextRow < s.board.area.y1 then some { c with nextRow := c.nextRow + 1, wait := 10 } else none)
      ∧ t = { s with board := t.board }
      ∧ t.board =
          { s.board with
            cells := t.board.cells, clear := t.board.clear, dirty := t.board.dirty, chain := t.board.chain
            sinceRow1 := t.board.sinceRow1 }
      ∧ s.WriteMarks t)
  ∧ ∀ s : State, (∀ c, s.board.clear = some c → c.wait ≠ 0) → exec .clearRowFill s = .next s

/-- BOARD_LAYOUT stores the layout with its columns and the freeze interval clamped, writes the auto fields of every
lane at their columns when lane rows are ON, with the place, mark and time texts of R166, and leaves rows 0 and 1,
recomputes the display row map, marks the rows that show something else by the conflict policy it sets, and marks the clock
row, also while it is OFF (log entry 13); a freeze in force and all else of the board are kept; the reply says whether a
value was clamped. An unknown code is refused and changes nothing but the link. -/
def Obligations.LayoutIsStored : Prop :=
  ∀ (s : State) (lanes order place mark time clock col freeze policy : Byte),
    s.Takes ⟨kindBoardLayout, [lanes, order, place, mark, time, clock, col, freeze, policy]⟩ →
    (1 < lanes.toNat ∨ 1 < order.toNat ∨ 1 < clock.toNat ∨ 1 < policy.toNat →
      exec (.boardLayout [lanes, order, place, mark, time, clock, col, freeze, policy]) s =
        .next (s.replied kindBoardLayout .badValue []))
    ∧ (lanes.toNat ≤ 1 → order.toNat ≤ 1 → clock.toNat ≤ 1 → policy.toNat ≤ 1 →
      ∃ t, exec (.boardLayout [lanes, order, place, mark, time, clock, col, freeze, policy]) s = .next t
        ∧ t.board.layout =
            ⟨decide (lanes = 1), if order = 0 then .byLane else .byPlace, min 30 place.toNat, min 31 mark.toNat,
              min 24 time.toNat, decide (clock = 1), min 24 col.toNat, min 30 freeze.toNat,
              if policy = 0 then .hold else .restart⟩
        ∧ (∀ (l : Lane) (x : Fin 32), t.board.cells[laneRow l][x] =
            if lanes = 1 then
              t.board.layout.autoCell (s.context l) s.results.places[l] x s.board.cells[laneRow l][x]
            else s.board.cells[laneRow l][x])
        ∧ t.board.cells[0] = s.board.cells[0] ∧ t.board.cells[1] = s.board.cells[1]
        ∧ t.board.map = t.mapNow ∧ t.board.dirty[1] = true ∧ (s.MapFits → s.RowsMarked (fun _ => true) t)
        ∧ t.board =
            { s.board with
              layout := t.board.layout, cells := t.board.cells, map := t.board.map, dirty := t.board.dirty
              chain := t.board.chain, sinceRow1 := t.board.sinceRow1 }
        ∧ t.link = s.link.answered kindBoardLayout .done
            [if 30 < place.toNat ∨ 31 < mark.toNat ∨ 24 < time.toNat ∨ 24 < col.toNat ∨ 30 < freeze.toNat then 1
            else 0]
        ∧ t = { s with board := t.board, link := t.link })

/-- BOARD_MODULE with its checks in order: a BRIGHTNESS above 15, a BLANK that is neither 0 nor 1 and an index above 3 are
refused with BAD_VALUE, BRIGHTNESS and BLANK-off in OFF with BAD_STATE, any command while the slot is occupied with BUSY;
otherwise the command enters the slot. SELF_TEST and MODULE_RESET ignore their value. -/
def Obligations.ModuleCommandsEnterTheSlot : Prop :=
  (∀ (s : State) (v : Byte) (i : Instr) (c : ModuleCommand) (index : Byte), s.Takes ⟨kindBoardModule, [index, v]⟩ →
    (i = .brightness v ∧ index = 0 ∧ c = .brightness v.toNat ∧ v.toNat ≤ 15
      ∨ i = .blank v ∧ index = 1 ∧ (v = 0 ∧ c = .blank false ∨ v = 1 ∧ c = .blank true)
      ∨ i = .selfTest v ∧ index = 2 ∧ c = .selfTest ∨ i = .moduleReset v ∧ index = 3 ∧ c = .moduleReset) →
    (s.board.mode = .off ∧ (index = 0 ∨ c = .blank false) →
      exec i s = .next (s.replied kindBoardModule .badState []))
    ∧ (¬ (s.board.mode = .off ∧ (index = 0 ∨ c = .blank false)) →
      (s.board.moduleSlot ≠ none → exec i s = .next (s.replied kindBoardModule .busy []))
      ∧ (s.board.moduleSlot = none → exec i s = .next
          ({ s with board := { s.board with moduleSlot := some c } }.replied kindBoardModule .done []))))
  ∧ (∀ (s : State) (v : Byte), s.Takes ⟨kindBoardModule, [0, v]⟩ → 15 < v.toNat →
    exec (.brightness v) s = .next (s.replied kindBoardModule .badValue []))
  ∧ (∀ (s : State) (v : Byte), s.Takes ⟨kindBoardModule, [1, v]⟩ → 1 < v.toNat →
    exec (.blank v) s = .next (s.replied kindBoardModule .badValue []))
  ∧ ∀ (s : State) (index v : Byte), s.Takes ⟨kindBoardModule, [index, v]⟩ → 3 < index.toNat →
    exec (.boardModule [index, v]) s = .next (s.replied kindBoardModule .badValue [])

/-- At the end of any frame but that of a self-test or a module reset the transmitter chooses the next frame by the first
item that applies: the mode frame slot, the module command slot, and then by the mode nothing, the next test row, or the
row that is due: row 1 when the clock counts and 100 ms have passed, the lowest dirty row sent, and the rotation row: the
next row after the rotation pointer that LIVE or the PARTIAL band sends, wrapping round. A row frame carries the memory
row of the map, with the text of R167 in the clock field of row 1; a test frame carries code 127 in colour 7 in every
cell. When the 100 ms pass on a free chain with empty slots, row 1 is sent. The end of a self-test or a module reset marks
every row dirty, before the transmitter chooses, and in OFF blanks the modules again. Nothing but the board changes. A
frame with time still to go has not ended, and CLOCK_ROW_DUE is no event while row 1 is not due (the model's choice, log
entry 3). -/
def Obligations.ChainFramesAreChosen : Prop :=
  ((∀ (s : State) (d : Row), s.Shows d (s.rowContent d))
    ∧ ∀ first last d : Row, BoardMode.off.sends d = false ∧ BoardMode.test.sends d = false ∧ BoardMode.live.sends d = true
      ∧ ((BoardMode.partialBand first last).sends d = true ↔ first ≤ d ∧ d ≤ last))
  ∧ (∀ (s : State) (f : ChainFrame), s.board.chain = some f → f.left ≠ 0 → exec .boardFrameEnd s = .next s)
  ∧ (∀ (s : State) (f : ChainFrame), s.resetHeld = false → s.board.chain = some f → f.left = 0 →
    f.content ≠ .command .selfTest → f.content ≠ .command .moduleReset →
    ∃ b, exec .boardFrameEnd s = .next { s with board := b }
      ∧ b.cells = s.board.cells ∧ b.map = s.board.map ∧ b.mode = s.board.mode ∧ b.layout = s.board.layout
      ∧ (∀ on, s.board.modeSlot = some on → b.chain = some ⟨.mode on, 5, false⟩ ∧ b.modeSlot = none)
      ∧ (s.board.modeSlot = none →
        (∀ c, s.board.moduleSlot = some c → b.chain = some ⟨.command c, 5, false⟩ ∧ b.moduleSlot = none)
        ∧ (s.board.moduleSlot = none →
          (s.board.mode = .off → b.chain = none)
          ∧ (s.board.mode = .test →
              b.rotation = s.board.rotation + 1 ∧ b.chain = some
                ⟨.test (s.board.rotation + 1) (Vector.replicate 32 ⟨127, 7⟩), 20, false⟩)
          ∧ (s.board.mode.sends 1 = true → s.board.layout.clockRow = true → s.clock.phase.counts = true →
              1000 ≤ s.board.sinceRow1 →
              b.chain = some ⟨.row 1 (s.rowContent 1), 20, false⟩ ∧ b.dirty[1] = false ∧ b.sinceRow1 = 0)
          ∧ (∀ d, s.clockRowDue = false → s.board.mode.sends d = true → s.board.dirty[d] = true →
              (∀ k : Row, k < d → ¬ (s.board.mode.sends k = true ∧ s.board.dirty[k] = true)) →
              b.chain = some ⟨.row d (s.rowContent d), 20, false⟩ ∧ b.dirty[d] = false)
          ∧ (∀ d passed : Row, s.clockRowDue = false →
              (∀ k : Row, ¬ (s.board.mode.sends k = true ∧ s.board.dirty[k] = true)) →
              d = s.board.rotation + 1 + passed → s.board.mode.sends d = true →
              (∀ k : Row, k < passed → s.board.mode.sends (s.board.rotation + 1 + k) = false) →
              b.chain = some ⟨.row d (s.rowContent d), 20, false⟩ ∧ b.rotation = d))))
  ∧ (∀ (s : State) (f : ChainFrame), s.resetHeld = false → s.board.chain = some f → f.left = 0 →
    f.content = .command .selfTest ∨ f.content = .command .moduleReset →
    ∃ b, exec .boardFrameEnd s = .next { s with board := b }
      ∧ (s.board.mode = .off → b.chain = some ⟨.mode true, 5, false⟩ ∧ ∀ d : Row, b.dirty[d] = true)
      ∧ (∀ on, s.board.mode ≠ .off → s.board.modeSlot = some on →
          b.chain = some ⟨.mode on, 5, false⟩ ∧ ∀ d : Row, b.dirty[d] = true)
      ∧ ∀ d : Row, b.dirty[d] = true ∨ ∃ next, b.chain = some next
          ∧ ((∃ cells, next.content = .row d cells) ∨ ∃ cells, next.content = .test d cells))
  ∧ (∀ s : State, s.resetHeld = false → s.clock.phase.counts = true → 1000 ≤ s.board.sinceRow1 →
    s.board.mode.sends 1 = true → s.board.layout.clockRow = true →
    ∃ b, exec .clockRowDue s = .next { s with board := b } ∧ b.cells = s.board.cells ∧ b.map = s.board.map
      ∧ (s.board.chain ≠ none → b = s.board)
      ∧ (s.board.chain = none → s.board.modeSlot = none → s.board.moduleSlot = none →
          b.chain = some ⟨.row 1 (s.rowContent 1), 20, false⟩ ∧ b.dirty[1] = false ∧ b.sinceRow1 = 0))
  ∧ ∀ s : State, ¬ (s.clock.phase.counts = true ∧ 1000 ≤ s.board.sinceRow1 ∧ s.board.mode.sends 1 = true
      ∧ s.board.layout.clockRow = true) → exec .clockRowDue s = .next s

/-! ### Invariants that every step keeps -/

/-- Race state, program in force, clock, start source, clock-overrun fault and freeze fit each other after every step:
EMPTY exactly without a program, the clock in the phase of the race state and never past its maximum, 0 when STOPPED, a
start source exactly once started, the fault only when the race is over, a freeze only in RUNNING. -/
def Obligations.RaceFitsIsKept : Prop :=
  ∀ s t : State, s.RaceFits → step s = .next t → t.RaceFits

/-- Every queue, buffer and counter stays within the size its rule gives; the access area stays on the board, the cursor in
the area, and the next row of a clear among the area's rows. -/
def Obligations.BoundsAreKept : Prop :=
  ∀ s t : State, s.Bounded → step s = .next t → t.Bounded

/-- Platform values, offsets, runs and thresholds stay in their ranges, and no row but a conversion during a zeroing and
the resets changes an offset. The two rotations stay together, and at one position the two samplers never convert the same
lane (that TURN is one channel behind is the model's choice, log entry 26). -/
def Obligations.SamplerRangesAreKept : Prop :=
  (∀ s t : State, s.SamplersInRange → step s = .next t → t.SamplersInRange)
  ∧ ((∀ s t : State, (s.sampler .start).rotation = (s.sampler .turn).rotation → step s = .next t →
      (t.sampler .start).rotation = (t.sampler .turn).rotation)
    ∧ ∀ position : Lane, convertedLane .start position ≠ convertedLane .turn position)
  ∧ ∀ (i : Instr) (s t : State) (side : PoolEnd) (l : Lane), exec i s = .next t →
    (t.channel side l).offset = (s.channel side l).offset
      ∨ (t.channel side l).offset = 0 ∧ (i = .powerOn ∨ i = .resetLineAssert ∨ i = .resetLineRelease)
      ∨ ∃ reading, i = .platformConversion side reading ∧ s.zeroing ≠ none
          ∧ (t.channel side l).offset = reading.val ∧ reading.val < 1023

/-- Every lane's judgements stay in priority order, each cause at most once.
Every lane's walls stay as R71, R73, R75 and R91 have them: walls 1 to n resolved at the ends of R12 with rising official
times, one collecting wall n + 1 at most, in a running race alone, with at most three presses, one for each button, and one
expected wall at most, the next one; n reaches the length count exactly with a confirmed final. A press is taken to be
recognised one count after its first sample, as R38 times it; a sender that leaves samples out is outside this (log entry
21). -/
def Obligations.LaneRecordsAreKept : Prop :=
  (∀ s t : State, s.JudgementsOrdered → step s = .next t → t.JudgementsOrdered)
  ∧ ∀ s t : State, s.WallsFit → s.PressTimely → step s = .next t → t.WallsFit

/-- After every step the result order and the places are those R135 gives for the lane contexts, no lane being FINISHED
before the start; and the display row map is the one R169 gives for the order mode, the race state and the result order. -/
def Obligations.ResultsAndMapAreKept : Prop :=
  (∀ s t : State, s.ResultsFit → step s = .next t → t.ResultsFit)
  ∧ ∀ s t : State, s.MapFits → step s = .next t → t.MapFits
end

