-- ==== Sys2Proof/Laws/State.lean ====
section
/-! SUPPORT. One lemma per field and per update of State, and of its smaller records, each true by rfl. -/

namespace Sys2Proof.Machine

/-! ### onLink -/

@[simp] theorem State.onLink_pending (s : State) (f : Link → Link) : (s.onLink f).pending = s.pending := rfl
@[simp] theorem State.onLink_resetHeld (s : State) (f : Link → Link) : (s.onLink f).resetHeld = s.resetHeld := rfl
@[simp] theorem State.onLink_program (s : State) (f : Link → Link) : (s.onLink f).program = s.program := rfl
@[simp] theorem State.onLink_race (s : State) (f : Link → Link) : (s.onLink f).race = s.race := rfl
@[simp] theorem State.onLink_source (s : State) (f : Link → Link) : (s.onLink f).source = s.source := rfl
@[simp] theorem State.onLink_overrun (s : State) (f : Link → Link) : (s.onLink f).overrun = s.overrun := rfl
@[simp] theorem State.onLink_startMark (s : State) (f : Link → Link) : (s.onLink f).startMark = s.startMark := rfl
@[simp] theorem State.onLink_clock (s : State) (f : Link → Link) : (s.onLink f).clock = s.clock := rfl
@[simp] theorem State.onLink_ports (s : State) (f : Link → Link) : (s.onLink f).ports = s.ports := rfl
@[simp] theorem State.onLink_samplers (s : State) (f : Link → Link) : (s.onLink f).samplers = s.samplers := rfl
@[simp] theorem State.onLink_zeroing (s : State) (f : Link → Link) : (s.onLink f).zeroing = s.zeroing := rfl
@[simp] theorem State.onLink_takeoffs (s : State) (f : Link → Link) : (s.onLink f).takeoffs = s.takeoffs := rfl
@[simp] theorem State.onLink_lanes (s : State) (f : Link → Link) : (s.onLink f).lanes = s.lanes := rfl
@[simp] theorem State.onLink_results (s : State) (f : Link → Link) : (s.onLink f).results = s.results := rfl
@[simp] theorem State.onLink_log (s : State) (f : Link → Link) : (s.onLink f).log = s.log := rfl
@[simp] theorem State.onLink_board (s : State) (f : Link → Link) : (s.onLink f).board = s.board := rfl
@[simp] theorem State.onLink_link (s : State) (f : Link → Link) : (s.onLink f).link = f s.link := rfl

/-! ### onBoard -/

@[simp] theorem State.onBoard_pending (s : State) (f : Board → Board) : (s.onBoard f).pending = s.pending := rfl
@[simp] theorem State.onBoard_resetHeld (s : State) (f : Board → Board) : (s.onBoard f).resetHeld = s.resetHeld := rfl
@[simp] theorem State.onBoard_program (s : State) (f : Board → Board) : (s.onBoard f).program = s.program := rfl
@[simp] theorem State.onBoard_race (s : State) (f : Board → Board) : (s.onBoard f).race = s.race := rfl
@[simp] theorem State.onBoard_source (s : State) (f : Board → Board) : (s.onBoard f).source = s.source := rfl
@[simp] theorem State.onBoard_overrun (s : State) (f : Board → Board) : (s.onBoard f).overrun = s.overrun := rfl
@[simp] theorem State.onBoard_startMark (s : State) (f : Board → Board) : (s.onBoard f).startMark = s.startMark := rfl
@[simp] theorem State.onBoard_clock (s : State) (f : Board → Board) : (s.onBoard f).clock = s.clock := rfl
@[simp] theorem State.onBoard_ports (s : State) (f : Board → Board) : (s.onBoard f).ports = s.ports := rfl
@[simp] theorem State.onBoard_samplers (s : State) (f : Board → Board) : (s.onBoard f).samplers = s.samplers := rfl
@[simp] theorem State.onBoard_zeroing (s : State) (f : Board → Board) : (s.onBoard f).zeroing = s.zeroing := rfl
@[simp] theorem State.onBoard_takeoffs (s : State) (f : Board → Board) : (s.onBoard f).takeoffs = s.takeoffs := rfl
@[simp] theorem State.onBoard_lanes (s : State) (f : Board → Board) : (s.onBoard f).lanes = s.lanes := rfl
@[simp] theorem State.onBoard_results (s : State) (f : Board → Board) : (s.onBoard f).results = s.results := rfl
@[simp] theorem State.onBoard_log (s : State) (f : Board → Board) : (s.onBoard f).log = s.log := rfl
@[simp] theorem State.onBoard_board (s : State) (f : Board → Board) : (s.onBoard f).board = f s.board := rfl
@[simp] theorem State.onBoard_link (s : State) (f : Board → Board) : (s.onBoard f).link = s.link := rfl

/-! ### onPorts -/

@[simp] theorem State.onPorts_pending (s : State) (f : Ports → Ports) : (s.onPorts f).pending = s.pending := rfl
@[simp] theorem State.onPorts_resetHeld (s : State) (f : Ports → Ports) : (s.onPorts f).resetHeld = s.resetHeld := rfl
@[simp] theorem State.onPorts_program (s : State) (f : Ports → Ports) : (s.onPorts f).program = s.program := rfl
@[simp] theorem State.onPorts_race (s : State) (f : Ports → Ports) : (s.onPorts f).race = s.race := rfl
@[simp] theorem State.onPorts_source (s : State) (f : Ports → Ports) : (s.onPorts f).source = s.source := rfl
@[simp] theorem State.onPorts_overrun (s : State) (f : Ports → Ports) : (s.onPorts f).overrun = s.overrun := rfl
@[simp] theorem State.onPorts_startMark (s : State) (f : Ports → Ports) : (s.onPorts f).startMark = s.startMark := rfl
@[simp] theorem State.onPorts_clock (s : State) (f : Ports → Ports) : (s.onPorts f).clock = s.clock := rfl
@[simp] theorem State.onPorts_ports (s : State) (f : Ports → Ports) : (s.onPorts f).ports = f s.ports := rfl
@[simp] theorem State.onPorts_samplers (s : State) (f : Ports → Ports) : (s.onPorts f).samplers = s.samplers := rfl
@[simp] theorem State.onPorts_zeroing (s : State) (f : Ports → Ports) : (s.onPorts f).zeroing = s.zeroing := rfl
@[simp] theorem State.onPorts_takeoffs (s : State) (f : Ports → Ports) : (s.onPorts f).takeoffs = s.takeoffs := rfl
@[simp] theorem State.onPorts_lanes (s : State) (f : Ports → Ports) : (s.onPorts f).lanes = s.lanes := rfl
@[simp] theorem State.onPorts_results (s : State) (f : Ports → Ports) : (s.onPorts f).results = s.results := rfl
@[simp] theorem State.onPorts_log (s : State) (f : Ports → Ports) : (s.onPorts f).log = s.log := rfl
@[simp] theorem State.onPorts_board (s : State) (f : Ports → Ports) : (s.onPorts f).board = s.board := rfl
@[simp] theorem State.onPorts_link (s : State) (f : Ports → Ports) : (s.onPorts f).link = s.link := rfl

/-! ### onSampler -/

@[simp] theorem State.onSampler_pending (s : State) (side : PoolEnd) (f : Sampler → Sampler) : (s.onSampler side f).pending = s.pending := rfl
@[simp] theorem State.onSampler_resetHeld (s : State) (side : PoolEnd) (f : Sampler → Sampler) : (s.onSampler side f).resetHeld = s.resetHeld := rfl
@[simp] theorem State.onSampler_program (s : State) (side : PoolEnd) (f : Sampler → Sampler) : (s.onSampler side f).program = s.program := rfl
@[simp] theorem State.onSampler_race (s : State) (side : PoolEnd) (f : Sampler → Sampler) : (s.onSampler side f).race = s.race := rfl
@[simp] theorem State.onSampler_source (s : State) (side : PoolEnd) (f : Sampler → Sampler) : (s.onSampler side f).source = s.source := rfl
@[simp] theorem State.onSampler_overrun (s : State) (side : PoolEnd) (f : Sampler → Sampler) : (s.onSampler side f).overrun = s.overrun := rfl
@[simp] theorem State.onSampler_startMark (s : State) (side : PoolEnd) (f : Sampler → Sampler) : (s.onSampler side f).startMark = s.startMark := rfl
@[simp] theorem State.onSampler_clock (s : State) (side : PoolEnd) (f : Sampler → Sampler) : (s.onSampler side f).clock = s.clock := rfl
@[simp] theorem State.onSampler_ports (s : State) (side : PoolEnd) (f : Sampler → Sampler) : (s.onSampler side f).ports = s.ports := rfl
@[simp] theorem State.onSampler_samplers (s : State) (side : PoolEnd) (f : Sampler → Sampler) : (s.onSampler side f).samplers = s.samplers.set side (f (s.samplers.get side)) := rfl
@[simp] theorem State.onSampler_zeroing (s : State) (side : PoolEnd) (f : Sampler → Sampler) : (s.onSampler side f).zeroing = s.zeroing := rfl
@[simp] theorem State.onSampler_takeoffs (s : State) (side : PoolEnd) (f : Sampler → Sampler) : (s.onSampler side f).takeoffs = s.takeoffs := rfl
@[simp] theorem State.onSampler_lanes (s : State) (side : PoolEnd) (f : Sampler → Sampler) : (s.onSampler side f).lanes = s.lanes := rfl
@[simp] theorem State.onSampler_results (s : State) (side : PoolEnd) (f : Sampler → Sampler) : (s.onSampler side f).results = s.results := rfl
@[simp] theorem State.onSampler_log (s : State) (side : PoolEnd) (f : Sampler → Sampler) : (s.onSampler side f).log = s.log := rfl
@[simp] theorem State.onSampler_board (s : State) (side : PoolEnd) (f : Sampler → Sampler) : (s.onSampler side f).board = s.board := rfl
@[simp] theorem State.onSampler_link (s : State) (side : PoolEnd) (f : Sampler → Sampler) : (s.onSampler side f).link = s.link := rfl

/-! ### setLane -/

@[simp] theorem State.setLane_pending (s : State) (l : Lane) (c : LaneContext) : (s.setLane l c).pending = s.pending := rfl
@[simp] theorem State.setLane_resetHeld (s : State) (l : Lane) (c : LaneContext) : (s.setLane l c).resetHeld = s.resetHeld := rfl
@[simp] theorem State.setLane_program (s : State) (l : Lane) (c : LaneContext) : (s.setLane l c).program = s.program := rfl
@[simp] theorem State.setLane_race (s : State) (l : Lane) (c : LaneContext) : (s.setLane l c).race = s.race := rfl
@[simp] theorem State.setLane_source (s : State) (l : Lane) (c : LaneContext) : (s.setLane l c).source = s.source := rfl
@[simp] theorem State.setLane_overrun (s : State) (l : Lane) (c : LaneContext) : (s.setLane l c).overrun = s.overrun := rfl
@[simp] theorem State.setLane_startMark (s : State) (l : Lane) (c : LaneContext) : (s.setLane l c).startMark = s.startMark := rfl
@[simp] theorem State.setLane_clock (s : State) (l : Lane) (c : LaneContext) : (s.setLane l c).clock = s.clock := rfl
@[simp] theorem State.setLane_ports (s : State) (l : Lane) (c : LaneContext) : (s.setLane l c).ports = s.ports := rfl
@[simp] theorem State.setLane_samplers (s : State) (l : Lane) (c : LaneContext) : (s.setLane l c).samplers = s.samplers := rfl
@[simp] theorem State.setLane_zeroing (s : State) (l : Lane) (c : LaneContext) : (s.setLane l c).zeroing = s.zeroing := rfl
@[simp] theorem State.setLane_takeoffs (s : State) (l : Lane) (c : LaneContext) : (s.setLane l c).takeoffs = s.takeoffs := rfl
@[simp] theorem State.setLane_lanes (s : State) (l : Lane) (c : LaneContext) : (s.setLane l c).lanes = s.lanes.set l c := rfl
@[simp] theorem State.setLane_results (s : State) (l : Lane) (c : LaneContext) : (s.setLane l c).results = s.results := rfl
@[simp] theorem State.setLane_log (s : State) (l : Lane) (c : LaneContext) : (s.setLane l c).log = s.log := rfl
@[simp] theorem State.setLane_board (s : State) (l : Lane) (c : LaneContext) : (s.setLane l c).board = s.board := rfl
@[simp] theorem State.setLane_link (s : State) (l : Lane) (c : LaneContext) : (s.setLane l c).link = s.link := rfl

/-! ### mapLanes -/

@[simp] theorem State.mapLanes_pending (s : State) (f : Lane → LaneContext → LaneContext) : (s.mapLanes f).pending = s.pending := rfl
@[simp] theorem State.mapLanes_resetHeld (s : State) (f : Lane → LaneContext → LaneContext) : (s.mapLanes f).resetHeld = s.resetHeld := rfl
@[simp] theorem State.mapLanes_program (s : State) (f : Lane → LaneContext → LaneContext) : (s.mapLanes f).program = s.program := rfl
@[simp] theorem State.mapLanes_race (s : State) (f : Lane → LaneContext → LaneContext) : (s.mapLanes f).race = s.race := rfl
@[simp] theorem State.mapLanes_source (s : State) (f : Lane → LaneContext → LaneContext) : (s.mapLanes f).source = s.source := rfl
@[simp] theorem State.mapLanes_overrun (s : State) (f : Lane → LaneContext → LaneContext) : (s.mapLanes f).overrun = s.overrun := rfl
@[simp] theorem State.mapLanes_startMark (s : State) (f : Lane → LaneContext → LaneContext) : (s.mapLanes f).startMark = s.startMark := rfl
@[simp] theorem State.mapLanes_clock (s : State) (f : Lane → LaneContext → LaneContext) : (s.mapLanes f).clock = s.clock := rfl
@[simp] theorem State.mapLanes_ports (s : State) (f : Lane → LaneContext → LaneContext) : (s.mapLanes f).ports = s.ports := rfl
@[simp] theorem State.mapLanes_samplers (s : State) (f : Lane → LaneContext → LaneContext) : (s.mapLanes f).samplers = s.samplers := rfl
@[simp] theorem State.mapLanes_zeroing (s : State) (f : Lane → LaneContext → LaneContext) : (s.mapLanes f).zeroing = s.zeroing := rfl
@[simp] theorem State.mapLanes_takeoffs (s : State) (f : Lane → LaneContext → LaneContext) : (s.mapLanes f).takeoffs = s.takeoffs := rfl
@[simp] theorem State.mapLanes_lanes (s : State) (f : Lane → LaneContext → LaneContext) : (s.mapLanes f).lanes = Vector.ofFn fun l => f l s.lanes[l] := rfl
@[simp] theorem State.mapLanes_results (s : State) (f : Lane → LaneContext → LaneContext) : (s.mapLanes f).results = s.results := rfl
@[simp] theorem State.mapLanes_log (s : State) (f : Lane → LaneContext → LaneContext) : (s.mapLanes f).log = s.log := rfl
@[simp] theorem State.mapLanes_board (s : State) (f : Lane → LaneContext → LaneContext) : (s.mapLanes f).board = s.board := rfl
@[simp] theorem State.mapLanes_link (s : State) (f : Lane → LaneContext → LaneContext) : (s.mapLanes f).link = s.link := rfl

/-! ### setChannel -/

@[simp] theorem State.setChannel_pending (s : State) (side : PoolEnd) (l : Lane) (c : Channel) : (s.setChannel side l c).pending = s.pending := rfl
@[simp] theorem State.setChannel_resetHeld (s : State) (side : PoolEnd) (l : Lane) (c : Channel) : (s.setChannel side l c).resetHeld = s.resetHeld := rfl
@[simp] theorem State.setChannel_program (s : State) (side : PoolEnd) (l : Lane) (c : Channel) : (s.setChannel side l c).program = s.program := rfl
@[simp] theorem State.setChannel_race (s : State) (side : PoolEnd) (l : Lane) (c : Channel) : (s.setChannel side l c).race = s.race := rfl
@[simp] theorem State.setChannel_source (s : State) (side : PoolEnd) (l : Lane) (c : Channel) : (s.setChannel side l c).source = s.source := rfl
@[simp] theorem State.setChannel_overrun (s : State) (side : PoolEnd) (l : Lane) (c : Channel) : (s.setChannel side l c).overrun = s.overrun := rfl
@[simp] theorem State.setChannel_startMark (s : State) (side : PoolEnd) (l : Lane) (c : Channel) : (s.setChannel side l c).startMark = s.startMark := rfl
@[simp] theorem State.setChannel_clock (s : State) (side : PoolEnd) (l : Lane) (c : Channel) : (s.setChannel side l c).clock = s.clock := rfl
@[simp] theorem State.setChannel_ports (s : State) (side : PoolEnd) (l : Lane) (c : Channel) : (s.setChannel side l c).ports = s.ports := rfl
@[simp] theorem State.setChannel_zeroing (s : State) (side : PoolEnd) (l : Lane) (c : Channel) : (s.setChannel side l c).zeroing = s.zeroing := rfl
@[simp] theorem State.setChannel_takeoffs (s : State) (side : PoolEnd) (l : Lane) (c : Channel) : (s.setChannel side l c).takeoffs = s.takeoffs := rfl
@[simp] theorem State.setChannel_lanes (s : State) (side : PoolEnd) (l : Lane) (c : Channel) : (s.setChannel side l c).lanes = s.lanes := rfl
@[simp] theorem State.setChannel_results (s : State) (side : PoolEnd) (l : Lane) (c : Channel) : (s.setChannel side l c).results = s.results := rfl
@[simp] theorem State.setChannel_log (s : State) (side : PoolEnd) (l : Lane) (c : Channel) : (s.setChannel side l c).log = s.log := rfl
@[simp] theorem State.setChannel_board (s : State) (side : PoolEnd) (l : Lane) (c : Channel) : (s.setChannel side l c).board = s.board := rfl
@[simp] theorem State.setChannel_link (s : State) (side : PoolEnd) (l : Lane) (c : Channel) : (s.setChannel side l c).link = s.link := rfl

/-! ### setLaneEnd -/

@[simp] theorem State.setLaneEnd_pending (s : State) (l : Lane) (side : PoolEnd) (e : LaneEnd) : (s.setLaneEnd l side e).pending = s.pending := rfl
@[simp] theorem State.setLaneEnd_resetHeld (s : State) (l : Lane) (side : PoolEnd) (e : LaneEnd) : (s.setLaneEnd l side e).resetHeld = s.resetHeld := rfl
@[simp] theorem State.setLaneEnd_program (s : State) (l : Lane) (side : PoolEnd) (e : LaneEnd) : (s.setLaneEnd l side e).program = s.program := rfl
@[simp] theorem State.setLaneEnd_race (s : State) (l : Lane) (side : PoolEnd) (e : LaneEnd) : (s.setLaneEnd l side e).race = s.race := rfl
@[simp] theorem State.setLaneEnd_source (s : State) (l : Lane) (side : PoolEnd) (e : LaneEnd) : (s.setLaneEnd l side e).source = s.source := rfl
@[simp] theorem State.setLaneEnd_overrun (s : State) (l : Lane) (side : PoolEnd) (e : LaneEnd) : (s.setLaneEnd l side e).overrun = s.overrun := rfl
@[simp] theorem State.setLaneEnd_startMark (s : State) (l : Lane) (side : PoolEnd) (e : LaneEnd) : (s.setLaneEnd l side e).startMark = s.startMark := rfl
@[simp] theorem State.setLaneEnd_clock (s : State) (l : Lane) (side : PoolEnd) (e : LaneEnd) : (s.setLaneEnd l side e).clock = s.clock := rfl
@[simp] theorem State.setLaneEnd_ports (s : State) (l : Lane) (side : PoolEnd) (e : LaneEnd) : (s.setLaneEnd l side e).ports = s.ports.setLaneEnd l side e := rfl
@[simp] theorem State.setLaneEnd_samplers (s : State) (l : Lane) (side : PoolEnd) (e : LaneEnd) : (s.setLaneEnd l side e).samplers = s.samplers := rfl
@[simp] theorem State.setLaneEnd_zeroing (s : State) (l : Lane) (side : PoolEnd) (e : LaneEnd) : (s.setLaneEnd l side e).zeroing = s.zeroing := rfl
@[simp] theorem State.setLaneEnd_takeoffs (s : State) (l : Lane) (side : PoolEnd) (e : LaneEnd) : (s.setLaneEnd l side e).takeoffs = s.takeoffs := rfl
@[simp] theorem State.setLaneEnd_lanes (s : State) (l : Lane) (side : PoolEnd) (e : LaneEnd) : (s.setLaneEnd l side e).lanes = s.lanes := rfl
@[simp] theorem State.setLaneEnd_results (s : State) (l : Lane) (side : PoolEnd) (e : LaneEnd) : (s.setLaneEnd l side e).results = s.results := rfl
@[simp] theorem State.setLaneEnd_log (s : State) (l : Lane) (side : PoolEnd) (e : LaneEnd) : (s.setLaneEnd l side e).log = s.log := rfl
@[simp] theorem State.setLaneEnd_board (s : State) (l : Lane) (side : PoolEnd) (e : LaneEnd) : (s.setLaneEnd l side e).board = s.board := rfl
@[simp] theorem State.setLaneEnd_link (s : State) (l : Lane) (side : PoolEnd) (e : LaneEnd) : (s.setLaneEnd l side e).link = s.link := rfl

/-! ### setWatch -/

@[simp] theorem State.setWatch_pending (s : State) (side : PoolEnd) (l : Lane) (leg : Option Nat) : (s.setWatch side l leg).pending = s.pending := rfl
@[simp] theorem State.setWatch_resetHeld (s : State) (side : PoolEnd) (l : Lane) (leg : Option Nat) : (s.setWatch side l leg).resetHeld = s.resetHeld := rfl
@[simp] theorem State.setWatch_program (s : State) (side : PoolEnd) (l : Lane) (leg : Option Nat) : (s.setWatch side l leg).program = s.program := rfl
@[simp] theorem State.setWatch_race (s : State) (side : PoolEnd) (l : Lane) (leg : Option Nat) : (s.setWatch side l leg).race = s.race := rfl
@[simp] theorem State.setWatch_source (s : State) (side : PoolEnd) (l : Lane) (leg : Option Nat) : (s.setWatch side l leg).source = s.source := rfl
@[simp] theorem State.setWatch_overrun (s : State) (side : PoolEnd) (l : Lane) (leg : Option Nat) : (s.setWatch side l leg).overrun = s.overrun := rfl
@[simp] theorem State.setWatch_startMark (s : State) (side : PoolEnd) (l : Lane) (leg : Option Nat) : (s.setWatch side l leg).startMark = s.startMark := rfl
@[simp] theorem State.setWatch_clock (s : State) (side : PoolEnd) (l : Lane) (leg : Option Nat) : (s.setWatch side l leg).clock = s.clock := rfl
@[simp] theorem State.setWatch_ports (s : State) (side : PoolEnd) (l : Lane) (leg : Option Nat) : (s.setWatch side l leg).ports = s.ports := rfl
@[simp] theorem State.setWatch_zeroing (s : State) (side : PoolEnd) (l : Lane) (leg : Option Nat) : (s.setWatch side l leg).zeroing = s.zeroing := rfl
@[simp] theorem State.setWatch_takeoffs (s : State) (side : PoolEnd) (l : Lane) (leg : Option Nat) : (s.setWatch side l leg).takeoffs = s.takeoffs := rfl
@[simp] theorem State.setWatch_lanes (s : State) (side : PoolEnd) (l : Lane) (leg : Option Nat) : (s.setWatch side l leg).lanes = s.lanes := rfl
@[simp] theorem State.setWatch_results (s : State) (side : PoolEnd) (l : Lane) (leg : Option Nat) : (s.setWatch side l leg).results = s.results := rfl
@[simp] theorem State.setWatch_log (s : State) (side : PoolEnd) (l : Lane) (leg : Option Nat) : (s.setWatch side l leg).log = s.log := rfl
@[simp] theorem State.setWatch_board (s : State) (side : PoolEnd) (l : Lane) (leg : Option Nat) : (s.setWatch side l leg).board = s.board := rfl
@[simp] theorem State.setWatch_link (s : State) (side : PoolEnd) (l : Lane) (leg : Option Nat) : (s.setWatch side l leg).link = s.link := rfl

/-! ### endWatches -/

@[simp] theorem State.endWatches_pending (s : State) : (s.endWatches).pending = s.pending := rfl
@[simp] theorem State.endWatches_resetHeld (s : State) : (s.endWatches).resetHeld = s.resetHeld := rfl
@[simp] theorem State.endWatches_program (s : State) : (s.endWatches).program = s.program := rfl
@[simp] theorem State.endWatches_race (s : State) : (s.endWatches).race = s.race := rfl
@[simp] theorem State.endWatches_source (s : State) : (s.endWatches).source = s.source := rfl
@[simp] theorem State.endWatches_overrun (s : State) : (s.endWatches).overrun = s.overrun := rfl
@[simp] theorem State.endWatches_startMark (s : State) : (s.endWatches).startMark = s.startMark := rfl
@[simp] theorem State.endWatches_clock (s : State) : (s.endWatches).clock = s.clock := rfl
@[simp] theorem State.endWatches_ports (s : State) : (s.endWatches).ports = s.ports := rfl
@[simp] theorem State.endWatches_zeroing (s : State) : (s.endWatches).zeroing = s.zeroing := rfl
@[simp] theorem State.endWatches_takeoffs (s : State) : (s.endWatches).takeoffs = s.takeoffs := rfl
@[simp] theorem State.endWatches_lanes (s : State) : (s.endWatches).lanes = s.lanes := rfl
@[simp] theorem State.endWatches_results (s : State) : (s.endWatches).results = s.results := rfl
@[simp] theorem State.endWatches_log (s : State) : (s.endWatches).log = s.log := rfl
@[simp] theorem State.endWatches_board (s : State) : (s.endWatches).board = s.board := rfl
@[simp] theorem State.endWatches_link (s : State) : (s.endWatches).link = s.link := rfl

/-! ### report -/

@[simp] theorem State.report_pending (s : State) (r : Report) : (s.report r).pending = s.pending := rfl
@[simp] theorem State.report_resetHeld (s : State) (r : Report) : (s.report r).resetHeld = s.resetHeld := rfl
@[simp] theorem State.report_program (s : State) (r : Report) : (s.report r).program = s.program := rfl
@[simp] theorem State.report_race (s : State) (r : Report) : (s.report r).race = s.race := rfl
@[simp] theorem State.report_source (s : State) (r : Report) : (s.report r).source = s.source := rfl
@[simp] theorem State.report_overrun (s : State) (r : Report) : (s.report r).overrun = s.overrun := rfl
@[simp] theorem State.report_startMark (s : State) (r : Report) : (s.report r).startMark = s.startMark := rfl
@[simp] theorem State.report_clock (s : State) (r : Report) : (s.report r).clock = s.clock := rfl
@[simp] theorem State.report_ports (s : State) (r : Report) : (s.report r).ports = s.ports := rfl
@[simp] theorem State.report_samplers (s : State) (r : Report) : (s.report r).samplers = s.samplers := rfl
@[simp] theorem State.report_zeroing (s : State) (r : Report) : (s.report r).zeroing = s.zeroing := rfl
@[simp] theorem State.report_takeoffs (s : State) (r : Report) : (s.report r).takeoffs = s.takeoffs := rfl
@[simp] theorem State.report_lanes (s : State) (r : Report) : (s.report r).lanes = s.lanes := rfl
@[simp] theorem State.report_results (s : State) (r : Report) : (s.report r).results = s.results := rfl
@[simp] theorem State.report_log (s : State) (r : Report) : (s.report r).log = s.log := rfl
@[simp] theorem State.report_board (s : State) (r : Report) : (s.report r).board = s.board := rfl
@[simp] theorem State.report_link (s : State) (r : Report) : (s.report r).link = s.link.report r := rfl

/-! ### answer -/

@[simp] theorem State.answer_pending (s : State) (kind : Byte) (code : ResultCode) (data : List Byte) : (s.answer kind code data).pending = s.pending := rfl
@[simp] theorem State.answer_resetHeld (s : State) (kind : Byte) (code : ResultCode) (data : List Byte) : (s.answer kind code data).resetHeld = s.resetHeld := rfl
@[simp] theorem State.answer_program (s : State) (kind : Byte) (code : ResultCode) (data : List Byte) : (s.answer kind code data).program = s.program := rfl
@[simp] theorem State.answer_race (s : State) (kind : Byte) (code : ResultCode) (data : List Byte) : (s.answer kind code data).race = s.race := rfl
@[simp] theorem State.answer_source (s : State) (kind : Byte) (code : ResultCode) (data : List Byte) : (s.answer kind code data).source = s.source := rfl
@[simp] theorem State.answer_overrun (s : State) (kind : Byte) (code : ResultCode) (data : List Byte) : (s.answer kind code data).overrun = s.overrun := rfl
@[simp] theorem State.answer_startMark (s : State) (kind : Byte) (code : ResultCode) (data : List Byte) : (s.answer kind code data).startMark = s.startMark := rfl
@[simp] theorem State.answer_clock (s : State) (kind : Byte) (code : ResultCode) (data : List Byte) : (s.answer kind code data).clock = s.clock := rfl
@[simp] theorem State.answer_ports (s : State) (kind : Byte) (code : ResultCode) (data : List Byte) : (s.answer kind code data).ports = s.ports := rfl
@[simp] theorem State.answer_samplers (s : State) (kind : Byte) (code : ResultCode) (data : List Byte) : (s.answer kind code data).samplers = s.samplers := rfl
@[simp] theorem State.answer_zeroing (s : State) (kind : Byte) (code : ResultCode) (data : List Byte) : (s.answer kind code data).zeroing = s.zeroing := rfl
@[simp] theorem State.answer_takeoffs (s : State) (kind : Byte) (code : ResultCode) (data : List Byte) : (s.answer kind code data).takeoffs = s.takeoffs := rfl
@[simp] theorem State.answer_lanes (s : State) (kind : Byte) (code : ResultCode) (data : List Byte) : (s.answer kind code data).lanes = s.lanes := rfl
@[simp] theorem State.answer_results (s : State) (kind : Byte) (code : ResultCode) (data : List Byte) : (s.answer kind code data).results = s.results := rfl
@[simp] theorem State.answer_log (s : State) (kind : Byte) (code : ResultCode) (data : List Byte) : (s.answer kind code data).log = s.log := rfl
@[simp] theorem State.answer_board (s : State) (kind : Byte) (code : ResultCode) (data : List Byte) : (s.answer kind code data).board = s.board := rfl
@[simp] theorem State.answer_link (s : State) (kind : Byte) (code : ResultCode) (data : List Byte) : (s.answer kind code data).link = { s.link with slot := .holding ⟨kind, code, data⟩ } := rfl

/-! ### dropInbound -/

@[simp] theorem State.dropInbound_pending (s : State) : (s.dropInbound).pending = s.pending := rfl
@[simp] theorem State.dropInbound_resetHeld (s : State) : (s.dropInbound).resetHeld = s.resetHeld := rfl
@[simp] theorem State.dropInbound_program (s : State) : (s.dropInbound).program = s.program := rfl
@[simp] theorem State.dropInbound_race (s : State) : (s.dropInbound).race = s.race := rfl
@[simp] theorem State.dropInbound_source (s : State) : (s.dropInbound).source = s.source := rfl
@[simp] theorem State.dropInbound_overrun (s : State) : (s.dropInbound).overrun = s.overrun := rfl
@[simp] theorem State.dropInbound_startMark (s : State) : (s.dropInbound).startMark = s.startMark := rfl
@[simp] theorem State.dropInbound_clock (s : State) : (s.dropInbound).clock = s.clock := rfl
@[simp] theorem State.dropInbound_ports (s : State) : (s.dropInbound).ports = s.ports := rfl
@[simp] theorem State.dropInbound_samplers (s : State) : (s.dropInbound).samplers = s.samplers := rfl
@[simp] theorem State.dropInbound_zeroing (s : State) : (s.dropInbound).zeroing = s.zeroing := rfl
@[simp] theorem State.dropInbound_takeoffs (s : State) : (s.dropInbound).takeoffs = s.takeoffs := rfl
@[simp] theorem State.dropInbound_lanes (s : State) : (s.dropInbound).lanes = s.lanes := rfl
@[simp] theorem State.dropInbound_results (s : State) : (s.dropInbound).results = s.results := rfl
@[simp] theorem State.dropInbound_log (s : State) : (s.dropInbound).log = s.log := rfl
@[simp] theorem State.dropInbound_board (s : State) : (s.dropInbound).board = s.board := rfl
@[simp] theorem State.dropInbound_link (s : State) : (s.dropInbound).link = { s.link with inbound := s.link.inbound.tail } := rfl

/-! ### The halves of a pair -/

@[simp] theorem Ends.get_set_same {α : Type} (e : Ends α) (side : PoolEnd) (x : α) : (e.set side x).get side = x := by
  cases side <;> rfl

theorem Ends.get_set_other {α : Type} (e : Ends α) {side other : PoolEnd} (x : α) (h : side ≠ other) :
    (e.set side x).get other = e.get other := by
  cases side <;> cases other <;> first | rfl | exact absurd rfl h

@[simp] theorem Ends.set_get {α : Type} (e : Ends α) (side : PoolEnd) : e.set side (e.get side) = e := by
  cases side <;> rfl

/-! ### The Console Link -/

@[simp] theorem Link.report_speed (k : Link) (r : Report) : (k.report r).speed = k.speed := rfl
@[simp] theorem Link.report_enables (k : Link) (r : Report) : (k.report r).enables = k.enables := rfl
@[simp] theorem Link.report_rx (k : Link) (r : Report) : (k.report r).rx = k.rx := rfl
@[simp] theorem Link.report_inbound (k : Link) (r : Report) : (k.report r).inbound = k.inbound := rfl
@[simp] theorem Link.report_slot (k : Link) (r : Report) : (k.report r).slot = k.slot := rfl
@[simp] theorem Link.report_line (k : Link) (r : Report) : (k.report r).line = k.line := rfl
@[simp] theorem Link.report_checkFail (k : Link) (r : Report) : (k.report r).checkFail = k.checkFail := rfl
@[simp] theorem Link.report_overrunCount (k : Link) (r : Report) : (k.report r).overrunCount = k.overrunCount := rfl
@[simp] theorem Link.report_effect (k : Link) (r : Report) : (k.report r).effect = k.effect := rfl
@[simp] theorem Link.report_effectDue (k : Link) (r : Report) : (k.report r).effectDue = k.effectDue := rfl
@[simp] theorem Link.report_choices (k : Link) (r : Report) : (k.report r).choices = k.choices := rfl

/-! ### Contexts and channels after an update -/

@[simp] theorem State.context_setLane_same (s : State) (l : Lane) (c : LaneContext) : (s.setLane l c).context l = c := by
  simp [State.context, State.setLane]

theorem State.context_setLane_other (s : State) {l m : Lane} (c : LaneContext) (h : l ≠ m) :
    (s.setLane l c).context m = s.context m := by
  have : (l : Nat) ≠ m := fun e => h (Fin.ext e)
  simp [State.context, State.setLane, this]

@[simp] theorem State.context_mapLanes (s : State) (f : Lane → LaneContext → LaneContext) (l : Lane) :
    (s.mapLanes f).context l = f l (s.context l) := by
  simp [State.context, State.mapLanes]

@[simp] theorem State.channel_setChannel_same (s : State) (side : PoolEnd) (l : Lane) (c : Channel) :
    (s.setChannel side l c).channel side l = c := by
  simp [State.channel, State.sampler, State.setChannel]

@[simp] theorem State.laneEnd_setLaneEnd_same (s : State) (l : Lane) (side : PoolEnd) (e : LaneEnd) :
    (s.setLaneEnd l side e).ports.laneEnd l side = e := by
  simp [Ports.laneEnd, Ports.setLaneEnd]

theorem State.laneEnd_setLaneEnd_other (s : State) {l m : Lane} {side other : PoolEnd} (e : LaneEnd)
    (h : l ≠ m ∨ side ≠ other) : (s.setLaneEnd l side e).ports.laneEnd m other = s.ports.laneEnd m other := by
  by_cases hl : l = m
  · subst hl
    have hs : side ≠ other := by simpa using h
    simp [Ports.laneEnd, Ports.setLaneEnd, Ends.get_set_other _ _ hs]
  · have : (l : Nat) ≠ m := fun e => hl (Fin.ext e)
    simp [Ports.laneEnd, Ports.setLaneEnd, this]

end Sys2Proof.Machine
end

