-- ==== Sys2Proof/Laws/Frame.lean ====
section
/-! SUPPORT. Frames: what each shared operation leaves as it was. Relations between a state and its successor, closed
under composition; from a relation every item outside it follows by the lemma named after the item. -/

namespace Sys2Proof.Machine

/-! ### OnlyShown -/

/-- Nothing differs but the cells of board memory, the dirty set and the frame on the chain. -/
def State.OnlyShown (s t : State) : Prop :=
  t =
    { s with
      board := { s.board with cells := t.board.cells, dirty := t.board.dirty, chain := t.board.chain, sinceRow1 := t.board.sinceRow1 } }

theorem State.OnlyShown.refl (s : State) : s.OnlyShown s := rfl

theorem State.OnlyShown.trans {s t u : State} (h : s.OnlyShown t) (k : t.OnlyShown u) : s.OnlyShown u := by
  unfold State.OnlyShown at *
  rw [k, h]

theorem State.OnlyShown.foldl {α : Type} (f : State → α → State) (hf : ∀ (s : State) (a : α), s.OnlyShown (f s a)) (xs : List α)
    (s : State) : s.OnlyShown (xs.foldl f s) := by
  induction xs generalizing s with
  | nil => exact .refl s
  | cons a xs ih => exact (hf s a).trans (ih (f s a))

theorem State.OnlyShown.ite {c : Prop} [Decidable c] {s t u : State} (h : s.OnlyShown t) (k : s.OnlyShown u) :
    s.OnlyShown (if c then t else u) := by
  split
  · exact h
  · exact k

theorem State.OnlyShown.pending {s t : State} (h : s.OnlyShown t) : t.pending = s.pending := by rw [h]
theorem State.OnlyShown.resetHeld {s t : State} (h : s.OnlyShown t) : t.resetHeld = s.resetHeld := by rw [h]
theorem State.OnlyShown.program {s t : State} (h : s.OnlyShown t) : t.program = s.program := by rw [h]
theorem State.OnlyShown.race {s t : State} (h : s.OnlyShown t) : t.race = s.race := by rw [h]
theorem State.OnlyShown.source {s t : State} (h : s.OnlyShown t) : t.source = s.source := by rw [h]
theorem State.OnlyShown.overrun {s t : State} (h : s.OnlyShown t) : t.overrun = s.overrun := by rw [h]
theorem State.OnlyShown.startMark {s t : State} (h : s.OnlyShown t) : t.startMark = s.startMark := by rw [h]
theorem State.OnlyShown.clock {s t : State} (h : s.OnlyShown t) : t.clock = s.clock := by rw [h]
theorem State.OnlyShown.ports {s t : State} (h : s.OnlyShown t) : t.ports = s.ports := by rw [h]
theorem State.OnlyShown.samplers {s t : State} (h : s.OnlyShown t) : t.samplers = s.samplers := by rw [h]
theorem State.OnlyShown.zeroing {s t : State} (h : s.OnlyShown t) : t.zeroing = s.zeroing := by rw [h]
theorem State.OnlyShown.takeoffs {s t : State} (h : s.OnlyShown t) : t.takeoffs = s.takeoffs := by rw [h]
theorem State.OnlyShown.lanes {s t : State} (h : s.OnlyShown t) : t.lanes = s.lanes := by rw [h]
theorem State.OnlyShown.results {s t : State} (h : s.OnlyShown t) : t.results = s.results := by rw [h]
theorem State.OnlyShown.log {s t : State} (h : s.OnlyShown t) : t.log = s.log := by rw [h]
theorem State.OnlyShown.link {s t : State} (h : s.OnlyShown t) : t.link = s.link := by rw [h]
theorem State.OnlyShown.board_area {s t : State} (h : s.OnlyShown t) : t.board.area = s.board.area := by rw [h]
theorem State.OnlyShown.board_cursor {s t : State} (h : s.OnlyShown t) : t.board.cursor = s.board.cursor := by rw [h]
theorem State.OnlyShown.board_window {s t : State} (h : s.OnlyShown t) : t.board.window = s.board.window := by rw [h]
theorem State.OnlyShown.board_locks {s t : State} (h : s.OnlyShown t) : t.board.locks = s.board.locks := by rw [h]
theorem State.OnlyShown.board_clear {s t : State} (h : s.OnlyShown t) : t.board.clear = s.board.clear := by rw [h]
theorem State.OnlyShown.board_layout {s t : State} (h : s.OnlyShown t) : t.board.layout = s.board.layout := by rw [h]
theorem State.OnlyShown.board_freeze {s t : State} (h : s.OnlyShown t) : t.board.freeze = s.board.freeze := by rw [h]
theorem State.OnlyShown.board_spent {s t : State} (h : s.OnlyShown t) : t.board.spent = s.board.spent := by rw [h]
theorem State.OnlyShown.board_map {s t : State} (h : s.OnlyShown t) : t.board.map = s.board.map := by rw [h]
theorem State.OnlyShown.board_mode {s t : State} (h : s.OnlyShown t) : t.board.mode = s.board.mode := by rw [h]
theorem State.OnlyShown.board_modeSlot {s t : State} (h : s.OnlyShown t) : t.board.modeSlot = s.board.modeSlot := by rw [h]
theorem State.OnlyShown.board_moduleSlot {s t : State} (h : s.OnlyShown t) : t.board.moduleSlot = s.board.moduleSlot := by rw [h]
theorem State.OnlyShown.board_rotation {s t : State} (h : s.OnlyShown t) : t.board.rotation = s.board.rotation := by rw [h]

/-! ### OnlyMap -/

/-- Nothing differs but what is shown and the display row map. -/
def State.OnlyMap (s t : State) : Prop :=
  t =
    { s with
      board := { s.board with cells := t.board.cells, dirty := t.board.dirty, chain := t.board.chain, sinceRow1 := t.board.sinceRow1, map := t.board.map } }

theorem State.OnlyMap.refl (s : State) : s.OnlyMap s := rfl

theorem State.OnlyMap.trans {s t u : State} (h : s.OnlyMap t) (k : t.OnlyMap u) : s.OnlyMap u := by
  unfold State.OnlyMap at *
  rw [k, h]

theorem State.OnlyMap.foldl {α : Type} (f : State → α → State) (hf : ∀ (s : State) (a : α), s.OnlyMap (f s a)) (xs : List α)
    (s : State) : s.OnlyMap (xs.foldl f s) := by
  induction xs generalizing s with
  | nil => exact .refl s
  | cons a xs ih => exact (hf s a).trans (ih (f s a))

theorem State.OnlyMap.ite {c : Prop} [Decidable c] {s t u : State} (h : s.OnlyMap t) (k : s.OnlyMap u) :
    s.OnlyMap (if c then t else u) := by
  split
  · exact h
  · exact k

theorem State.OnlyMap.pending {s t : State} (h : s.OnlyMap t) : t.pending = s.pending := by rw [h]
theorem State.OnlyMap.resetHeld {s t : State} (h : s.OnlyMap t) : t.resetHeld = s.resetHeld := by rw [h]
theorem State.OnlyMap.program {s t : State} (h : s.OnlyMap t) : t.program = s.program := by rw [h]
theorem State.OnlyMap.race {s t : State} (h : s.OnlyMap t) : t.race = s.race := by rw [h]
theorem State.OnlyMap.source {s t : State} (h : s.OnlyMap t) : t.source = s.source := by rw [h]
theorem State.OnlyMap.overrun {s t : State} (h : s.OnlyMap t) : t.overrun = s.overrun := by rw [h]
theorem State.OnlyMap.startMark {s t : State} (h : s.OnlyMap t) : t.startMark = s.startMark := by rw [h]
theorem State.OnlyMap.clock {s t : State} (h : s.OnlyMap t) : t.clock = s.clock := by rw [h]
theorem State.OnlyMap.ports {s t : State} (h : s.OnlyMap t) : t.ports = s.ports := by rw [h]
theorem State.OnlyMap.samplers {s t : State} (h : s.OnlyMap t) : t.samplers = s.samplers := by rw [h]
theorem State.OnlyMap.zeroing {s t : State} (h : s.OnlyMap t) : t.zeroing = s.zeroing := by rw [h]
theorem State.OnlyMap.takeoffs {s t : State} (h : s.OnlyMap t) : t.takeoffs = s.takeoffs := by rw [h]
theorem State.OnlyMap.lanes {s t : State} (h : s.OnlyMap t) : t.lanes = s.lanes := by rw [h]
theorem State.OnlyMap.results {s t : State} (h : s.OnlyMap t) : t.results = s.results := by rw [h]
theorem State.OnlyMap.log {s t : State} (h : s.OnlyMap t) : t.log = s.log := by rw [h]
theorem State.OnlyMap.link {s t : State} (h : s.OnlyMap t) : t.link = s.link := by rw [h]
theorem State.OnlyMap.board_area {s t : State} (h : s.OnlyMap t) : t.board.area = s.board.area := by rw [h]
theorem State.OnlyMap.board_cursor {s t : State} (h : s.OnlyMap t) : t.board.cursor = s.board.cursor := by rw [h]
theorem State.OnlyMap.board_window {s t : State} (h : s.OnlyMap t) : t.board.window = s.board.window := by rw [h]
theorem State.OnlyMap.board_locks {s t : State} (h : s.OnlyMap t) : t.board.locks = s.board.locks := by rw [h]
theorem State.OnlyMap.board_clear {s t : State} (h : s.OnlyMap t) : t.board.clear = s.board.clear := by rw [h]
theorem State.OnlyMap.board_layout {s t : State} (h : s.OnlyMap t) : t.board.layout = s.board.layout := by rw [h]
theorem State.OnlyMap.board_freeze {s t : State} (h : s.OnlyMap t) : t.board.freeze = s.board.freeze := by rw [h]
theorem State.OnlyMap.board_spent {s t : State} (h : s.OnlyMap t) : t.board.spent = s.board.spent := by rw [h]
theorem State.OnlyMap.board_mode {s t : State} (h : s.OnlyMap t) : t.board.mode = s.board.mode := by rw [h]
theorem State.OnlyMap.board_modeSlot {s t : State} (h : s.OnlyMap t) : t.board.modeSlot = s.board.modeSlot := by rw [h]
theorem State.OnlyMap.board_moduleSlot {s t : State} (h : s.OnlyMap t) : t.board.moduleSlot = s.board.moduleSlot := by rw [h]
theorem State.OnlyMap.board_rotation {s t : State} (h : s.OnlyMap t) : t.board.rotation = s.board.rotation := by rw [h]

/-! ### OnlyFreeze -/

/-- Nothing differs but what is shown, the freeze and its spent flag. -/
def State.OnlyFreeze (s t : State) : Prop :=
  t =
    { s with
      board := { s.board with cells := t.board.cells, dirty := t.board.dirty, chain := t.board.chain, sinceRow1 := t.board.sinceRow1, freeze := t.board.freeze, spent := t.board.spent } }

theorem State.OnlyFreeze.refl (s : State) : s.OnlyFreeze s := rfl

theorem State.OnlyFreeze.trans {s t u : State} (h : s.OnlyFreeze t) (k : t.OnlyFreeze u) : s.OnlyFreeze u := by
  unfold State.OnlyFreeze at *
  rw [k, h]

theorem State.OnlyFreeze.foldl {α : Type} (f : State → α → State) (hf : ∀ (s : State) (a : α), s.OnlyFreeze (f s a)) (xs : List α)
    (s : State) : s.OnlyFreeze (xs.foldl f s) := by
  induction xs generalizing s with
  | nil => exact .refl s
  | cons a xs ih => exact (hf s a).trans (ih (f s a))

theorem State.OnlyFreeze.ite {c : Prop} [Decidable c] {s t u : State} (h : s.OnlyFreeze t) (k : s.OnlyFreeze u) :
    s.OnlyFreeze (if c then t else u) := by
  split
  · exact h
  · exact k

theorem State.OnlyFreeze.pending {s t : State} (h : s.OnlyFreeze t) : t.pending = s.pending := by rw [h]
theorem State.OnlyFreeze.resetHeld {s t : State} (h : s.OnlyFreeze t) : t.resetHeld = s.resetHeld := by rw [h]
theorem State.OnlyFreeze.program {s t : State} (h : s.OnlyFreeze t) : t.program = s.program := by rw [h]
theorem State.OnlyFreeze.race {s t : State} (h : s.OnlyFreeze t) : t.race = s.race := by rw [h]
theorem State.OnlyFreeze.source {s t : State} (h : s.OnlyFreeze t) : t.source = s.source := by rw [h]
theorem State.OnlyFreeze.overrun {s t : State} (h : s.OnlyFreeze t) : t.overrun = s.overrun := by rw [h]
theorem State.OnlyFreeze.startMark {s t : State} (h : s.OnlyFreeze t) : t.startMark = s.startMark := by rw [h]
theorem State.OnlyFreeze.clock {s t : State} (h : s.OnlyFreeze t) : t.clock = s.clock := by rw [h]
theorem State.OnlyFreeze.ports {s t : State} (h : s.OnlyFreeze t) : t.ports = s.ports := by rw [h]
theorem State.OnlyFreeze.samplers {s t : State} (h : s.OnlyFreeze t) : t.samplers = s.samplers := by rw [h]
theorem State.OnlyFreeze.zeroing {s t : State} (h : s.OnlyFreeze t) : t.zeroing = s.zeroing := by rw [h]
theorem State.OnlyFreeze.takeoffs {s t : State} (h : s.OnlyFreeze t) : t.takeoffs = s.takeoffs := by rw [h]
theorem State.OnlyFreeze.lanes {s t : State} (h : s.OnlyFreeze t) : t.lanes = s.lanes := by rw [h]
theorem State.OnlyFreeze.results {s t : State} (h : s.OnlyFreeze t) : t.results = s.results := by rw [h]
theorem State.OnlyFreeze.log {s t : State} (h : s.OnlyFreeze t) : t.log = s.log := by rw [h]
theorem State.OnlyFreeze.link {s t : State} (h : s.OnlyFreeze t) : t.link = s.link := by rw [h]
theorem State.OnlyFreeze.board_area {s t : State} (h : s.OnlyFreeze t) : t.board.area = s.board.area := by rw [h]
theorem State.OnlyFreeze.board_cursor {s t : State} (h : s.OnlyFreeze t) : t.board.cursor = s.board.cursor := by rw [h]
theorem State.OnlyFreeze.board_window {s t : State} (h : s.OnlyFreeze t) : t.board.window = s.board.window := by rw [h]
theorem State.OnlyFreeze.board_locks {s t : State} (h : s.OnlyFreeze t) : t.board.locks = s.board.locks := by rw [h]
theorem State.OnlyFreeze.board_clear {s t : State} (h : s.OnlyFreeze t) : t.board.clear = s.board.clear := by rw [h]
theorem State.OnlyFreeze.board_layout {s t : State} (h : s.OnlyFreeze t) : t.board.layout = s.board.layout := by rw [h]
theorem State.OnlyFreeze.board_map {s t : State} (h : s.OnlyFreeze t) : t.board.map = s.board.map := by rw [h]
theorem State.OnlyFreeze.board_mode {s t : State} (h : s.OnlyFreeze t) : t.board.mode = s.board.mode := by rw [h]
theorem State.OnlyFreeze.board_modeSlot {s t : State} (h : s.OnlyFreeze t) : t.board.modeSlot = s.board.modeSlot := by rw [h]
theorem State.OnlyFreeze.board_moduleSlot {s t : State} (h : s.OnlyFreeze t) : t.board.moduleSlot = s.board.moduleSlot := by rw [h]
theorem State.OnlyFreeze.board_rotation {s t : State} (h : s.OnlyFreeze t) : t.board.rotation = s.board.rotation := by rw [h]

/-! ### OnlyBoard -/

/-- Nothing differs but what the Board Controller changes at an event of the race. -/
def State.OnlyBoard (s t : State) : Prop :=
  t =
    { s with
      board := { s.board with cells := t.board.cells, dirty := t.board.dirty, chain := t.board.chain, sinceRow1 := t.board.sinceRow1, map := t.board.map, freeze := t.board.freeze, spent := t.board.spent } }

theorem State.OnlyBoard.refl (s : State) : s.OnlyBoard s := rfl

theorem State.OnlyBoard.trans {s t u : State} (h : s.OnlyBoard t) (k : t.OnlyBoard u) : s.OnlyBoard u := by
  unfold State.OnlyBoard at *
  rw [k, h]

theorem State.OnlyBoard.foldl {α : Type} (f : State → α → State) (hf : ∀ (s : State) (a : α), s.OnlyBoard (f s a)) (xs : List α)
    (s : State) : s.OnlyBoard (xs.foldl f s) := by
  induction xs generalizing s with
  | nil => exact .refl s
  | cons a xs ih => exact (hf s a).trans (ih (f s a))

theorem State.OnlyBoard.ite {c : Prop} [Decidable c] {s t u : State} (h : s.OnlyBoard t) (k : s.OnlyBoard u) :
    s.OnlyBoard (if c then t else u) := by
  split
  · exact h
  · exact k

theorem State.OnlyBoard.pending {s t : State} (h : s.OnlyBoard t) : t.pending = s.pending := by rw [h]
theorem State.OnlyBoard.resetHeld {s t : State} (h : s.OnlyBoard t) : t.resetHeld = s.resetHeld := by rw [h]
theorem State.OnlyBoard.program {s t : State} (h : s.OnlyBoard t) : t.program = s.program := by rw [h]
theorem State.OnlyBoard.race {s t : State} (h : s.OnlyBoard t) : t.race = s.race := by rw [h]
theorem State.OnlyBoard.source {s t : State} (h : s.OnlyBoard t) : t.source = s.source := by rw [h]
theorem State.OnlyBoard.overrun {s t : State} (h : s.OnlyBoard t) : t.overrun = s.overrun := by rw [h]
theorem State.OnlyBoard.startMark {s t : State} (h : s.OnlyBoard t) : t.startMark = s.startMark := by rw [h]
theorem State.OnlyBoard.clock {s t : State} (h : s.OnlyBoard t) : t.clock = s.clock := by rw [h]
theorem State.OnlyBoard.ports {s t : State} (h : s.OnlyBoard t) : t.ports = s.ports := by rw [h]
theorem State.OnlyBoard.samplers {s t : State} (h : s.OnlyBoard t) : t.samplers = s.samplers := by rw [h]
theorem State.OnlyBoard.zeroing {s t : State} (h : s.OnlyBoard t) : t.zeroing = s.zeroing := by rw [h]
theorem State.OnlyBoard.takeoffs {s t : State} (h : s.OnlyBoard t) : t.takeoffs = s.takeoffs := by rw [h]
theorem State.OnlyBoard.lanes {s t : State} (h : s.OnlyBoard t) : t.lanes = s.lanes := by rw [h]
theorem State.OnlyBoard.results {s t : State} (h : s.OnlyBoard t) : t.results = s.results := by rw [h]
theorem State.OnlyBoard.log {s t : State} (h : s.OnlyBoard t) : t.log = s.log := by rw [h]
theorem State.OnlyBoard.link {s t : State} (h : s.OnlyBoard t) : t.link = s.link := by rw [h]
theorem State.OnlyBoard.board_area {s t : State} (h : s.OnlyBoard t) : t.board.area = s.board.area := by rw [h]
theorem State.OnlyBoard.board_cursor {s t : State} (h : s.OnlyBoard t) : t.board.cursor = s.board.cursor := by rw [h]
theorem State.OnlyBoard.board_window {s t : State} (h : s.OnlyBoard t) : t.board.window = s.board.window := by rw [h]
theorem State.OnlyBoard.board_locks {s t : State} (h : s.OnlyBoard t) : t.board.locks = s.board.locks := by rw [h]
theorem State.OnlyBoard.board_clear {s t : State} (h : s.OnlyBoard t) : t.board.clear = s.board.clear := by rw [h]
theorem State.OnlyBoard.board_layout {s t : State} (h : s.OnlyBoard t) : t.board.layout = s.board.layout := by rw [h]
theorem State.OnlyBoard.board_mode {s t : State} (h : s.OnlyBoard t) : t.board.mode = s.board.mode := by rw [h]
theorem State.OnlyBoard.board_modeSlot {s t : State} (h : s.OnlyBoard t) : t.board.modeSlot = s.board.modeSlot := by rw [h]
theorem State.OnlyBoard.board_moduleSlot {s t : State} (h : s.OnlyBoard t) : t.board.moduleSlot = s.board.moduleSlot := by rw [h]
theorem State.OnlyBoard.board_rotation {s t : State} (h : s.OnlyBoard t) : t.board.rotation = s.board.rotation := by rw [h]

/-! ### OnlyChain -/

/-- Nothing differs but what the row transmitter's choice can change. -/
def State.OnlyChain (s t : State) : Prop :=
  t =
    { s with
      board := { s.board with dirty := t.board.dirty, chain := t.board.chain, sinceRow1 := t.board.sinceRow1, rotation := t.board.rotation, modeSlot := t.board.modeSlot, moduleSlot := t.board.moduleSlot } }

theorem State.OnlyChain.refl (s : State) : s.OnlyChain s := rfl

theorem State.OnlyChain.trans {s t u : State} (h : s.OnlyChain t) (k : t.OnlyChain u) : s.OnlyChain u := by
  unfold State.OnlyChain at *
  rw [k, h]

theorem State.OnlyChain.foldl {α : Type} (f : State → α → State) (hf : ∀ (s : State) (a : α), s.OnlyChain (f s a)) (xs : List α)
    (s : State) : s.OnlyChain (xs.foldl f s) := by
  induction xs generalizing s with
  | nil => exact .refl s
  | cons a xs ih => exact (hf s a).trans (ih (f s a))

theorem State.OnlyChain.ite {c : Prop} [Decidable c] {s t u : State} (h : s.OnlyChain t) (k : s.OnlyChain u) :
    s.OnlyChain (if c then t else u) := by
  split
  · exact h
  · exact k

theorem State.OnlyChain.pending {s t : State} (h : s.OnlyChain t) : t.pending = s.pending := by rw [h]
theorem State.OnlyChain.resetHeld {s t : State} (h : s.OnlyChain t) : t.resetHeld = s.resetHeld := by rw [h]
theorem State.OnlyChain.program {s t : State} (h : s.OnlyChain t) : t.program = s.program := by rw [h]
theorem State.OnlyChain.race {s t : State} (h : s.OnlyChain t) : t.race = s.race := by rw [h]
theorem State.OnlyChain.source {s t : State} (h : s.OnlyChain t) : t.source = s.source := by rw [h]
theorem State.OnlyChain.overrun {s t : State} (h : s.OnlyChain t) : t.overrun = s.overrun := by rw [h]
theorem State.OnlyChain.startMark {s t : State} (h : s.OnlyChain t) : t.startMark = s.startMark := by rw [h]
theorem State.OnlyChain.clock {s t : State} (h : s.OnlyChain t) : t.clock = s.clock := by rw [h]
theorem State.OnlyChain.ports {s t : State} (h : s.OnlyChain t) : t.ports = s.ports := by rw [h]
theorem State.OnlyChain.samplers {s t : State} (h : s.OnlyChain t) : t.samplers = s.samplers := by rw [h]
theorem State.OnlyChain.zeroing {s t : State} (h : s.OnlyChain t) : t.zeroing = s.zeroing := by rw [h]
theorem State.OnlyChain.takeoffs {s t : State} (h : s.OnlyChain t) : t.takeoffs = s.takeoffs := by rw [h]
theorem State.OnlyChain.lanes {s t : State} (h : s.OnlyChain t) : t.lanes = s.lanes := by rw [h]
theorem State.OnlyChain.results {s t : State} (h : s.OnlyChain t) : t.results = s.results := by rw [h]
theorem State.OnlyChain.log {s t : State} (h : s.OnlyChain t) : t.log = s.log := by rw [h]
theorem State.OnlyChain.link {s t : State} (h : s.OnlyChain t) : t.link = s.link := by rw [h]
theorem State.OnlyChain.board_cells {s t : State} (h : s.OnlyChain t) : t.board.cells = s.board.cells := by rw [h]
theorem State.OnlyChain.board_area {s t : State} (h : s.OnlyChain t) : t.board.area = s.board.area := by rw [h]
theorem State.OnlyChain.board_cursor {s t : State} (h : s.OnlyChain t) : t.board.cursor = s.board.cursor := by rw [h]
theorem State.OnlyChain.board_window {s t : State} (h : s.OnlyChain t) : t.board.window = s.board.window := by rw [h]
theorem State.OnlyChain.board_locks {s t : State} (h : s.OnlyChain t) : t.board.locks = s.board.locks := by rw [h]
theorem State.OnlyChain.board_clear {s t : State} (h : s.OnlyChain t) : t.board.clear = s.board.clear := by rw [h]
theorem State.OnlyChain.board_layout {s t : State} (h : s.OnlyChain t) : t.board.layout = s.board.layout := by rw [h]
theorem State.OnlyChain.board_freeze {s t : State} (h : s.OnlyChain t) : t.board.freeze = s.board.freeze := by rw [h]
theorem State.OnlyChain.board_spent {s t : State} (h : s.OnlyChain t) : t.board.spent = s.board.spent := by rw [h]
theorem State.OnlyChain.board_map {s t : State} (h : s.OnlyChain t) : t.board.map = s.board.map := by rw [h]
theorem State.OnlyChain.board_mode {s t : State} (h : s.OnlyChain t) : t.board.mode = s.board.mode := by rw [h]

/-! ### OnlyReports -/

/-- Nothing differs but the report queue and the summary set. -/
def State.OnlyReports (s t : State) : Prop :=
  t =
    { s with
      link := { s.link with queue := t.link.queue, summary := t.link.summary } }

theorem State.OnlyReports.refl (s : State) : s.OnlyReports s := rfl

theorem State.OnlyReports.trans {s t u : State} (h : s.OnlyReports t) (k : t.OnlyReports u) : s.OnlyReports u := by
  unfold State.OnlyReports at *
  rw [k, h]

theorem State.OnlyReports.foldl {α : Type} (f : State → α → State) (hf : ∀ (s : State) (a : α), s.OnlyReports (f s a)) (xs : List α)
    (s : State) : s.OnlyReports (xs.foldl f s) := by
  induction xs generalizing s with
  | nil => exact .refl s
  | cons a xs ih => exact (hf s a).trans (ih (f s a))

theorem State.OnlyReports.ite {c : Prop} [Decidable c] {s t u : State} (h : s.OnlyReports t) (k : s.OnlyReports u) :
    s.OnlyReports (if c then t else u) := by
  split
  · exact h
  · exact k

theorem State.OnlyReports.pending {s t : State} (h : s.OnlyReports t) : t.pending = s.pending := by rw [h]
theorem State.OnlyReports.resetHeld {s t : State} (h : s.OnlyReports t) : t.resetHeld = s.resetHeld := by rw [h]
theorem State.OnlyReports.program {s t : State} (h : s.OnlyReports t) : t.program = s.program := by rw [h]
theorem State.OnlyReports.race {s t : State} (h : s.OnlyReports t) : t.race = s.race := by rw [h]
theorem State.OnlyReports.source {s t : State} (h : s.OnlyReports t) : t.source = s.source := by rw [h]
theorem State.OnlyReports.overrun {s t : State} (h : s.OnlyReports t) : t.overrun = s.overrun := by rw [h]
theorem State.OnlyReports.startMark {s t : State} (h : s.OnlyReports t) : t.startMark = s.startMark := by rw [h]
theorem State.OnlyReports.clock {s t : State} (h : s.OnlyReports t) : t.clock = s.clock := by rw [h]
theorem State.OnlyReports.ports {s t : State} (h : s.OnlyReports t) : t.ports = s.ports := by rw [h]
theorem State.OnlyReports.samplers {s t : State} (h : s.OnlyReports t) : t.samplers = s.samplers := by rw [h]
theorem State.OnlyReports.zeroing {s t : State} (h : s.OnlyReports t) : t.zeroing = s.zeroing := by rw [h]
theorem State.OnlyReports.takeoffs {s t : State} (h : s.OnlyReports t) : t.takeoffs = s.takeoffs := by rw [h]
theorem State.OnlyReports.lanes {s t : State} (h : s.OnlyReports t) : t.lanes = s.lanes := by rw [h]
theorem State.OnlyReports.results {s t : State} (h : s.OnlyReports t) : t.results = s.results := by rw [h]
theorem State.OnlyReports.log {s t : State} (h : s.OnlyReports t) : t.log = s.log := by rw [h]
theorem State.OnlyReports.board {s t : State} (h : s.OnlyReports t) : t.board = s.board := by rw [h]
theorem State.OnlyReports.link_speed {s t : State} (h : s.OnlyReports t) : t.link.speed = s.link.speed := by rw [h]
theorem State.OnlyReports.link_enables {s t : State} (h : s.OnlyReports t) : t.link.enables = s.link.enables := by rw [h]
theorem State.OnlyReports.link_rx {s t : State} (h : s.OnlyReports t) : t.link.rx = s.link.rx := by rw [h]
theorem State.OnlyReports.link_inbound {s t : State} (h : s.OnlyReports t) : t.link.inbound = s.link.inbound := by rw [h]
theorem State.OnlyReports.link_slot {s t : State} (h : s.OnlyReports t) : t.link.slot = s.link.slot := by rw [h]
theorem State.OnlyReports.link_line {s t : State} (h : s.OnlyReports t) : t.link.line = s.link.line := by rw [h]
theorem State.OnlyReports.link_checkFail {s t : State} (h : s.OnlyReports t) : t.link.checkFail = s.link.checkFail := by rw [h]
theorem State.OnlyReports.link_overrunCount {s t : State} (h : s.OnlyReports t) : t.link.overrunCount = s.link.overrunCount := by rw [h]
theorem State.OnlyReports.link_effect {s t : State} (h : s.OnlyReports t) : t.link.effect = s.link.effect := by rw [h]
theorem State.OnlyReports.link_effectDue {s t : State} (h : s.OnlyReports t) : t.link.effectDue = s.link.effectDue := by rw [h]

/-! ### OnlyLane -/

/-- Nothing differs but what putting back one lane's work can change. -/
def State.OnlyLane (s t : State) : Prop :=
  t =
    { s with
      samplers := t.samplers,
      lanes := t.lanes,
      board := { s.board with cells := t.board.cells, dirty := t.board.dirty, chain := t.board.chain, sinceRow1 := t.board.sinceRow1, freeze := t.board.freeze, spent := t.board.spent },
      link := { s.link with queue := t.link.queue, summary := t.link.summary } }

theorem State.OnlyLane.refl (s : State) : s.OnlyLane s := rfl

theorem State.OnlyLane.trans {s t u : State} (h : s.OnlyLane t) (k : t.OnlyLane u) : s.OnlyLane u := by
  unfold State.OnlyLane at *
  rw [k, h]

theorem State.OnlyLane.foldl {α : Type} (f : State → α → State) (hf : ∀ (s : State) (a : α), s.OnlyLane (f s a)) (xs : List α)
    (s : State) : s.OnlyLane (xs.foldl f s) := by
  induction xs generalizing s with
  | nil => exact .refl s
  | cons a xs ih => exact (hf s a).trans (ih (f s a))

theorem State.OnlyLane.ite {c : Prop} [Decidable c] {s t u : State} (h : s.OnlyLane t) (k : s.OnlyLane u) :
    s.OnlyLane (if c then t else u) := by
  split
  · exact h
  · exact k

theorem State.OnlyLane.pending {s t : State} (h : s.OnlyLane t) : t.pending = s.pending := by rw [h]
theorem State.OnlyLane.resetHeld {s t : State} (h : s.OnlyLane t) : t.resetHeld = s.resetHeld := by rw [h]
theorem State.OnlyLane.program {s t : State} (h : s.OnlyLane t) : t.program = s.program := by rw [h]
theorem State.OnlyLane.race {s t : State} (h : s.OnlyLane t) : t.race = s.race := by rw [h]
theorem State.OnlyLane.source {s t : State} (h : s.OnlyLane t) : t.source = s.source := by rw [h]
theorem State.OnlyLane.overrun {s t : State} (h : s.OnlyLane t) : t.overrun = s.overrun := by rw [h]
theorem State.OnlyLane.startMark {s t : State} (h : s.OnlyLane t) : t.startMark = s.startMark := by rw [h]
theorem State.OnlyLane.clock {s t : State} (h : s.OnlyLane t) : t.clock = s.clock := by rw [h]
theorem State.OnlyLane.ports {s t : State} (h : s.OnlyLane t) : t.ports = s.ports := by rw [h]
theorem State.OnlyLane.zeroing {s t : State} (h : s.OnlyLane t) : t.zeroing = s.zeroing := by rw [h]
theorem State.OnlyLane.takeoffs {s t : State} (h : s.OnlyLane t) : t.takeoffs = s.takeoffs := by rw [h]
theorem State.OnlyLane.results {s t : State} (h : s.OnlyLane t) : t.results = s.results := by rw [h]
theorem State.OnlyLane.log {s t : State} (h : s.OnlyLane t) : t.log = s.log := by rw [h]
theorem State.OnlyLane.board_area {s t : State} (h : s.OnlyLane t) : t.board.area = s.board.area := by rw [h]
theorem State.OnlyLane.board_cursor {s t : State} (h : s.OnlyLane t) : t.board.cursor = s.board.cursor := by rw [h]
theorem State.OnlyLane.board_window {s t : State} (h : s.OnlyLane t) : t.board.window = s.board.window := by rw [h]
theorem State.OnlyLane.board_locks {s t : State} (h : s.OnlyLane t) : t.board.locks = s.board.locks := by rw [h]
theorem State.OnlyLane.board_clear {s t : State} (h : s.OnlyLane t) : t.board.clear = s.board.clear := by rw [h]
theorem State.OnlyLane.board_layout {s t : State} (h : s.OnlyLane t) : t.board.layout = s.board.layout := by rw [h]
theorem State.OnlyLane.board_map {s t : State} (h : s.OnlyLane t) : t.board.map = s.board.map := by rw [h]
theorem State.OnlyLane.board_mode {s t : State} (h : s.OnlyLane t) : t.board.mode = s.board.mode := by rw [h]
theorem State.OnlyLane.board_modeSlot {s t : State} (h : s.OnlyLane t) : t.board.modeSlot = s.board.modeSlot := by rw [h]
theorem State.OnlyLane.board_moduleSlot {s t : State} (h : s.OnlyLane t) : t.board.moduleSlot = s.board.moduleSlot := by rw [h]
theorem State.OnlyLane.board_rotation {s t : State} (h : s.OnlyLane t) : t.board.rotation = s.board.rotation := by rw [h]
theorem State.OnlyLane.link_speed {s t : State} (h : s.OnlyLane t) : t.link.speed = s.link.speed := by rw [h]
theorem State.OnlyLane.link_enables {s t : State} (h : s.OnlyLane t) : t.link.enables = s.link.enables := by rw [h]
theorem State.OnlyLane.link_rx {s t : State} (h : s.OnlyLane t) : t.link.rx = s.link.rx := by rw [h]
theorem State.OnlyLane.link_inbound {s t : State} (h : s.OnlyLane t) : t.link.inbound = s.link.inbound := by rw [h]
theorem State.OnlyLane.link_slot {s t : State} (h : s.OnlyLane t) : t.link.slot = s.link.slot := by rw [h]
theorem State.OnlyLane.link_line {s t : State} (h : s.OnlyLane t) : t.link.line = s.link.line := by rw [h]
theorem State.OnlyLane.link_checkFail {s t : State} (h : s.OnlyLane t) : t.link.checkFail = s.link.checkFail := by rw [h]
theorem State.OnlyLane.link_overrunCount {s t : State} (h : s.OnlyLane t) : t.link.overrunCount = s.link.overrunCount := by rw [h]
theorem State.OnlyLane.link_effect {s t : State} (h : s.OnlyLane t) : t.link.effect = s.link.effect := by rw [h]
theorem State.OnlyLane.link_effectDue {s t : State} (h : s.OnlyLane t) : t.link.effectDue = s.link.effectDue := by rw [h]

/-! ### OnlySampling -/

/-- Nothing differs but samplers, a zeroing in progress, takeoffs on their way and reports. -/
def State.OnlySampling (s t : State) : Prop :=
  t =
    { s with
      samplers := t.samplers,
      zeroing := t.zeroing,
      takeoffs := t.takeoffs,
      link := { s.link with queue := t.link.queue, summary := t.link.summary } }

theorem State.OnlySampling.refl (s : State) : s.OnlySampling s := rfl

theorem State.OnlySampling.trans {s t u : State} (h : s.OnlySampling t) (k : t.OnlySampling u) : s.OnlySampling u := by
  unfold State.OnlySampling at *
  rw [k, h]

theorem State.OnlySampling.foldl {α : Type} (f : State → α → State) (hf : ∀ (s : State) (a : α), s.OnlySampling (f s a)) (xs : List α)
    (s : State) : s.OnlySampling (xs.foldl f s) := by
  induction xs generalizing s with
  | nil => exact .refl s
  | cons a xs ih => exact (hf s a).trans (ih (f s a))

theorem State.OnlySampling.ite {c : Prop} [Decidable c] {s t u : State} (h : s.OnlySampling t) (k : s.OnlySampling u) :
    s.OnlySampling (if c then t else u) := by
  split
  · exact h
  · exact k

theorem State.OnlySampling.pending {s t : State} (h : s.OnlySampling t) : t.pending = s.pending := by rw [h]
theorem State.OnlySampling.resetHeld {s t : State} (h : s.OnlySampling t) : t.resetHeld = s.resetHeld := by rw [h]
theorem State.OnlySampling.program {s t : State} (h : s.OnlySampling t) : t.program = s.program := by rw [h]
theorem State.OnlySampling.race {s t : State} (h : s.OnlySampling t) : t.race = s.race := by rw [h]
theorem State.OnlySampling.source {s t : State} (h : s.OnlySampling t) : t.source = s.source := by rw [h]
theorem State.OnlySampling.overrun {s t : State} (h : s.OnlySampling t) : t.overrun = s.overrun := by rw [h]
theorem State.OnlySampling.startMark {s t : State} (h : s.OnlySampling t) : t.startMark = s.startMark := by rw [h]
theorem State.OnlySampling.clock {s t : State} (h : s.OnlySampling t) : t.clock = s.clock := by rw [h]
theorem State.OnlySampling.ports {s t : State} (h : s.OnlySampling t) : t.ports = s.ports := by rw [h]
theorem State.OnlySampling.lanes {s t : State} (h : s.OnlySampling t) : t.lanes = s.lanes := by rw [h]
theorem State.OnlySampling.results {s t : State} (h : s.OnlySampling t) : t.results = s.results := by rw [h]
theorem State.OnlySampling.log {s t : State} (h : s.OnlySampling t) : t.log = s.log := by rw [h]
theorem State.OnlySampling.board {s t : State} (h : s.OnlySampling t) : t.board = s.board := by rw [h]
theorem State.OnlySampling.link_speed {s t : State} (h : s.OnlySampling t) : t.link.speed = s.link.speed := by rw [h]
theorem State.OnlySampling.link_enables {s t : State} (h : s.OnlySampling t) : t.link.enables = s.link.enables := by rw [h]
theorem State.OnlySampling.link_rx {s t : State} (h : s.OnlySampling t) : t.link.rx = s.link.rx := by rw [h]
theorem State.OnlySampling.link_inbound {s t : State} (h : s.OnlySampling t) : t.link.inbound = s.link.inbound := by rw [h]
theorem State.OnlySampling.link_slot {s t : State} (h : s.OnlySampling t) : t.link.slot = s.link.slot := by rw [h]
theorem State.OnlySampling.link_line {s t : State} (h : s.OnlySampling t) : t.link.line = s.link.line := by rw [h]
theorem State.OnlySampling.link_checkFail {s t : State} (h : s.OnlySampling t) : t.link.checkFail = s.link.checkFail := by rw [h]
theorem State.OnlySampling.link_overrunCount {s t : State} (h : s.OnlySampling t) : t.link.overrunCount = s.link.overrunCount := by rw [h]
theorem State.OnlySampling.link_effect {s t : State} (h : s.OnlySampling t) : t.link.effect = s.link.effect := by rw [h]
theorem State.OnlySampling.link_effectDue {s t : State} (h : s.OnlySampling t) : t.link.effectDue = s.link.effectDue := by rw [h]

/-! ### OnlyRanking -/

/-- Nothing differs but what a re-rank can change. -/
def State.OnlyRanking (s t : State) : Prop :=
  t =
    { s with
      ports := t.ports,
      results := t.results,
      board := { s.board with cells := t.board.cells, dirty := t.board.dirty, chain := t.board.chain, sinceRow1 := t.board.sinceRow1, map := t.board.map },
      link := { s.link with queue := t.link.queue, summary := t.link.summary } }

theorem State.OnlyRanking.refl (s : State) : s.OnlyRanking s := rfl

theorem State.OnlyRanking.trans {s t u : State} (h : s.OnlyRanking t) (k : t.OnlyRanking u) : s.OnlyRanking u := by
  unfold State.OnlyRanking at *
  rw [k, h]

theorem State.OnlyRanking.foldl {α : Type} (f : State → α → State) (hf : ∀ (s : State) (a : α), s.OnlyRanking (f s a)) (xs : List α)
    (s : State) : s.OnlyRanking (xs.foldl f s) := by
  induction xs generalizing s with
  | nil => exact .refl s
  | cons a xs ih => exact (hf s a).trans (ih (f s a))

theorem State.OnlyRanking.ite {c : Prop} [Decidable c] {s t u : State} (h : s.OnlyRanking t) (k : s.OnlyRanking u) :
    s.OnlyRanking (if c then t else u) := by
  split
  · exact h
  · exact k

theorem State.OnlyRanking.pending {s t : State} (h : s.OnlyRanking t) : t.pending = s.pending := by rw [h]
theorem State.OnlyRanking.resetHeld {s t : State} (h : s.OnlyRanking t) : t.resetHeld = s.resetHeld := by rw [h]
theorem State.OnlyRanking.program {s t : State} (h : s.OnlyRanking t) : t.program = s.program := by rw [h]
theorem State.OnlyRanking.race {s t : State} (h : s.OnlyRanking t) : t.race = s.race := by rw [h]
theorem State.OnlyRanking.source {s t : State} (h : s.OnlyRanking t) : t.source = s.source := by rw [h]
theorem State.OnlyRanking.overrun {s t : State} (h : s.OnlyRanking t) : t.overrun = s.overrun := by rw [h]
theorem State.OnlyRanking.startMark {s t : State} (h : s.OnlyRanking t) : t.startMark = s.startMark := by rw [h]
theorem State.OnlyRanking.clock {s t : State} (h : s.OnlyRanking t) : t.clock = s.clock := by rw [h]
theorem State.OnlyRanking.samplers {s t : State} (h : s.OnlyRanking t) : t.samplers = s.samplers := by rw [h]
theorem State.OnlyRanking.zeroing {s t : State} (h : s.OnlyRanking t) : t.zeroing = s.zeroing := by rw [h]
theorem State.OnlyRanking.takeoffs {s t : State} (h : s.OnlyRanking t) : t.takeoffs = s.takeoffs := by rw [h]
theorem State.OnlyRanking.lanes {s t : State} (h : s.OnlyRanking t) : t.lanes = s.lanes := by rw [h]
theorem State.OnlyRanking.log {s t : State} (h : s.OnlyRanking t) : t.log = s.log := by rw [h]
theorem State.OnlyRanking.board_area {s t : State} (h : s.OnlyRanking t) : t.board.area = s.board.area := by rw [h]
theorem State.OnlyRanking.board_cursor {s t : State} (h : s.OnlyRanking t) : t.board.cursor = s.board.cursor := by rw [h]
theorem State.OnlyRanking.board_window {s t : State} (h : s.OnlyRanking t) : t.board.window = s.board.window := by rw [h]
theorem State.OnlyRanking.board_locks {s t : State} (h : s.OnlyRanking t) : t.board.locks = s.board.locks := by rw [h]
theorem State.OnlyRanking.board_clear {s t : State} (h : s.OnlyRanking t) : t.board.clear = s.board.clear := by rw [h]
theorem State.OnlyRanking.board_layout {s t : State} (h : s.OnlyRanking t) : t.board.layout = s.board.layout := by rw [h]
theorem State.OnlyRanking.board_freeze {s t : State} (h : s.OnlyRanking t) : t.board.freeze = s.board.freeze := by rw [h]
theorem State.OnlyRanking.board_spent {s t : State} (h : s.OnlyRanking t) : t.board.spent = s.board.spent := by rw [h]
theorem State.OnlyRanking.board_mode {s t : State} (h : s.OnlyRanking t) : t.board.mode = s.board.mode := by rw [h]
theorem State.OnlyRanking.board_modeSlot {s t : State} (h : s.OnlyRanking t) : t.board.modeSlot = s.board.modeSlot := by rw [h]
theorem State.OnlyRanking.board_moduleSlot {s t : State} (h : s.OnlyRanking t) : t.board.moduleSlot = s.board.moduleSlot := by rw [h]
theorem State.OnlyRanking.board_rotation {s t : State} (h : s.OnlyRanking t) : t.board.rotation = s.board.rotation := by rw [h]
theorem State.OnlyRanking.link_speed {s t : State} (h : s.OnlyRanking t) : t.link.speed = s.link.speed := by rw [h]
theorem State.OnlyRanking.link_enables {s t : State} (h : s.OnlyRanking t) : t.link.enables = s.link.enables := by rw [h]
theorem State.OnlyRanking.link_rx {s t : State} (h : s.OnlyRanking t) : t.link.rx = s.link.rx := by rw [h]
theorem State.OnlyRanking.link_inbound {s t : State} (h : s.OnlyRanking t) : t.link.inbound = s.link.inbound := by rw [h]
theorem State.OnlyRanking.link_slot {s t : State} (h : s.OnlyRanking t) : t.link.slot = s.link.slot := by rw [h]
theorem State.OnlyRanking.link_line {s t : State} (h : s.OnlyRanking t) : t.link.line = s.link.line := by rw [h]
theorem State.OnlyRanking.link_checkFail {s t : State} (h : s.OnlyRanking t) : t.link.checkFail = s.link.checkFail := by rw [h]
theorem State.OnlyRanking.link_overrunCount {s t : State} (h : s.OnlyRanking t) : t.link.overrunCount = s.link.overrunCount := by rw [h]
theorem State.OnlyRanking.link_effect {s t : State} (h : s.OnlyRanking t) : t.link.effect = s.link.effect := by rw [h]
theorem State.OnlyRanking.link_effectDue {s t : State} (h : s.OnlyRanking t) : t.link.effectDue = s.link.effectDue := by rw [h]

/-! ### OnlyRace -/

/-- Nothing differs but what an event of the race can change: program, queue, reset line, zeroing, takeoffs on their way, settings
of the board and the console's side of the link are kept. -/
def State.OnlyRace (s t : State) : Prop :=
  t =
    { s with
      race := t.race,
      source := t.source,
      overrun := t.overrun,
      startMark := t.startMark,
      clock := t.clock,
      ports := t.ports,
      samplers := t.samplers,
      lanes := t.lanes,
      results := t.results,
      log := t.log,
      board := { s.board with cells := t.board.cells, dirty := t.board.dirty, chain := t.board.chain, sinceRow1 := t.board.sinceRow1, map := t.board.map, freeze := t.board.freeze, spent := t.board.spent },
      link := { s.link with queue := t.link.queue, summary := t.link.summary } }

theorem State.OnlyRace.refl (s : State) : s.OnlyRace s := rfl

theorem State.OnlyRace.trans {s t u : State} (h : s.OnlyRace t) (k : t.OnlyRace u) : s.OnlyRace u := by
  unfold State.OnlyRace at *
  rw [k, h]

theorem State.OnlyRace.foldl {α : Type} (f : State → α → State) (hf : ∀ (s : State) (a : α), s.OnlyRace (f s a)) (xs : List α)
    (s : State) : s.OnlyRace (xs.foldl f s) := by
  induction xs generalizing s with
  | nil => exact .refl s
  | cons a xs ih => exact (hf s a).trans (ih (f s a))

theorem State.OnlyRace.ite {c : Prop} [Decidable c] {s t u : State} (h : s.OnlyRace t) (k : s.OnlyRace u) :
    s.OnlyRace (if c then t else u) := by
  split
  · exact h
  · exact k

theorem State.OnlyRace.pending {s t : State} (h : s.OnlyRace t) : t.pending = s.pending := by rw [h]
theorem State.OnlyRace.resetHeld {s t : State} (h : s.OnlyRace t) : t.resetHeld = s.resetHeld := by rw [h]
theorem State.OnlyRace.program {s t : State} (h : s.OnlyRace t) : t.program = s.program := by rw [h]
theorem State.OnlyRace.zeroing {s t : State} (h : s.OnlyRace t) : t.zeroing = s.zeroing := by rw [h]
theorem State.OnlyRace.takeoffs {s t : State} (h : s.OnlyRace t) : t.takeoffs = s.takeoffs := by rw [h]
theorem State.OnlyRace.board_area {s t : State} (h : s.OnlyRace t) : t.board.area = s.board.area := by rw [h]
theorem State.OnlyRace.board_cursor {s t : State} (h : s.OnlyRace t) : t.board.cursor = s.board.cursor := by rw [h]
theorem State.OnlyRace.board_window {s t : State} (h : s.OnlyRace t) : t.board.window = s.board.window := by rw [h]
theorem State.OnlyRace.board_locks {s t : State} (h : s.OnlyRace t) : t.board.locks = s.board.locks := by rw [h]
theorem State.OnlyRace.board_clear {s t : State} (h : s.OnlyRace t) : t.board.clear = s.board.clear := by rw [h]
theorem State.OnlyRace.board_layout {s t : State} (h : s.OnlyRace t) : t.board.layout = s.board.layout := by rw [h]
theorem State.OnlyRace.board_mode {s t : State} (h : s.OnlyRace t) : t.board.mode = s.board.mode := by rw [h]
theorem State.OnlyRace.board_modeSlot {s t : State} (h : s.OnlyRace t) : t.board.modeSlot = s.board.modeSlot := by rw [h]
theorem State.OnlyRace.board_moduleSlot {s t : State} (h : s.OnlyRace t) : t.board.moduleSlot = s.board.moduleSlot := by rw [h]
theorem State.OnlyRace.board_rotation {s t : State} (h : s.OnlyRace t) : t.board.rotation = s.board.rotation := by rw [h]
theorem State.OnlyRace.link_speed {s t : State} (h : s.OnlyRace t) : t.link.speed = s.link.speed := by rw [h]
theorem State.OnlyRace.link_enables {s t : State} (h : s.OnlyRace t) : t.link.enables = s.link.enables := by rw [h]
theorem State.OnlyRace.link_rx {s t : State} (h : s.OnlyRace t) : t.link.rx = s.link.rx := by rw [h]
theorem State.OnlyRace.link_inbound {s t : State} (h : s.OnlyRace t) : t.link.inbound = s.link.inbound := by rw [h]
theorem State.OnlyRace.link_slot {s t : State} (h : s.OnlyRace t) : t.link.slot = s.link.slot := by rw [h]
theorem State.OnlyRace.link_line {s t : State} (h : s.OnlyRace t) : t.link.line = s.link.line := by rw [h]
theorem State.OnlyRace.link_checkFail {s t : State} (h : s.OnlyRace t) : t.link.checkFail = s.link.checkFail := by rw [h]
theorem State.OnlyRace.link_overrunCount {s t : State} (h : s.OnlyRace t) : t.link.overrunCount = s.link.overrunCount := by rw [h]
theorem State.OnlyRace.link_effect {s t : State} (h : s.OnlyRace t) : t.link.effect = s.link.effect := by rw [h]
theorem State.OnlyRace.link_effectDue {s t : State} (h : s.OnlyRace t) : t.link.effectDue = s.link.effectDue := by rw [h]

/-! ### Inclusions -/

theorem State.OnlyShown.toOnlyMap {s t : State} (h : s.OnlyShown t) : s.OnlyMap t := by
  unfold State.OnlyShown at h
  unfold State.OnlyMap
  rw [h]

theorem State.OnlyShown.toOnlyFreeze {s t : State} (h : s.OnlyShown t) : s.OnlyFreeze t := by
  unfold State.OnlyShown at h
  unfold State.OnlyFreeze
  rw [h]

theorem State.OnlyShown.toOnlyBoard {s t : State} (h : s.OnlyShown t) : s.OnlyBoard t := by
  unfold State.OnlyShown at h
  unfold State.OnlyBoard
  rw [h]

theorem State.OnlyShown.toOnlyLane {s t : State} (h : s.OnlyShown t) : s.OnlyLane t := by
  unfold State.OnlyShown at h
  unfold State.OnlyLane
  rw [h]

theorem State.OnlyShown.toOnlyRanking {s t : State} (h : s.OnlyShown t) : s.OnlyRanking t := by
  unfold State.OnlyShown at h
  unfold State.OnlyRanking
  rw [h]

theorem State.OnlyShown.toOnlyRace {s t : State} (h : s.OnlyShown t) : s.OnlyRace t := by
  unfold State.OnlyShown at h
  unfold State.OnlyRace
  rw [h]

theorem State.OnlyMap.toOnlyBoard {s t : State} (h : s.OnlyMap t) : s.OnlyBoard t := by
  unfold State.OnlyMap at h
  unfold State.OnlyBoard
  rw [h]

theorem State.OnlyMap.toOnlyRanking {s t : State} (h : s.OnlyMap t) : s.OnlyRanking t := by
  unfold State.OnlyMap at h
  unfold State.OnlyRanking
  rw [h]

theorem State.OnlyMap.toOnlyRace {s t : State} (h : s.OnlyMap t) : s.OnlyRace t := by
  unfold State.OnlyMap at h
  unfold State.OnlyRace
  rw [h]

theorem State.OnlyFreeze.toOnlyBoard {s t : State} (h : s.OnlyFreeze t) : s.OnlyBoard t := by
  unfold State.OnlyFreeze at h
  unfold State.OnlyBoard
  rw [h]

theorem State.OnlyFreeze.toOnlyLane {s t : State} (h : s.OnlyFreeze t) : s.OnlyLane t := by
  unfold State.OnlyFreeze at h
  unfold State.OnlyLane
  rw [h]

theorem State.OnlyFreeze.toOnlyRace {s t : State} (h : s.OnlyFreeze t) : s.OnlyRace t := by
  unfold State.OnlyFreeze at h
  unfold State.OnlyRace
  rw [h]

theorem State.OnlyBoard.toOnlyRace {s t : State} (h : s.OnlyBoard t) : s.OnlyRace t := by
  unfold State.OnlyBoard at h
  unfold State.OnlyRace
  rw [h]

theorem State.OnlyReports.toOnlyLane {s t : State} (h : s.OnlyReports t) : s.OnlyLane t := by
  unfold State.OnlyReports at h
  unfold State.OnlyLane
  rw [h]

theorem State.OnlyReports.toOnlySampling {s t : State} (h : s.OnlyReports t) : s.OnlySampling t := by
  unfold State.OnlyReports at h
  unfold State.OnlySampling
  rw [h]

theorem State.OnlyReports.toOnlyRanking {s t : State} (h : s.OnlyReports t) : s.OnlyRanking t := by
  unfold State.OnlyReports at h
  unfold State.OnlyRanking
  rw [h]

theorem State.OnlyReports.toOnlyRace {s t : State} (h : s.OnlyReports t) : s.OnlyRace t := by
  unfold State.OnlyReports at h
  unfold State.OnlyRace
  rw [h]

theorem State.OnlyLane.toOnlyRace {s t : State} (h : s.OnlyLane t) : s.OnlyRace t := by
  unfold State.OnlyLane at h
  unfold State.OnlyRace
  rw [h]

theorem State.OnlyRanking.toOnlyRace {s t : State} (h : s.OnlyRanking t) : s.OnlyRace t := by
  unfold State.OnlyRanking at h
  unfold State.OnlyRace
  rw [h]

end Sys2Proof.Machine
end

