-- ==== Sys2Proof/Laws/Ops.lean ====
section
/-! SUPPORT. One lemma for each shared operation of the machine: all that it can change. Proofs about a row cite these
instead of unfolding the operation. -/

namespace Sys2Proof.Machine

/-! ### Taking a command (R179) -/

theorem State.canTake_iff (s : State) (f : Frame) : s.canTake f = true ↔ s.Takes f := by
  simp [State.canTake, State.Takes, and_assoc]

/-- A command that cannot be taken changes nothing. -/
theorem State.take_of_not_takes {s : State} {kind : Byte} {payload : Payload} (owner : State → State)
    (h : ¬ s.Takes ⟨kind, payload⟩) : s.take kind payload owner = s := by
  have : s.canTake ⟨kind, payload⟩ = false := by simpa [← State.canTake_iff] using h
  simp [State.take, this]

/-- A command of the wrong length is answered BAD_LENGTH. -/
theorem State.take_badLength {s : State} {kind : Byte} {payload : Payload} (owner : State → State)
    (h : s.Takes ⟨kind, payload⟩) (hl : payloadLength kind payload ≠ some payload.length) :
    s.take kind payload owner = s.dropInbound.answer kind .badLength [] := by
  simp [State.take, (State.canTake_iff s _).2 h, hl]

/-- A command of the right length is carried out by its owner on the state without its frame. -/
theorem State.take_owner {s : State} {kind : Byte} {payload : Payload} (owner : State → State)
    (h : s.Takes ⟨kind, payload⟩) (hl : payloadLength kind payload = some payload.length) :
    s.take kind payload owner = owner s.dropInbound := by
  simp [State.take, (State.canTake_iff s _).2 h, hl]

/-- What a taken command can be: nothing, the BAD_LENGTH reply, or its owner's work. -/
theorem State.take_cases (s : State) (kind : Byte) (payload : Payload) (owner : State → State) :
    s.take kind payload owner = s ∨ s.take kind payload owner = s.dropInbound.answer kind .badLength []
      ∨ s.take kind payload owner = owner s.dropInbound := by
  unfold State.take
  split
  · split
    · exact .inr (.inr rfl)
    · exact .inr (.inl rfl)
  · exact .inl rfl

/-- A reply to a command whose frame has left the buffer, as one change of the Console Link. -/
theorem State.dropInbound_answer (s : State) (kind : Byte) (code : ResultCode) (data : List Byte) :
    s.dropInbound.answer kind code data = { s with link := s.link.answered kind code data } := rfl

theorem State.unlessHeld_of_free {s : State} (f : State → State) (h : s.resetHeld = false) : s.unlessHeld f = f s := by
  simp [State.unlessHeld, h]

theorem State.unlessHeld_of_held {s : State} (f : State → State) (h : s.resetHeld = true) : s.unlessHeld f = s := by
  simp [State.unlessHeld, h]

/-! ### Reports and the log (R148, R181) -/

theorem State.report_frame (s : State) (r : Report) : s.OnlyReports (s.report r) := rfl

theorem State.reportAll_frame (s : State) (rs : List Report) : s.OnlyReports (s.reportAll rs) :=
  State.OnlyReports.foldl _ State.report_frame rs s

theorem State.raceNote_frame (s : State) (previous : RaceState) (cause : RaceCause) (eventId clock : Nat) :
    s.OnlyReports (s.raceNote previous cause eventId clock) := rfl

theorem State.touchNote_frame (s : State) (p : Program) (l : Lane) (side : PoolEnd) (wall stamp : Nat) (use : TouchUse) :
    s.OnlyReports (s.touchNote p l side wall stamp use) := rfl

/-- An entry of the log changes the log, and the link when the notice is given. -/
theorem State.logEntry_frame (s : State) (stamp : Stamp) (source : LogSource) (wall : Option Nat) (d : Disposition) :
    s.logEntry stamp source wall d
      = { s with
          log := s.log.add stamp source wall d
          link :=
            { s.link with
              queue := (s.logEntry stamp source wall d).link.queue
              summary := (s.logEntry stamp source wall d).link.summary } } := by
  unfold State.logEntry
  dsimp only
  split <;> rfl

theorem State.logEntry_race_frame (s : State) (stamp : Stamp) (source : LogSource) (wall : Option Nat) (d : Disposition) :
    s.OnlyRace (s.logEntry stamp source wall d) := by
  unfold State.OnlyRace
  rw [State.logEntry_frame]

/-! ### The board (chapter 10) -/

theorem Board.changeRow_frame (b : Board) (content : CellRow) (d : Row) :
    b.changeRow content d
      = { b with
          dirty := (b.changeRow content d).dirty, chain := (b.changeRow content d).chain
          sinceRow1 := (b.changeRow content d).sinceRow1 } := by
  unfold Board.changeRow
  split
  · split <;> rfl
  · rfl

theorem State.changeRow_frame (before s : State) (d : Row) : s.OnlyShown (before.changeRow s d) := by
  unfold State.changeRow
  refine .ite rfl ?_
  unfold State.OnlyShown State.onBoard
  dsimp only
  rw [Board.changeRow_frame]

theorem State.markClockRow_frame (s : State) : s.OnlyShown s.markClockRow := rfl

theorem State.writeRow_frame (s : State) (y : Row) (row : CellRow) : s.OnlyShown (s.writeRow y row) := by
  unfold State.writeRow
  split
  · exact .refl s
  · refine State.OnlyShown.trans ?_ (State.OnlyShown.foldl _ (State.changeRow_frame s) _ _)
    rfl

theorem State.writeAuto_frame (s : State) (l : Lane) : s.OnlyShown (s.writeAuto l) := by
  unfold State.writeAuto
  split
  · exact State.writeRow_frame s _ _
  · exact .refl s

theorem State.writeAllAuto_frame (s : State) : s.OnlyShown s.writeAllAuto :=
  State.OnlyShown.foldl _ State.writeAuto_frame allLanes s

theorem State.recomputeMap_frame (s : State) : s.OnlyMap s.recomputeMap := by
  refine State.OnlyMap.trans ?_ (State.OnlyShown.foldl _ (State.changeRow_frame s) _ _).toOnlyMap
  rfl

theorem State.endFreeze_frame (s : State) : s.OnlyFreeze s.endFreeze := by
  unfold State.endFreeze
  split
  · rfl
  · exact .refl s

theorem State.startFreeze_frame (s : State) (final : Nat) : s.OnlyFreeze (s.startFreeze final) := by
  unfold State.startFreeze
  split
  · rfl
  · exact .refl s

theorem State.beginRow_frame (s : State) (d : Row) : s.OnlyChain (s.beginRow d) := rfl

theorem State.chooseRow_frame (s : State) : s.OnlyChain s.chooseRow := by
  unfold State.chooseRow
  split
  · rfl
  · split
    · rfl
    · split
      · rfl
      · exact .refl s

theorem State.chooseFrame_frame (s : State) : s.OnlyChain s.chooseFrame := by
  unfold State.chooseFrame
  split
  · exact .refl s
  · rfl
  · rfl
  · exact .refl s
  · rfl
  · exact s.chooseRow_frame
  · exact s.chooseRow_frame

/-! ### Lamps and ranking (R46, R47, R136) -/

theorem State.setLaneEnd_frame (s : State) (l : Lane) (side : PoolEnd) (e : LaneEnd) :
    s.OnlyRanking (s.setLaneEnd l side e) := rfl

theorem State.engineLamp_frame (s : State) (l : Lane) (side : PoolEnd) (pattern : Lamp) :
    s.OnlyRanking (s.engineLamp l side pattern) := by
  unfold State.engineLamp
  split
  · rfl
  · exact .refl s

theorem State.showPlace_frame (s : State) (l : Lane) : s.OnlyRanking (s.showPlace l) := by
  unfold State.showPlace
  split
  · exact (State.engineLamp_frame s _ _ _).trans (State.writeAuto_frame _ l).toOnlyRanking
  · exact (State.writeAuto_frame s l).toOnlyRanking

/-- A re-rank changes the results, the lamps, the board and the link, nothing else. -/
theorem State.rerank_frame (s : State) : s.OnlyRanking s.rerank := by
  have base (t : State) (h : s.OnlyRanking t) (xs : List Lane) :
      s.OnlyRanking (xs.foldl State.showPlace t).recomputeMap :=
    (h.trans (State.OnlyRanking.foldl _ State.showPlace_frame xs t)).trans (State.recomputeMap_frame _).toOnlyRanking
  unfold State.rerank
  refine State.OnlyRanking.ite ((base _ ?_ _).trans (State.markClockRow_frame _).toOnlyRanking) (base _ ?_ _) <;> rfl

/-! ### A lane's work (R84, R165, R168) -/

theorem State.setLane_frame (s : State) (l : Lane) (c : LaneContext) : s.OnlyLane (s.setLane l c) := rfl

theorem State.setWatch_frame (s : State) (side : PoolEnd) (l : Lane) (leg : Option Nat) :
    s.OnlyLane (s.setWatch side l leg) := rfl

theorem State.endWatches_frame (s : State) : s.OnlyLane s.endWatches := rfl

/-- Putting back a lane's work changes its context, its watches, the board and the link, nothing else. -/
theorem State.commit_frame (s : State) (l : Lane) (w : LaneWork) : s.OnlyLane (s.commit l w) := by
  have put : s.OnlyLane (((s.setLane l w.ctx).setWatch .start l w.watch.start).setWatch .turn l w.watch.turn) := rfl
  have shown (t : State) (h : s.OnlyLane t) : s.OnlyLane (if needsAuto (s.context l) w.ctx then t.writeAuto l else t) :=
    .ite (h.trans (State.writeAuto_frame t l).toOnlyLane) h
  unfold State.commit
  dsimp only
  split
  · exact ((shown _ put).trans (State.startFreeze_frame _ _).toOnlyLane).trans (State.reportAll_frame _ _).toOnlyLane
  · exact (shown _ put).trans (State.reportAll_frame _ _).toOnlyLane

/-! ### Race states (R17, R35) -/

/-- A change of race state changes race state, clock and board. -/
theorem State.enter_frame (s : State) (race : RaceState) (clock : Clock) :
    s.enter race clock
      = { s with
          race, clock
          board :=
            { s.board with
              cells := (s.enter race clock).board.cells, dirty := (s.enter race clock).board.dirty
              chain := (s.enter race clock).board.chain, sinceRow1 := (s.enter race clock).board.sinceRow1
              map := (s.enter race clock).board.map, freeze := (s.enter race clock).board.freeze
              spent := (s.enter race clock).board.spent } } := by
  have thawed : ({ s with race, clock } : State).OnlyBoard
      (if race = .running then { s with race, clock } else State.endFreeze { s with race, clock }) :=
    .ite (.refl _) (State.endFreeze_frame _).toOnlyBoard
  have all : ({ s with race, clock } : State).OnlyBoard (s.enter race clock) := by
    unfold State.enter
    refine State.OnlyBoard.trans ?_ (State.recomputeMap_frame _).toOnlyBoard
    exact .ite thawed (thawed.trans (State.markClockRow_frame _).toOnlyBoard)
  unfold State.OnlyBoard at all
  exact all

@[simp] theorem State.enter_race (s : State) (race : RaceState) (clock : Clock) : (s.enter race clock).race = race := by
  rw [State.enter_frame]

@[simp] theorem State.enter_clock (s : State) (race : RaceState) (clock : Clock) :
    (s.enter race clock).clock = clock := by
  rw [State.enter_frame]

theorem State.enter_race_frame (s : State) (race : RaceState) (clock : Clock) : s.OnlyRace (s.enter race clock) := by
  unfold State.OnlyRace
  rw [State.enter_frame]

theorem State.checkCompletion_frame (s : State) : s.OnlyRace s.checkCompletion := by
  unfold State.checkCompletion
  refine .ite ?_ (.refl s)
  exact ((State.enter_race_frame s _ _).trans (State.endWatches_frame _).toOnlyRace).trans
    (State.raceNote_frame _ _ _ _ _).toOnlyRace

theorem State.laneEvent_frame (s : State) (l : Lane) (w : LaneWork) : s.OnlyRace (s.laneEvent l w) := by
  unfold State.laneEvent
  refine State.OnlyRace.trans ?_ (State.checkCompletion_frame _)
  exact .ite ((State.commit_frame s l w).toOnlyRace.trans (State.rerank_frame _).toOnlyRace)
    (State.commit_frame s l w).toOnlyRace

/-- What completion leaves of race state and clock: it completes a running race, with the clock held where it is. -/
theorem State.checkCompletion_race (s : State) :
    (s.checkCompletion.race = s.race ∧ s.checkCompletion.clock = s.clock)
      ∨ (s.race = .running ∧ s.checkCompletion.race = .complete
          ∧ s.checkCompletion.clock = { s.clock with phase := .held }) := by
  unfold State.checkCompletion
  split
  next h => exact .inr ⟨h.1, by simp [State.raceNote], by simp [State.raceNote]⟩
  next => exact .inl ⟨rfl, rfl⟩

/-- Done: every lane of the race is terminal, and no wall is collecting. -/
theorem State.allDone_iff (s : State) :
    s.allDone = true ↔ ∀ l, (s.inRace l = true → (s.context l).terminal = true) ∧ (s.context l).collecting = none := by
  have every : ∀ l : Lane, l ∈ allLanes := by decide
  simp [State.allDone, every, imp_iff_not_or]

/-- A running race completes exactly when it is done. -/
theorem State.checkCompletion_completes {s : State} (h : s.race = .running) :
    s.checkCompletion.race = .complete ↔ s.allDone = true := by
  unfold State.checkCompletion
  split
  next done => exact ⟨fun _ => done.2, fun _ => by simp [State.raceNote]⟩
  next done => exact ⟨fun e => absurd (h.symm.trans e) (by decide), fun d => absurd ⟨h, d⟩ done⟩

/-- An event of a lane leaves race state and clock, or completes a running race. -/
theorem State.laneEvent_race (s : State) (l : Lane) (w : LaneWork) :
    ((s.laneEvent l w).race = s.race ∧ (s.laneEvent l w).clock = s.clock)
      ∨ (s.race = .running ∧ (s.laneEvent l w).race = .complete
          ∧ (s.laneEvent l w).clock = { s.clock with phase := .held }) := by
  have ranked : s.OnlyRace (s.commit l w) ∧ (if needsRerank (s.context l) w.ctx then (s.commit l w).rerank
      else s.commit l w).race = s.race ∧ (if needsRerank (s.context l) w.ctx then (s.commit l w).rerank
      else s.commit l w).clock = s.clock := by
    refine ⟨(State.commit_frame s l w).toOnlyRace, ?_, ?_⟩ <;> split <;>
      simp [(State.rerank_frame _).race, (State.rerank_frame _).clock, (State.commit_frame s l w).race,
        (State.commit_frame s l w).clock]
  have h := State.checkCompletion_race (if needsRerank (s.context l) w.ctx then (s.commit l w).rerank else s.commit l w)
  rw [ranked.2.1, ranked.2.2] at h
  exact h

/-! ### Discarding, starting and closing a race (R20, R23, R25, R26, R29, R34) -/

theorem State.onPorts_frame (s : State) (f : Ports → Ports) : s.OnlyRanking (s.onPorts f) := rfl

theorem State.mapLanes_frame (s : State) (f : Lane → LaneContext → LaneContext) : s.OnlyLane (s.mapLanes f) := rfl

theorem State.discardResults_frame (s : State) : s.OnlyRanking s.discardResults := by
  unfold State.discardResults
  exact .ite rfl rfl

theorem State.discardRace_frame (s : State) (race : RaceState) : s.OnlyRace (s.discardRace race) := by
  unfold State.discardRace
  refine State.OnlyRace.trans ?_ (State.onPorts_frame _ _).toOnlyRace
  refine State.OnlyRace.trans ?_ (State.writeAllAuto_frame _).toOnlyRace
  refine State.OnlyRace.trans ?_ (State.discardResults_frame _).toOnlyRace
  refine State.OnlyRace.trans ?_ (State.endWatches_frame _).toOnlyRace
  refine State.OnlyRace.trans ?_ (State.mapLanes_frame _ _).toOnlyRace
  refine State.OnlyRace.trans ?_ (State.enter_race_frame _ _ _)
  rfl

theorem State.clearOverrun_frame (s : State) : s.OnlyRace s.clearOverrun := by
  unfold State.clearOverrun
  exact .ite rfl (.refl s)

theorem State.raiseStuck_frame (s : State) (l : Lane) (side : PoolEnd) : s.OnlyRace (s.raiseStuck l side) := by
  unfold State.raiseStuck
  refine .ite (State.OnlyRace.trans ?_ (State.commit_frame _ _ _).toOnlyRace) ?_ <;> rfl

theorem State.raiseStuckIfDue_frame (s : State) (l : Lane) (side : PoolEnd) : s.OnlyRace (s.raiseStuckIfDue l side) := by
  unfold State.raiseStuckIfDue
  exact .ite (State.raiseStuck_frame s l side) (.refl s)

theorem State.raiseAllStuck_frame (s : State) : s.OnlyRace s.raiseAllStuck :=
  State.OnlyRace.foldl _ (fun t l => (State.raiseStuckIfDue_frame t l .start).trans (State.raiseStuckIfDue_frame _ l .turn))
    allLanes s

theorem State.startLane_frame (p : Program) (mark : Nat) (source : StartSource) (s : State) (l : Lane) :
    s.OnlyLane (State.startLane p mark source s l) := by
  unfold State.startLane
  exact .ite (State.commit_frame s l _) (.refl s)

theorem State.startRace_frame (s : State) (mark first : Nat) (source : StartSource) (cause : RaceCause) :
    s.OnlyRace (s.startRace mark first source cause) := by
  have begun : s.OnlyRace ((({ s with source := some source, startMark := some mark } : State).onBoard fun b =>
      { b with spent := false }).enter .running ⟨.running, first⟩) := by
    refine State.OnlyRace.trans ?_ (State.enter_race_frame _ _ _)
    rfl
  have noted := begun.trans (State.raceNote_frame _ .armed cause s.eventId mark).toOnlyRace
  unfold State.startRace
  dsimp only
  split
  · exact noted.trans (State.OnlyLane.foldl _ (State.startLane_frame _ mark source) allLanes _).toOnlyRace
  · exact noted

theorem State.closeLane_frame (p : Program) (s : State) (l : Lane) : s.OnlyLane (State.closeLane p s l) := by
  unfold State.closeLane
  exact .ite (State.commit_frame s l _) (.refl s)

theorem State.closeLaneStatus_frame (p : Program) (s : State) (l : Lane) : s.OnlyLane (State.closeLaneStatus p s l) := by
  unfold State.closeLaneStatus
  exact .ite (State.commit_frame s l _) (.refl s)

theorem State.closeRace_frame (s : State) (cause : RaceCause) : s.OnlyRace (s.closeRace cause) := by
  have finish (t : State) (h : s.OnlyLane t) : s.OnlyRace
      ((t.rerank.enter .complete { s.clock with phase := .held }).raceNote .running cause s.eventId s.clock.value) :=
    ((h.toOnlyRace.trans (State.rerank_frame t).toOnlyRace).trans (State.enter_race_frame _ _ _)).trans
      (State.raceNote_frame _ _ _ _ _).toOnlyRace
  unfold State.closeRace
  dsimp only
  split
  · exact finish _ (((State.OnlyLane.foldl _ (State.closeLane_frame _) allLanes s).trans (State.endWatches_frame _)).trans
      (State.OnlyLane.foldl _ (State.closeLaneStatus_frame _) allLanes _))
  · exact finish _ (.refl s)

@[simp] theorem State.closeRace_race (s : State) (cause : RaceCause) : (s.closeRace cause).race = .complete := by
  simp [State.closeRace, State.raceNote]

@[simp] theorem State.closeRace_clock (s : State) (cause : RaceCause) :
    (s.closeRace cause).clock = { s.clock with phase := .held } := by
  simp [State.closeRace, State.raceNote]

@[simp] theorem State.discardRace_race (s : State) (race : RaceState) : (s.discardRace race).race = race := by
  simp only [State.discardRace, State.onPorts_race, (State.writeAllAuto_frame _).race,
    (State.discardResults_frame _).race, State.endWatches_race, State.mapLanes_race, State.enter_race]

@[simp] theorem State.discardRace_clock (s : State) (race : RaceState) : (s.discardRace race).clock = ⟨.stopped, 0⟩ := by
  simp only [State.discardRace, State.onPorts_clock, (State.writeAllAuto_frame _).clock,
    (State.discardResults_frame _).clock, State.endWatches_clock, State.mapLanes_clock, State.enter_clock]

/-! ### Presses, takeoffs and the start line (R23, R77, R93, R116) -/

theorem State.padEvent_frame (s : State) (l : Lane) (side : PoolEnd) (stamp : Stamp) :
    s.OnlyRace (s.padEvent l side stamp) := by
  unfold State.padEvent
  split
  · exact State.logEntry_race_frame _ _ _ _ _
  · exact ((State.logEntry_race_frame _ _ _ _ _).trans (State.touchNote_frame _ _ _ _ _ _ _).toOnlyRace).trans
      (State.laneEvent_frame _ _ _)
  · exact ((State.logEntry_race_frame _ _ _ _ _).trans (State.touchNote_frame _ _ _ _ _ _ _).toOnlyRace).trans
      (State.laneEvent_frame _ _ _)
  · exact State.logEntry_race_frame _ _ _ _ _

theorem State.buttonEvent_frame (s : State) (l : Lane) (side : PoolEnd) (b : Fin 3) (stamp : Stamp) :
    s.OnlyRace (s.buttonEvent l side b stamp) := by
  unfold State.buttonEvent
  split
  · exact State.logEntry_race_frame _ _ _ _ _
  · exact (State.logEntry_race_frame _ _ _ _ _).trans (State.setLane_frame _ _ _).toOnlyRace
  · exact (State.logEntry_race_frame _ _ _ _ _).trans (State.setLane_frame _ _ _).toOnlyRace
  · exact State.logEntry_race_frame _ _ _ _ _

theorem State.takeoffEvent_frame (s : State) (t : Takeoff) : s.OnlyRace (s.takeoffEvent t) := by
  unfold State.takeoffEvent
  dsimp only
  split
  · exact State.logEntry_race_frame _ _ _ _ _
  · exact (State.logEntry_race_frame _ _ _ _ _).trans (State.setLane_frame _ _ _).toOnlyRace
  · exact (State.logEntry_race_frame _ _ _ _ _).trans (State.commit_frame _ _ _).toOnlyRace
  · exact (State.logEntry_race_frame _ _ _ _ _).trans (State.commit_frame _ _ _).toOnlyRace
  · exact (State.logEntry_race_frame _ _ _ _ _).trans (State.setLane_frame _ _ _).toOnlyRace
  · exact State.logEntry_race_frame _ _ _ _ _

theorem State.startEdgeEvent_frame (s : State) (stamp : Stamp) : s.OnlyRace (s.startEdgeEvent stamp) := by
  unfold State.startEdgeEvent
  split
  · exact (State.logEntry_race_frame _ _ _ _ _).trans (State.startRace_frame _ _ _ _ _)
  · exact State.logEntry_race_frame _ _ _ _ _

/-! ### Contact lines (R38) -/

theorem State.setLine_frame (s : State) (line : Line) (x : LineState) : s.OnlyRace (s.setLine line x) := rfl

theorem State.recognisePress_frame (s : State) (line : Line) (stamp : Stamp) : s.OnlyRace (s.recognisePress line stamp) := by
  cases line with
  | pad l side =>
    simp only [State.recognisePress, State.recognisePad]
    refine .ite (State.OnlyRace.trans ?_ (State.padEvent_frame _ _ _ _)) ?_ <;> rfl
  | button l side b =>
    simp only [State.recognisePress, State.recogniseButton]
    exact .ite ((State.setLine_frame s _ _).trans (State.buttonEvent_frame _ _ _ _ _)) (State.setLine_frame s _ _)
  | startLine => exact (State.setLine_frame s _ _).trans (State.startEdgeEvent_frame _ _)

theorem State.recogniseRelease_frame (s : State) (line : Line) : s.OnlyRace (s.recogniseRelease line) := by
  cases line with
  | pad l side =>
    simp only [State.recogniseRelease, State.releasePad]
    exact .ite rfl rfl
  | button l side b => rfl
  | startLine => rfl

theorem State.sample_frame (s : State) (line : Line) (closed : Bool) : s.OnlyRace (s.sample line closed) := by
  unfold State.sample
  split
  · exact State.setLine_frame s _ _
  · exact .refl s
  · exact State.recognisePress_frame s _ _
  · exact State.setLine_frame s _ _
  · exact .refl s
  · exact State.setLine_frame s _ _
  · exact State.setLine_frame s _ _
  · exact State.recogniseRelease_frame s _

/-! ### Platform conversions (R54 to R66) -/

theorem State.zeroChannel_frame (s : State) (side : PoolEnd) (l : Lane) (reading : Nat) :
    s.OnlySampling (s.zeroChannel side l reading) := by
  unfold State.zeroChannel
  split
  · dsimp only
    split
    · exact .ite rfl rfl
    · exact .refl s
  · exact .refl s

theorem State.putConversion_frame (s : State) (side : PoolEnd) (l : Lane) (r : Conversion) :
    s.OnlySampling (s.putConversion side l r) := by
  unfold State.putConversion
  dsimp only
  split <;> split <;> rfl

theorem State.spendConversion_frame (s : State) (side : PoolEnd) : s.OnlySampling (s.spendConversion side) := rfl

theorem State.convertChannel_frame (s : State) (side : PoolEnd) (l : Lane) (reading : Nat) :
    s.OnlySampling (s.convertChannel side l reading) :=
  (State.zeroChannel_frame s _ _ _).trans (State.putConversion_frame _ _ _ _)

@[simp] theorem convertedLane_start (position : Lane) : convertedLane .start position = position := rfl
@[simp] theorem convertedLane_turn (position : Lane) : convertedLane .turn position = position - 1 := rfl

/-- A conversion changes the samplers, a zeroing in progress, the takeoffs on their way, and sends reports. -/
theorem State.convert_frame (s : State) (side : PoolEnd) (reading : Nat) : s.OnlySampling (s.convert side reading) := by
  unfold State.convert
  split
  · exact (State.convertChannel_frame s _ _ _).trans (State.spendConversion_frame _ _)
  · exact .refl s

/-- Setting a sampler's enable changes the samplers and sends reports. -/
theorem State.setSampler_frame (s : State) (side : PoolEnd) (enabled : Bool) :
    s.OnlySampling (s.setSampler side enabled) := by
  unfold State.setSampler
  dsimp only
  split
  · refine State.OnlySampling.trans ?_ (State.reportAll_frame _ _).toOnlySampling
    rfl
  · rfl
  · exact .refl s

end Sys2Proof.Machine
end

