-- ==== Sys2Proof/Laws/Board.lean ====
section
/-! SUPPORT. The board under an event of the race: the cells that a row write and an auto-field write leave, the rows that a
change of memory or map marks, and the freeze. Proofs about `State.BoardShows` and `State.FreezeFollows` cite these. -/

namespace Sys2Proof.Machine

/-! ### Cells of a row (R165, R166) -/

/-- Cells put into a row stand from the column on; every other cell is kept. -/
theorem putCells_getElem (cs : List Cell) (row : CellRow) (x : Nat) (i : Fin 32) :
    (putCells row x cs)[i] = if x ≤ i ∧ i < x + cs.length then cs.getD (i - x) Cell.blank else row[i] := by
  induction cs generalizing row x with
  | nil =>
    rw [if_neg (by simp only [List.length_nil]; omega)]
    rfl
  | cons c cs ih =>
    rw [putCells, ih]
    by_cases h : (i : Nat) = x
    · subst h
      rw [if_neg (by omega), if_pos ⟨Nat.le_refl _, by simp⟩]
      simp
    · have set : (row.setIfInBounds x c)[i] = row[i] := by simp [Ne.symm h]
      rw [set]
      by_cases k : x + 1 ≤ i ∧ (i : Nat) < x + 1 + cs.length
      · rw [if_pos k, if_pos ⟨by omega, by simp; omega⟩, show (i : Nat) - x = i - (x + 1) + 1 by omega]
        rfl
      · rw [if_neg k, if_neg (by simp only [List.length_cons]; omega)]

/-! ### Marking display rows (R170, R173) -/

/-- A changed display row is marked dirty, or it is being sent under RESTART for the first time and its frame begins again. -/
theorem Board.changeRow_cases (b : Board) (content : CellRow) (d : Row) :
    b.changeRow content d = b.markDirty d
      ∨ ∃ old left, b.chain = some ⟨.row d old, left, false⟩ ∧ b.layout.policy = .restart
        ∧ b.changeRow content d =
          { b with
            chain := some ⟨.row d content, 20, true⟩, dirty := b.dirty.set d false
            sinceRow1 := if d = 1 then 0 else b.sinceRow1 } := by
  unfold Board.changeRow
  split
  · rename_i sent _ left h
    split
    · rename_i k
      obtain ⟨rfl, k⟩ := k
      exact .inr ⟨_, left, h, k, rfl⟩
    · exact .inl rfl
  · exact .inl rfl

theorem State.changeRow_cases (before s : State) (d : Row) :
    before.changeRow s d = s.onBoard (fun b => b.markDirty d)
      ∨ ∃ old left, s.board.chain = some ⟨.row d old, left, false⟩ ∧ s.board.layout.policy = .restart
        ∧ before.changeRow s d = s.onBoard fun b =>
          { b with
            chain := some ⟨.row d (s.rowContent d), 20, true⟩, dirty := b.dirty.set d false
            sinceRow1 := if d = 1 then 0 else b.sinceRow1 } := by
  unfold State.changeRow
  split
  · exact .inl rfl
  · obtain h | ⟨old, left, chain, policy, h⟩ := Board.changeRow_cases s.board (s.rowContent d) d
    · exact .inl (by simp only [State.onBoard, h])
    · exact .inr ⟨old, left, chain, policy, by simp only [State.onBoard, h]⟩

@[simp] theorem State.changeRow_cells (before s : State) (d : Row) : (before.changeRow s d).board.cells = s.board.cells := by
  obtain h | ⟨_, _, _, _, h⟩ := State.changeRow_cases before s d <;> rw [h] <;> rfl

/-- Marking a row changes no content of any row. -/
theorem State.changeRow_rowContent (before s : State) (d k : Row) : (before.changeRow s d).rowContent k = s.rowContent k := by
  obtain h | ⟨_, _, _, _, h⟩ := State.changeRow_cases before s d <;> rw [h] <;> rfl

/-- The other rows keep their marks. -/
theorem State.changeRow_dirty_of_ne (before s : State) {d k : Row} (h : k ≠ d) :
    (before.changeRow s d).board.dirty[k] = s.board.dirty[k] := by
  have ne : (d : Nat) ≠ k := fun e => h (Fin.ext e.symm)
  obtain c | ⟨_, _, _, _, c⟩ := State.changeRow_cases before s d <;> rw [c]
  · exact Vector.getElem_set_ne d.isLt k.isLt ne
  · exact Vector.getElem_set_ne d.isLt k.isLt ne

/-- The changed row is dirty, or the frame on the chain has begun again with the row's content. -/
theorem State.changeRow_marks (before s : State) (d : Row) :
    (before.changeRow s d).board.dirty[d] = true
      ∨ (before.changeRow s d).board.chain = some ⟨.row d (s.rowContent d), 20, true⟩
        ∧ ∃ old left, s.board.chain = some ⟨.row d old, left, false⟩ ∧ s.board.layout.policy = .restart := by
  obtain h | ⟨old, left, chain, policy, h⟩ := State.changeRow_cases before s d
  · exact .inl (by rw [h]; exact Vector.getElem_set_self d.isLt)
  · exact .inr ⟨by rw [h]; rfl, old, left, chain, policy⟩

/-! ### Row writes and the map (R165, R169, R170) -/

@[simp] theorem State.foldl_changeRow_cells (before : State) (ds : List Row) (s : State) :
    (ds.foldl before.changeRow s).board.cells = s.board.cells := by
  induction ds generalizing s with
  | nil => rfl
  | cons d ds ih => exact (ih _).trans (State.changeRow_cells before s d)

/-- Rows that have not changed keep their marks. -/
theorem State.foldl_changeRow_dirty (before : State) {ds : List Row} (s : State) {k : Row} (h : k ∉ ds) :
    (ds.foldl before.changeRow s).board.dirty[k] = s.board.dirty[k] := by
  induction ds generalizing s with
  | nil => rfl
  | cons d ds ih =>
    obtain ⟨ne, h⟩ := not_or.1 (List.mem_cons.not.1 h)
    exact (ih _ h).trans (State.changeRow_dirty_of_ne before s ne)

/-- A write of a row replaces that row of board memory. -/
theorem State.writeRow_cells (s : State) (y : Row) (row : CellRow) :
    (s.writeRow y row).board.cells = s.board.cells.set y row := by
  unfold State.writeRow
  split
  · rename_i h
    rw [← h]
    exact (Vector.set_getElem_self _).symm
  · rw [State.foldl_changeRow_cells]
    rfl

/-- Display rows that do not show the row written keep their marks. -/
theorem State.writeRow_dirty (s : State) {y k : Row} (row : CellRow) (h : s.board.map[k] ≠ y) :
    (s.writeRow y row).board.dirty[k] = s.board.dirty[k] := by
  unfold State.writeRow
  split
  · rfl
  · exact State.foldl_changeRow_dirty s _ fun m => h (of_decide_eq_true (List.mem_filter.1 m).2)

@[simp] theorem State.recomputeMap_cells (s : State) : s.recomputeMap.board.cells = s.board.cells :=
  State.foldl_changeRow_cells s _ _

@[simp] theorem State.recomputeMap_map (s : State) : s.recomputeMap.board.map = s.mapNow :=
  (State.OnlyShown.foldl _ (State.changeRow_frame s) _ _).board_map

/-- Display rows whose memory row stays keep their marks. -/
theorem State.recomputeMap_dirty (s : State) {k : Row} (h : s.board.map[k] = s.mapNow[k]) :
    s.recomputeMap.board.dirty[k] = s.board.dirty[k] :=
  State.foldl_changeRow_dirty s _ fun m => of_decide_eq_true (List.mem_filter.1 m).2 h

/-! ### The freeze (R168) -/

/-- A first final starts the freeze, or leaves the board. -/
theorem State.startFreeze_cases (s : State) (final : Nat) :
    ((s.race = .running ∧ 0 < s.board.layout.freezeSeconds ∧ s.board.spent = false)
        ∧ s.startFreeze final =
          { s with
            board :=
              { s.board with
                freeze := some ⟨final, s.clock.value + s.board.layout.freezeSeconds * 10000⟩, spent := true
                dirty := s.board.dirty.set 1 true } })
      ∨ ¬ (s.race = .running ∧ 0 < s.board.layout.freezeSeconds ∧ s.board.spent = false) ∧ s.startFreeze final = s := by
  unfold State.startFreeze
  split
  · rename_i h
    exact .inl ⟨by simpa using h, rfl⟩
  · rename_i h
    exact .inr ⟨by simpa using h, rfl⟩

/-- The freeze ends, with row 1 marked, or there is none. -/
theorem State.endFreeze_cases (s : State) :
    ((∃ f, s.board.freeze = some f)
        ∧ s.endFreeze = { s with board := { s.board with freeze := none, dirty := s.board.dirty.set 1 true } })
      ∨ s.board.freeze = none ∧ s.endFreeze = s := by
  unfold State.endFreeze
  cases h : s.board.freeze with
  | none => exact .inr ⟨rfl, rfl⟩
  | some f => exact .inl ⟨⟨f, rfl⟩, rfl⟩

end Sys2Proof.Machine
end

