-- ==== Sys2Proof/Laws/Lane.lean ====
section
/-! SUPPORT. The Lane Engine's work on one lane: what each operation on a `LaneWork` can change, what it makes of the items
it changes, and what putting the work back leaves in State. -/

namespace Sys2Proof.Machine

/-! ### Judgements (R130, R131) -/

theorem mem_insertJudgement (j k : Judgement) (js : List Judgement) :
    k ∈ insertJudgement j js ↔ k = j ∨ k ∈ js := by
  induction js with
  | nil => simp [insertJudgement]
  | cons a as ih =>
    unfold insertJudgement
    split
    · simp
    · simp only [List.mem_cons, ih]
      tauto

/-- A judgement of a new cause keeps the priority order. -/
theorem insertJudgement_ordered (j : Judgement) (js : List Judgement)
    (h : js.Pairwise fun a b => a.priority < b.priority) (hj : ∀ k ∈ js, k.priority ≠ j.priority) :
    (insertJudgement j js).Pairwise fun a b => a.priority < b.priority := by
  induction js with
  | nil => simp [insertJudgement]
  | cons a as ih =>
    have ha := List.pairwise_cons.1 h
    unfold insertJudgement
    split
    next hlt =>
      refine List.pairwise_cons.2 ⟨fun b hb => ?_, h⟩
      rcases List.mem_cons.1 hb with rfl | hb
      · exact hlt
      · exact lt_trans hlt (ha.1 b hb)
    next hge =>
      have hne := hj a List.mem_cons_self
      refine List.pairwise_cons.2 ⟨fun b hb => ?_, ih ha.2 fun k hk => hj k (List.mem_cons_of_mem a hk)⟩
      rcases (mem_insertJudgement j b as).1 hb with rfl | hb
      · omega
      · exact ha.1 b hb

theorem holdsCause_iff (j : Judgement) (js : List Judgement) :
    holdsCause j js = true ↔ ∃ k ∈ js, k.priority = j.priority := by
  simp [holdsCause]

/-- The judgements after a cause is added: it joins unless a judgement of its cause is held already. -/
theorem LaneWork.mem_judge (l : Lane) (j k : Judgement) (w : LaneWork) :
    k ∈ (w.judge l j).ctx.judgements
      ↔ k ∈ w.ctx.judgements ∨ k = j ∧ ∀ q ∈ w.ctx.judgements, q.priority ≠ j.priority := by
  unfold LaneWork.judge
  split
  next h =>
    obtain ⟨q, hq, hp⟩ := (holdsCause_iff j _).1 h
    constructor
    · exact Or.inl
    · rintro (h | ⟨-, h⟩)
      · exact h
      · exact absurd hp (h q hq)
  next h =>
    have hn : ∀ q ∈ w.ctx.judgements, q.priority ≠ j.priority := fun q hq hp => h ((holdsCause_iff j _).2 ⟨q, hq, hp⟩)
    simp only [mem_insertJudgement]
    constructor
    · rintro (rfl | h)
      · exact .inr ⟨rfl, hn⟩
      · exact .inl h
    · rintro (h | ⟨rfl, -⟩)
      · exact .inr h
      · exact .inl rfl

/-- After a cause is added the lane holds it. -/
theorem LaneWork.judge_holds (l : Lane) (j : Judgement) (w : LaneWork) :
    ∃ k ∈ (w.judge l j).ctx.judgements, k.priority = j.priority := by
  by_cases h : ∃ k ∈ w.ctx.judgements, k.priority = j.priority
  · obtain ⟨k, hk, hp⟩ := h
    exact ⟨k, (w.mem_judge l j k).2 (.inl hk), hp⟩
  · exact ⟨j, (w.mem_judge l j j).2 (.inr ⟨rfl, fun q hq hp => h ⟨q, hq, hp⟩⟩), rfl⟩

theorem LaneWork.judge_ordered {w : LaneWork} (l : Lane) (j : Judgement) (h : w.ctx.JudgementsOrdered) :
    (w.judge l j).ctx.JudgementsOrdered := by
  unfold LaneWork.judge
  split
  next => exact h
  next hn =>
    exact insertJudgement_ordered j _ h fun k hk hp => hn ((holdsCause_iff j _).2 ⟨k, hk, hp⟩)

/-! ### Frames of a lane's work -/

/-- Judging: the judgements and the judge reports alone. -/
def LaneWork.OnlyJudges (w v : LaneWork) : Prop :=
  v = { w with ctx := { w.ctx with judgements := v.ctx.judgements }, judges := v.judges }

/-- Settling: takeoff, leg records, judgements, watches and judge reports. -/
def LaneWork.OnlySettles (w v : LaneWork) : Prop :=
  v =
    { w with
      ctx := { w.ctx with takeoff := v.ctx.takeoff, legs := v.ctx.legs, judgements := v.ctx.judgements }
      watch := v.watch, judges := v.judges }

/-- Placing an expected wall: the expected wall and the watches. -/
def LaneWork.OnlyExpects (w v : LaneWork) : Prop :=
  v = { w with ctx := { w.ctx with expected := v.ctx.expected }, watch := v.watch }

theorem LaneWork.OnlyJudges.refl (w : LaneWork) : w.OnlyJudges w := rfl

theorem LaneWork.OnlyJudges.trans {u v w : LaneWork} (h : u.OnlyJudges v) (k : v.OnlyJudges w) : u.OnlyJudges w := by
  unfold LaneWork.OnlyJudges at *
  rw [k, h]

theorem LaneWork.OnlySettles.refl (w : LaneWork) : w.OnlySettles w := rfl

theorem LaneWork.OnlySettles.trans {u v w : LaneWork} (h : u.OnlySettles v) (k : v.OnlySettles w) : u.OnlySettles w := by
  unfold LaneWork.OnlySettles at *
  rw [k, h]

theorem LaneWork.OnlyJudges.toOnlySettles {v w : LaneWork} (h : v.OnlyJudges w) : v.OnlySettles w := by
  unfold LaneWork.OnlyJudges at h
  unfold LaneWork.OnlySettles
  rw [h]

theorem LaneWork.judge_frame (w : LaneWork) (l : Lane) (j : Judgement) : w.OnlyJudges (w.judge l j) := by
  unfold LaneWork.judge
  split <;> rfl

theorem LaneWork.clearWatch_frame (w : LaneWork) (side : PoolEnd) (leg : Nat) : w.OnlySettles (w.clearWatch side leg) := by
  unfold LaneWork.clearWatch
  split <;> rfl

theorem LaneWork.judgeRecord_frame (w : LaneWork) (env : LaneEnv) (r : WallRecord) : w.OnlyJudges (w.judgeRecord env r) := by
  unfold LaneWork.judgeRecord
  dsimp only
  split <;> split
  · exact (w.judge_frame _ _).trans (LaneWork.judge_frame _ _ _)
  · exact w.judge_frame _ _
  · exact w.judge_frame _ _
  · exact .refl w

theorem LaneWork.judgeExchange_frame (w : LaneWork) (env : LaneEnv) (k stamp official : Nat) :
    w.OnlySettles (w.judgeExchange env k stamp official) := by
  unfold LaneWork.judgeExchange
  dsimp only
  split
  · refine LaneWork.OnlySettles.trans ?_ (LaneWork.judge_frame _ _ _).toOnlySettles
    rfl
  · rfl

theorem LaneWork.settleExchange_frame (w : LaneWork) (env : LaneEnv) (index official : Nat) :
    w.OnlySettles (w.settleExchange env index official) := by
  unfold LaneWork.settleExchange
  split
  · split
    · refine LaneWork.OnlySettles.trans ?_ (LaneWork.judgeExchange_frame _ _ _ _ _)
      rfl
    · exact .refl w
  · exact .refl w

theorem LaneWork.settleLegOne_frame (w : LaneWork) (env : LaneEnv) : w.OnlySettles (w.settleLegOne env) := by
  unfold LaneWork.settleLegOne
  split
  · refine LaneWork.OnlySettles.trans ?_ (LaneWork.judge_frame _ _ _).toOnlySettles
    refine LaneWork.OnlySettles.trans (w.clearWatch_frame .start 1) ?_
    rfl
  · exact .refl w

theorem LaneWork.settleLeg_frame (w : LaneWork) (env : LaneEnv) (k : Nat) : w.OnlySettles (w.settleLeg env k) := by
  unfold LaneWork.settleLeg
  split
  · refine LaneWork.OnlySettles.trans ?_ (LaneWork.judge_frame _ _ _).toOnlySettles
    refine LaneWork.OnlySettles.trans (w.clearWatch_frame (env.program.exchangeEnd k) k) ?_
    rfl
  · exact .refl w

theorem LaneWork.settleUnseen_frame (w : LaneWork) (env : LaneEnv) (index : Nat) :
    w.OnlySettles (w.settleUnseen env index) := by
  unfold LaneWork.settleUnseen
  split
  · exact w.settleLegOne_frame env
  · split
    · exact w.settleLeg_frame env _
    · exact .refl w

theorem LaneWork.settle_frame (w : LaneWork) (env : LaneEnv) (index official : Nat) :
    w.OnlySettles (w.settle env index official) :=
  (w.settleExchange_frame env index official).trans (LaneWork.settleUnseen_frame _ env index)

theorem LaneWork.settleOpen_frame (w : LaneWork) (env : LaneEnv) : w.OnlySettles (w.settleOpen env) := by
  have legs (ks : List Nat) (v : LaneWork) : v.OnlySettles (ks.foldl (fun v k => v.settleLeg env k) v) := by
    induction ks generalizing v with
    | nil => exact .refl v
    | cons k ks ih => exact (v.settleLeg_frame env k).trans (ih _)
  unfold LaneWork.settleOpen
  dsimp only
  refine LaneWork.OnlySettles.trans (legs env.program.laterLegs w) ?_
  split
  · refine LaneWork.OnlySettles.trans (LaneWork.judge_frame _ env.lane (.unjudged 1)).toOnlySettles ?_
    rfl
  · rfl

theorem LaneWork.placeExpected_frame (w : LaneWork) (env : LaneEnv) (e : ExpectedWall) :
    w.OnlyExpects (w.placeExpected env e) := by
  unfold LaneWork.placeExpected
  dsimp only
  split
  · split <;> rfl
  · rfl

/-- The expected wall as it is placed: its phase set against the clock, its first arming recorded (R73, R74). -/
theorem LaneWork.placeExpected_expected (w : LaneWork) (env : LaneEnv) (e : ExpectedWall) :
    (w.placeExpected env e).ctx.expected
      = some { e with armed := decide (e.armTime ≤ env.now), everArmed := e.everArmed || decide (e.armTime ≤ env.now) } := by
  unfold LaneWork.placeExpected
  dsimp only
  split
  · split <;> rfl
  · rfl

theorem LaneWork.expect_frame (w : LaneWork) (env : LaneEnv) (n armTime : Nat) : w.OnlyExpects (w.expect env n armTime) :=
  w.placeExpected_frame env _

theorem LaneWork.expect_expected (w : LaneWork) (env : LaneEnv) (n armTime : Nat) :
    (w.expect env n armTime).ctx.expected
      = some ⟨n, wallEnd n, armTime, decide (armTime ≤ env.now), decide (armTime ≤ env.now)⟩ := by
  simp [LaneWork.expect, LaneWork.placeExpected_expected]

theorem LaneWork.armNext_frame (w : LaneWork) (env : LaneEnv) (index official : Nat) :
    w.OnlyExpects (w.armNext env index official) := by
  unfold LaneWork.armNext
  split
  · dsimp only
    split
    · exact w.placeExpected_frame env _
    · exact w.expect_frame env _ _
  · rfl

/-! ### Putting a lane's work back -/

@[simp] theorem State.commit_lanes (s : State) (l : Lane) (w : LaneWork) :
    (s.commit l w).lanes = s.lanes.set l w.ctx := by
  have shown (t : State) (c : Bool) : (if c then t.writeAuto l else t).lanes = t.lanes := by
    split
    · exact (State.writeAuto_frame t l).lanes
    · rfl
  unfold State.commit
  dsimp only
  split <;> simp only [(State.reportAll_frame _ _).lanes, (State.startFreeze_frame _ _).lanes, shown] <;> rfl

@[simp] theorem State.commit_samplers (s : State) (l : Lane) (w : LaneWork) :
    (s.commit l w).samplers = ((s.setWatch .start l w.watch.start).setWatch .turn l w.watch.turn).samplers := by
  have shown (t : State) (c : Bool) : (if c then t.writeAuto l else t).samplers = t.samplers := by
    split
    · exact (State.writeAuto_frame t l).samplers
    · rfl
  unfold State.commit
  dsimp only
  split <;> simp only [(State.reportAll_frame _ _).samplers, (State.startFreeze_frame _ _).samplers, shown] <;> rfl

@[simp] theorem State.commit_context_same (s : State) (l : Lane) (w : LaneWork) : (s.commit l w).context l = w.ctx := by
  simp [State.context]

theorem State.commit_context_other (s : State) {l m : Lane} (w : LaneWork) (h : m ≠ l) :
    (s.commit l w).context m = s.context m := by
  have : (l : Nat) ≠ m := fun e => h (Fin.ext e.symm)
  simp [State.context, this]

/-- The channels of a lane after its work is put back: the watches of the work, everything else as it was. -/
theorem State.commit_channel_same (s : State) (l : Lane) (w : LaneWork) (side : PoolEnd) :
    (s.commit l w).channel side l = { s.channel side l with watch := w.watch.get side } := by
  cases side <;>
    simp [State.channel, State.sampler, State.setWatch, State.setChannel, State.onSampler, Ends.get, Ends.set]

theorem State.commit_channel_other (s : State) {l m : Lane} (w : LaneWork) (side : PoolEnd) (h : m ≠ l) :
    (s.commit l w).channel side m = s.channel side m := by
  have : (l : Nat) ≠ m := fun e => h (Fin.ext e.symm)
  cases side <;>
    simp [State.channel, State.sampler, State.setWatch, State.setChannel, State.onSampler, Ends.get, Ends.set, this]

theorem State.commit_sampler (s : State) (l : Lane) (w : LaneWork) (side : PoolEnd) :
    (s.commit l w).sampler side
      = { s.sampler side with channels := ((s.commit l w).sampler side).channels } := by
  cases side <;> simp [State.sampler, State.setWatch, State.setChannel, State.onSampler, Ends.get, Ends.set]

/-- A re-rank writes the result order and the places of R135 and keeps the amendments. -/
@[simp] theorem State.rerank_results (s : State) :
    s.rerank.results = { s.results with order := s.resultOrder, places := Vector.ofFn fun l => s.placeNow l } := by
  have shown (t : State) (l : Lane) : (t.showPlace l).results = t.results := by
    unfold State.showPlace
    split
    · rw [(State.writeAuto_frame _ l).results]
      unfold State.engineLamp
      split <;> rfl
    · exact (State.writeAuto_frame t l).results
  have folded (xs : List Lane) (t : State) : (xs.foldl State.showPlace t).results = t.results := by
    induction xs generalizing t with
    | nil => rfl
    | cons x xs ih => rw [List.foldl_cons, ih, shown]
  unfold State.rerank
  dsimp only
  split <;> simp only [(State.markClockRow_frame _).results, (State.recomputeMap_frame _).results, folded] <;> rfl

theorem State.checkCompletion_lanes (s : State) : s.checkCompletion.lanes = s.lanes := by
  unfold State.checkCompletion
  split
  · rw [(State.raceNote_frame _ _ _ _ _).lanes]
    rw [State.endWatches_lanes, State.enter_frame]
  · rfl

theorem State.checkCompletion_results (s : State) : s.checkCompletion.results = s.results := by
  unfold State.checkCompletion
  split
  · rw [(State.raceNote_frame _ _ _ _ _).results]
    rw [State.endWatches_results, State.enter_frame]
  · rfl

theorem State.checkCompletion_ports (s : State) : s.checkCompletion.ports = s.ports := by
  unfold State.checkCompletion
  split
  · rw [(State.raceNote_frame _ _ _ _ _).ports]
    rw [State.endWatches_ports, State.enter_frame]
  · rfl

theorem State.checkCompletion_log (s : State) : s.checkCompletion.log = s.log := by
  unfold State.checkCompletion
  split
  · rw [(State.raceNote_frame _ _ _ _ _).log]
    rw [State.endWatches_log, State.enter_frame]
  · rfl

/-- An event of a lane leaves that lane's work in its context and every other context as it was. -/
@[simp] theorem State.laneEvent_lanes (s : State) (l : Lane) (w : LaneWork) :
    (s.laneEvent l w).lanes = s.lanes.set l w.ctx := by
  unfold State.laneEvent
  dsimp only
  rw [State.checkCompletion_lanes]
  split
  · rw [(State.rerank_frame _).lanes, State.commit_lanes]
  · exact State.commit_lanes s l w

@[simp] theorem State.laneEvent_context_same (s : State) (l : Lane) (w : LaneWork) :
    (s.laneEvent l w).context l = w.ctx := by
  simp [State.context]

theorem State.laneEvent_context_other (s : State) {l m : Lane} (w : LaneWork) (h : m ≠ l) :
    (s.laneEvent l w).context m = s.context m := by
  have : (l : Nat) ≠ m := fun e => h (Fin.ext e.symm)
  simp [State.context, this]

theorem State.laneEvent_log (s : State) (l : Lane) (w : LaneWork) : (s.laneEvent l w).log = s.log := by
  unfold State.laneEvent
  dsimp only
  rw [State.checkCompletion_log]
  split
  · rw [(State.rerank_frame _).log, (State.commit_frame s l w).log]
  · exact (State.commit_frame s l w).log

/-- An event of a lane re-ranks exactly when the ranked set or the lane's final time changes (R136). -/
theorem State.laneEvent_results (s : State) (l : Lane) (w : LaneWork) :
    (s.laneEvent l w).results
      = if needsRerank (s.context l) w.ctx then (s.commit l w).rerank.results else s.results := by
  unfold State.laneEvent
  dsimp only
  rw [State.checkCompletion_results]
  split
  · rfl
  · exact (State.commit_frame s l w).results

end Sys2Proof.Machine
end

