-- ==== Sys2Proof/Laws/PerInstr.lean ====
section
/-! SUPPORT. The family `PayloadFits`: the frame that carries a well-formed row has a payload of at most 249 bytes, so
that it fits the 250 bytes of kind and payload that a frame of the console link can hold (R177). One lemma for each
constructor. -/

namespace Sys2Proof.Laws.PayloadFits

/-- The frame that carries a well-formed row fits the line (R177). -/
def Statement (i : Instr) : Prop := i.wf = true → ∀ f, frameOf i = some f → f.payload.length ≤ maxPayload

/-- A row that no frame carries. -/
theorem of_none {i : Instr} (h : frameOf i = none) : Statement i := by
  intro _ f hf; rw [h] at hf; cases hf

/-- A row whose payload the well-formedness check measures. -/
theorem of_fits {i : Instr} {k : Byte} {p : Payload} (h : frameOf i = some ⟨k, p⟩) (fits : i.wf = true → fitsFrame p = true) :
    Statement i := by
  intro w f hf
  rw [h] at hf
  cases hf
  exact of_decide_eq_true (fits w)

/-- A row whose payload has a length of its own. -/
theorem of_length {i : Instr} {k : Byte} {p : Payload} (h : frameOf i = some ⟨k, p⟩) (short : p.length ≤ maxPayload) :
    Statement i := by
  intro _ f hf
  rw [h] at hf
  cases hf
  exact short

theorem powerOn : Statement .powerOn := of_none rfl
theorem resetLineAssert : Statement .resetLineAssert := of_none rfl
theorem resetLineRelease : Statement .resetLineRelease := of_none rfl
theorem frameReceived (bytes : List Byte) : Statement (.frameReceived bytes) := of_none rfl
theorem frameGapTimeout : Statement .frameGapTimeout := of_none rfl
theorem unknownKind (kind : Byte) (payload : Payload) : Statement (.unknownKind kind payload) := of_fits rfl fun w => ((Bool.and_eq_true _ _).mp w).2
theorem lineFrameEnd : Statement .lineFrameEnd := of_none rfl
theorem controllerResetTakesEffect : Statement .controllerResetTakesEffect := of_none rfl
theorem linkSpeedChange : Statement .linkSpeedChange := of_none rfl
theorem identAsk (payload : Payload) : Statement (.identAsk payload) := of_fits rfl fun w => w
theorem statusAsk (payload : Payload) : Statement (.statusAsk payload) := of_fits rfl fun w => w
theorem linkSet (payload : Payload) : Statement (.linkSet payload) := of_fits rfl fun w => w
theorem controllerReset (payload : Payload) : Statement (.controllerReset payload) := of_fits rfl fun w => w
theorem programLoad (payload : Payload) : Statement (.programLoad payload) := of_fits rfl fun w => w
theorem programAsk (payload : Payload) : Statement (.programAsk payload) := of_fits rfl fun w => w
theorem raceArm (payload : Payload) : Statement (.raceArm payload) := of_fits rfl fun w => w
theorem startManual (payload : Payload) : Statement (.startManual payload) := of_fits rfl fun w => w
theorem raceRecall (payload : Payload) : Statement (.raceRecall payload) := of_fits rfl fun w => w
theorem raceClose (payload : Payload) : Statement (.raceClose payload) := of_fits rfl fun w => w
theorem resultsRelease (payload : Payload) : Statement (.resultsRelease payload) := of_fits rfl fun w => w
theorem raceClear (payload : Payload) : Statement (.raceClear payload) := of_fits rfl fun w => w
theorem groupMode (payload : Payload) : Statement (.groupMode payload) := of_fits rfl fun w => w
theorem lamp (lane : Lane) (side : PoolEnd) (pattern : Lamp) : Statement (.lamp lane side pattern) := of_length rfl (by simp [maxPayload])
theorem padEnable (lane : Lane) (side : PoolEnd) (enabled : Bool) : Statement (.padEnable lane side enabled) := of_length rfl (by simp [maxPayload])
theorem buttonEnable (lane : Lane) (side : PoolEnd) (enabled : Bool) : Statement (.buttonEnable lane side enabled) := of_length rfl (by simp [maxPayload])
theorem linesAsk (payload : Payload) : Statement (.linesAsk payload) := of_fits rfl fun w => w
theorem platformZero (payload : Payload) : Statement (.platformZero payload) := of_fits rfl fun w => w
theorem zeroingComplete : Statement .zeroingComplete := of_none rfl
theorem platformLimits (payload : Payload) : Statement (.platformLimits payload) := of_fits rfl fun w => w
theorem platformAsk (payload : Payload) : Statement (.platformAsk payload) := of_fits rfl fun w => w
theorem samplerSet (payload : Payload) : Statement (.samplerSet payload) := of_fits rfl fun w => w
theorem laneAsk (payload : Payload) : Statement (.laneAsk payload) := of_fits rfl fun w => w
theorem wallsAsk (payload : Payload) : Statement (.wallsAsk payload) := of_fits rfl fun w => w
theorem resultsAsk (payload : Payload) : Statement (.resultsAsk payload) := of_fits rfl fun w => w
theorem amendDisqualify (lane code : Byte) (time : BitVec 32) : Statement (.amendDisqualify lane code time) := of_length rfl (by simp [splitBytes, maxPayload])
theorem amendDidNotStart (lane code : Byte) (time : BitVec 32) : Statement (.amendDidNotStart lane code time) := of_length rfl (by simp [splitBytes, maxPayload])
theorem amendRestore (lane code : Byte) (time : BitVec 32) : Statement (.amendRestore lane code time) := of_length rfl (by simp [splitBytes, maxPayload])
theorem amendTimeWall (lane code : Byte) (time : BitVec 32) : Statement (.amendTimeWall lane code time) := of_length rfl (by simp [splitBytes, maxPayload])
theorem logRead (payload : Payload) : Statement (.logRead payload) := of_fits rfl fun w => w
theorem logClear (payload : Payload) : Statement (.logClear payload) := of_fits rfl fun w => w
theorem boardMode (payload : Payload) : Statement (.boardMode payload) := of_fits rfl fun w => w
theorem boardArea (payload : Payload) : Statement (.boardArea payload) := of_fits rfl fun w => w
theorem boardMask (payload : Payload) : Statement (.boardMask payload) := of_fits rfl fun w => w
theorem boardWrite (payload : Payload) : Statement (.boardWrite payload) := of_fits rfl fun w => w
theorem boardRead (payload : Payload) : Statement (.boardRead payload) := of_fits rfl fun w => w
theorem boardClear (payload : Payload) : Statement (.boardClear payload) := of_fits rfl fun w => w
theorem boardClearStop (payload : Payload) : Statement (.boardClearStop payload) := of_fits rfl fun w => w
theorem boardLayout (payload : Payload) : Statement (.boardLayout payload) := of_fits rfl fun w => w
theorem brightness (value : Byte) : Statement (.brightness value) := of_length rfl (by simp [maxPayload])
theorem blank (value : Byte) : Statement (.blank value) := of_length rfl (by simp [maxPayload])
theorem selfTest (value : Byte) : Statement (.selfTest value) := of_length rfl (by simp [maxPayload])
theorem moduleReset (value : Byte) : Statement (.moduleReset value) := of_length rfl (by simp [maxPayload])
theorem padPress (lane : Lane) (side : PoolEnd) : Statement (.padPress lane side) := of_none rfl
theorem buttonPress (lane : Lane) (side : PoolEnd) (button : Fin 3) : Statement (.buttonPress lane side button) := of_none rfl
theorem startLineEdge : Statement .startLineEdge := of_none rfl
theorem lineRelease (line : Line) : Statement (.lineRelease line) := of_none rfl
theorem stuckTimerExpiry (lane : Lane) (side : PoolEnd) : Statement (.stuckTimerExpiry lane side) := of_none rfl
theorem platformConversion (side : PoolEnd) (reading : Fin 1024) : Statement (.platformConversion side reading) := of_none rfl
theorem takeoff (side : PoolEnd) (lane : Lane) : Statement (.takeoff side lane) := of_none rfl
theorem armTimerExpiry (lane : Lane) : Statement (.armTimerExpiry lane) := of_none rfl
theorem closeTimerExpiry (lane : Lane) : Statement (.closeTimerExpiry lane) := of_none rfl
theorem clockSaturation : Statement .clockSaturation := of_none rfl
theorem prestartClockLimit : Statement .prestartClockLimit := of_none rfl
theorem freezeEnd : Statement .freezeEnd := of_none rfl
theorem clearRowFill : Statement .clearRowFill := of_none rfl
theorem boardFrameEnd : Statement .boardFrameEnd := of_none rfl
theorem clockRowDue : Statement .clockRowDue := of_none rfl
theorem contactLineSample (line : Line) (pressed : Bool) : Statement (.contactLineSample line pressed) := of_none rfl
theorem lineSet (payload : Payload) : Statement (.lineSet payload) := of_fits rfl fun w => ((Bool.and_eq_true _ _).mp w).2
theorem amend (payload : Payload) : Statement (.amend payload) := of_fits rfl fun w => ((Bool.and_eq_true _ _).mp w).2
theorem boardModule (payload : Payload) : Statement (.boardModule payload) := of_fits rfl fun w => ((Bool.and_eq_true _ _).mp w).2

end Sys2Proof.Laws.PayloadFits
end

