-- ==== Sys2Proof/Laws/Tick.lean ====
section
/-! SUPPORT. What a step on an empty queue can do: the rows due at once, or one count of time, field by field. Proofs about
every step split with `step_cases` and cite these. -/

namespace Sys2Proof.Machine

/-! ### The step -/

theorem step_front {s : State} {i : Instr} {rest : List Instr} (h : s.pending = i :: rest) :
    step s = exec i { s with pending := rest } := by
  simp [step, h]

theorem step_empty {s : State} (h : s.pending = []) : step s = .next s.idle := by
  simp [step, h]

/-- A step that answers a next state carries out the front row or idles. -/
theorem step_cases {s t : State} (h : step s = .next t) :
    (s.pending = [] ∧ t = s.idle)
      ∨ ∃ i rest, s.pending = i :: rest ∧ exec i { s with pending := rest } = .next t := by
  cases hp : s.pending with
  | nil =>
    rw [step_empty hp] at h
    cases h
    exact .inl ⟨rfl, rfl⟩
  | cons i rest => exact .inr ⟨i, rest, rfl, by rw [← step_front hp, h]⟩

/-- Idling holds while the reset line is held, queues the rows due at once, or lets one count pass. -/
theorem State.idle_cases (s : State) :
    (s.resetHeld = true ∧ s.idle = s)
      ∨ (s.resetHeld = false ∧ s.dueAtOnce ≠ [] ∧ s.idle = { s with pending := s.dueAtOnce })
      ∨ (s.resetHeld = false ∧ s.dueAtOnce = [] ∧ s.idle = s.tick) := by
  unfold State.idle
  cases s.resetHeld <;> cases s.dueAtOnce <;> simp

/-- Nothing comes about at once when no change of the link, end of a zeroing, takeoff or command is due. -/
theorem State.dueAtOnce_eq_nil (s : State) :
    s.dueAtOnce = [] ↔ s.link.dueEffect = [] ∧ s.zeroing.any Zeroing.finished = false ∧ s.takeoffs = [] ∧ s.dueCommand = [] := by
  simp [State.dueAtOnce, State.dueTakeoffs, dueRow]

/-! ### What a count leaves alone -/

/-- A free line and a free chain begin frames; nothing but link and board changes. -/
theorem State.chooseFrames_frame (s : State) :
    s.chooseFrames = { s with link := s.link.choose, board := s.chooseFrames.board } := by
  rw [State.chooseFrames, (State.chooseFrame_frame (s.onLink Link.choose))]
  rfl

@[simp] theorem State.chooseFrames_pending (s : State) : s.chooseFrames.pending = s.pending := by rw [s.chooseFrames_frame]
@[simp] theorem State.chooseFrames_resetHeld (s : State) : s.chooseFrames.resetHeld = s.resetHeld := by rw [s.chooseFrames_frame]
@[simp] theorem State.chooseFrames_program (s : State) : s.chooseFrames.program = s.program := by rw [s.chooseFrames_frame]
@[simp] theorem State.chooseFrames_race (s : State) : s.chooseFrames.race = s.race := by rw [s.chooseFrames_frame]
@[simp] theorem State.chooseFrames_source (s : State) : s.chooseFrames.source = s.source := by rw [s.chooseFrames_frame]
@[simp] theorem State.chooseFrames_overrun (s : State) : s.chooseFrames.overrun = s.overrun := by rw [s.chooseFrames_frame]
@[simp] theorem State.chooseFrames_startMark (s : State) : s.chooseFrames.startMark = s.startMark := by rw [s.chooseFrames_frame]
@[simp] theorem State.chooseFrames_zeroing (s : State) : s.chooseFrames.zeroing = s.zeroing := by rw [s.chooseFrames_frame]
@[simp] theorem State.chooseFrames_takeoffs (s : State) : s.chooseFrames.takeoffs = s.takeoffs := by rw [s.chooseFrames_frame]
@[simp] theorem State.chooseFrames_lanes (s : State) : s.chooseFrames.lanes = s.lanes := by rw [s.chooseFrames_frame]
@[simp] theorem State.chooseFrames_results (s : State) : s.chooseFrames.results = s.results := by rw [s.chooseFrames_frame]
@[simp] theorem State.chooseFrames_log (s : State) : s.chooseFrames.log = s.log := by rw [s.chooseFrames_frame]
@[simp] theorem State.chooseFrames_clock (s : State) : s.chooseFrames.clock = s.clock := by rw [s.chooseFrames_frame]
@[simp] theorem State.chooseFrames_ports (s : State) : s.chooseFrames.ports = s.ports := by rw [s.chooseFrames_frame]
@[simp] theorem State.chooseFrames_samplers (s : State) : s.chooseFrames.samplers = s.samplers := by rw [s.chooseFrames_frame]
@[simp] theorem State.chooseFrames_link (s : State) : s.chooseFrames.link = s.link.choose := by rw [s.chooseFrames_frame]

@[simp] theorem State.tick_resetHeld (s : State) : s.tick.resetHeld = s.resetHeld := s.chooseFrames_resetHeld
@[simp] theorem State.tick_program (s : State) : s.tick.program = s.program := s.chooseFrames_program
@[simp] theorem State.tick_race (s : State) : s.tick.race = s.race := s.chooseFrames_race
@[simp] theorem State.tick_source (s : State) : s.tick.source = s.source := s.chooseFrames_source
@[simp] theorem State.tick_overrun (s : State) : s.tick.overrun = s.overrun := s.chooseFrames_overrun
@[simp] theorem State.tick_startMark (s : State) : s.tick.startMark = s.startMark := s.chooseFrames_startMark
@[simp] theorem State.tick_zeroing (s : State) : s.tick.zeroing = s.zeroing := s.chooseFrames_zeroing
@[simp] theorem State.tick_takeoffs (s : State) : s.tick.takeoffs = s.takeoffs := s.chooseFrames_takeoffs
@[simp] theorem State.tick_lanes (s : State) : s.tick.lanes = s.lanes := s.chooseFrames_lanes
@[simp] theorem State.tick_results (s : State) : s.tick.results = s.results := s.chooseFrames_results
@[simp] theorem State.tick_log (s : State) : s.tick.log = s.log := s.chooseFrames_log

/-! ### What a count moves -/

@[simp] theorem State.tick_clock (s : State) : s.tick.clock = s.clock.tick := congrArg Clock.tick s.chooseFrames_clock
@[simp] theorem State.tick_ports (s : State) : s.tick.ports = s.ports.tick := congrArg Ports.tick s.chooseFrames_ports
@[simp] theorem State.tick_samplers (s : State) : s.tick.samplers = ⟨s.samplers.start.tick, s.samplers.turn.tick⟩ :=
  congrArg (fun e : Ends Sampler => (⟨e.start.tick, e.turn.tick⟩ : Ends Sampler)) s.chooseFrames_samplers
@[simp] theorem State.tick_link (s : State) : s.tick.link = s.link.choose.tick := congrArg Link.tick s.chooseFrames_link
@[simp] theorem State.tick_board (s : State) : s.tick.board = s.chooseFrames.board.tick := rfl

/-- The rows that join the queue in a count. -/
theorem State.tick_pending (s : State) (h : s.pending = []) :
    s.tick.pending = s.passCount.dueTimers ++ s.dueRefresh s.passCount ++ s.passCount.dueLink := by
  have : s.passCount.pending = [] := s.chooseFrames_pending.trans h
  simp [State.tick, this]

/-- The phase of the clock stands, and its value rises by one at most. -/
theorem Clock.tick_cases (c : Clock) :
    c.tick = c ∨ (c.phase.counts = true ∧ c.value < Config.maxCount ∧ c.tick = { c with value := c.value + 1 }) := by
  unfold Clock.tick
  split <;> simp_all

/-! ### The transmitter (R180) -/

/-- The choice begins the reply in the slot or the oldest report, or leaves the link. -/
theorem Link.choose_cases (k : Link) :
    k.choose = k
      ∨ (∃ r, k.line = none ∧ k.effectDue = false ∧ k.slot = .holding r
          ∧ k.choose = { k with line := some ⟨true, r.frame, r.frame.length * byteTime⟩ })
      ∨ ∃ r rs, k.line = none ∧ k.effectDue = false ∧ (∀ a, k.slot ≠ .holding a) ∧ k.queue = r :: rs
          ∧ k.choose = { k with queue := rs, line := some ⟨false, r.frame, r.frame.length * byteTime⟩ } := by
  unfold Link.choose
  split
  · exact .inr (.inl ⟨_, ‹_›, ‹_›, ‹_›, rfl⟩)
  · exact .inr (.inr ⟨_, _, ‹_›, ‹_›, ‹_›, ‹_›, rfl⟩)
  · exact .inl rfl

/-- The end of a frame frees the line, with the slot at the end of a reply, and the transmitter may choose. -/
theorem Link.endLine_cases (k : Link) :
    (∃ bytes left, k.line = some ⟨true, bytes, left⟩ ∧ (k.endLine = k.endReply ∨ k.endLine = k.endReply.choose))
      ∨ (∀ bytes left, k.line ≠ some ⟨true, bytes, left⟩)
        ∧ (k.endLine = { k with line := none } ∨ k.endLine = ({ k with line := none } : Link).choose) := by
  unfold Link.endLine
  split
  · rename_i h
    refine .inl ⟨_, _, h, ?_⟩
    split <;> simp
  · rename_i h
    refine .inr ⟨fun bytes left e => h bytes left e, ?_⟩
    dsimp only
    split <;> simp

end Sys2Proof.Machine
end

