-- ==== Sys2Proof/Tests/Slice0.lean ====
section
/-! SUPPORT. Tests: ill-formed rows that the well-formedness check refuses, the rows that frames spell, one step of each
row with the values of the spec's worked sequences (each test's comment names its source), and for each statement with
hypotheses a witness that meets them. -/

namespace Sys2Proof.Tests

-- One test after the other: left to themselves, they wait for one another in more threads than a small machine allows.
set_option Elab.async false

open Sys2Proof.Machine

/-! ### Helpers -/

/-- The state after a row; no row ends the machine. -/
def after (i : Instr) (s : State) : State :=
  match exec i s with
  | .next t => t
  | _ => s

/-- The code and data of the reply in the slot. -/
def replyOf (s : State) : Option (ResultCode × List Byte) :=
  match s.link.slot with
  | .holding r => some (r.code, r.data)
  | _ => none

/-- Both groups TIMED, the rest as after reset. -/
def timedPorts : Ports := { Ports.reset with low := .timed, high := .timed }

/-- A race with one program, both groups TIMED, and one lane's context set. -/
def raceAt (p : Program) (race : RaceState) (clock : Clock) (l : Lane) (c : LaneContext) : State :=
  { State.reset with
    program := some p, race, clock, source := if race.started then some .line else none, startMark := some 62000
    ports := timedPorts, lanes := State.reset.lanes.set l c }

/-- The same race with a pad that has been seen pressed once. -/
def padSeen (l : Lane) (side : PoolEnd) (stamp : Stamp) (s : State) : State :=
  s.setLaneEnd l side { s.ports.laneEnd l side with pad := .pressSeen stamp }

/-- The same race with a button that has been seen pressed once. -/
def buttonSeen (l : Lane) (side : PoolEnd) (b : Fin 3) (stamp : Stamp) (s : State) : State :=
  s.setLine (.button l side b) (.pressSeen stamp)

/-- The 100 m final of 6.8, lanes 3, 5 and 7. -/
def final100 : Program :=
  { eventId := 412, lanes := 0xA8, lengths := 2, legs := 1, startKind := .platform, station := some .start
    policy := .fill, armDelay := 150000, window := 30000, disagree := 3000, floor := 1000, tolerance := 300
    stuckLimit := 100000 }

/-- The 4 × 100 m relay of 7.6, lanes 4 and 9. -/
def relay : Program := { final100 with lanes := 0x210, lengths := 8, legs := 4 }

/-- The 50 m final of 2.10, lanes 4 and 5. -/
def final50 : Program := { final100 with lanes := 0x30, lengths := 1, floor := 500 }

/-- A swimmer of the 100 m final with an expected wall. -/
def swimmer (e : Option ExpectedWall) : LaneContext :=
  { LaneContext.reset with status := .swimming, expected := e, source := some .line }

/-- Wall 1 of the 100 m final, ARMED. -/
def wallOne : ExpectedWall := ⟨1, .turn, 150000, true, true⟩

/-- Wall 2 of lane 3 of the 100 m final, ARMED (6.8). -/
def wallTwo : ExpectedWall := ⟨2, .start, 402417, true, true⟩

/-- Wall 1 of lane 3 as it was resolved (6.8). -/
def recordOne : WallRecord := ⟨1, .turn, 252417, .pad, some 252417, none, 0, false⟩

/-- The frame fits the state. -/
theorem takes {s : State} (f : Frame) (h : s.canTake f = true) : s.Takes f := (State.canTake_iff s f).mp h

/-! ### Well-formed rows: an ill-formed term for each check -/

theorem test_wf_refuses_empty_burst : (Instr.frameReceived []).wf = false := by decide
theorem test_wf_refuses_long_burst : (Instr.frameReceived (List.replicate 254 0)).wf = false := by decide +kernel
theorem test_wf_refuses_known_kind : (Instr.unknownKind 0x01 []).wf = false := by decide
theorem test_wf_refuses_long_unknown : (Instr.unknownKind 0x05 (List.replicate 250 0)).wf = false := by decide +kernel
theorem test_wf_refuses_line_set_of_a_lamp : (Instr.lineSet [0, 0, 0, 3]).wf = false := by decide
theorem test_wf_refuses_long_line_set : (Instr.lineSet (List.replicate 250 9)).wf = false := by decide +kernel
theorem test_wf_refuses_amend_of_a_known_action : (Instr.amend [0, 3, 0, 0, 0, 0, 0]).wf = false := by decide
theorem test_wf_refuses_long_amend : (Instr.amend (List.replicate 250 9)).wf = false := by decide +kernel
theorem test_wf_refuses_board_module_of_an_index : (Instr.boardModule [3, 0]).wf = false := by decide
theorem test_wf_refuses_long_board_module : (Instr.boardModule (List.replicate 250 9)).wf = false := by decide +kernel

/-- Every command that carries a payload whole is refused with 250 bytes and accepted with 249. -/
theorem test_wf_refuses_long_payloads :
    ∀ row ∈ ([.identAsk, .statusAsk, .linkSet, .controllerReset, .programLoad, .programAsk, .raceArm, .startManual,
        .raceRecall, .raceClose, .resultsRelease, .raceClear, .groupMode, .linesAsk, .platformZero, .platformLimits,
        .platformAsk, .samplerSet, .laneAsk, .wallsAsk, .resultsAsk, .logRead, .logClear, .boardMode, .boardArea,
        .boardMask, .boardWrite, .boardRead, .boardClear, .boardClearStop, .boardLayout] : List (Payload → Instr)),
      (row (List.replicate 250 0)).wf = false ∧ (row (List.replicate 249 0)).wf = true := by
  decide +kernel

/-! ### Frames spell rows (11.6) -/

/-- LINE_SET lane 3 TURN target LAMP value FAST; AMEND lane 4 TIME_WALL 482,731; BOARD_MODULE BLANK 1 (11.6, 11.7). -/
theorem test_frames_spell_rows :
    commandOf ⟨0x21, [3, 1, 0, 3]⟩ = .lamp 3 .turn .fast
      ∧ commandOf ⟨0x21, [3, 1, 0, 4]⟩ = .lineSet [3, 1, 0, 4]
      ∧ commandOf ⟨0x33, [4, 3, 0, 0x00, 0x07, 0x5D, 0xAB]⟩ = .amendTimeWall 4 0 482731
      ∧ commandOf ⟨0x48, [1, 1]⟩ = .blank 1
      ∧ commandOf ⟨0x05, [7]⟩ = .unknownKind 0x05 [7] := by decide +kernel

/-! ### Resets -/

/-- R186: after power-on the summary set holds RESET alone and the line runs at 115,200 baud. -/
theorem test_power_on :
    (after .powerOn (raceAt relay .running ⟨.running, 5⟩ 4 (swimmer none))).link.summary = 0x100
      ∧ (after .powerOn (raceAt relay .running ⟨.running, 5⟩ 4 (swimmer none))).race = .empty := by decide +kernel

/-- R37: while the line is held a pad press changes nothing; the release gives the power-on thresholds. -/
theorem test_reset_line :
    after .startLineEdge (after .resetLineAssert State.reset) = after .resetLineAssert State.reset
      ∧ ((after .resetLineRelease (after .resetLineAssert State.reset)).sampler .turn).load = 300 := by decide +kernel

/-- R185: the reply comes first and the race goes on; then the race is gone and the thresholds are kept. -/
theorem test_controller_reset :
    (after (.controllerReset []) (raceAt relay .loaded ⟨.stopped, 0⟩ 4 (swimmer none))).race = .loaded
      ∧ replyOf (after (.controllerReset []) (raceAt relay .loaded ⟨.stopped, 0⟩ 4 (swimmer none))) = some (.done, []) := by
  decide +kernel

/-- A CONTROLLER_RESET whose reply has been sent, with a START load threshold of 420. -/
def resetDue : State :=
  { State.reset with
    race := .loaded, program := some relay, samplers := ⟨{ Sampler.reset with load := 420 }, Sampler.reset⟩
    link := { Link.reset with effect := some .reset, effectDue := true, speed := 1 } }

/-- R185, R68. -/
theorem test_controller_reset_takes_effect :
    (after .controllerResetTakesEffect resetDue).program = none
      ∧ ((after .controllerResetTakesEffect resetDue).sampler .start).load = 420
      ∧ (after .controllerResetTakesEffect resetDue).link.speed = 1 := by decide +kernel

/-! ### The console link -/

/-- R177: sync A5, length 1, kind 01, check FE (1 + 1 + 254 = 256); with check FD the frame is discarded and counted. -/
theorem test_frame_received :
    (after (.frameReceived [0xA5, 0x01, 0x01, 0xFE]) State.reset).link.inbound = [⟨0x01, []⟩]
      ∧ (after (.frameReceived [0xA5, 0x01, 0x01, 0xFD]) State.reset).link.checkFail = 1 := by decide +kernel

/-- R177: length 0 and length 251 fail at once; bytes before a sync byte are passed over. -/
theorem test_frame_lengths :
    (after (.frameReceived [0x11, 0xA5, 0x00, 0xA5, 0xFB]) State.reset).link.checkFail = 2
      ∧ (after (.frameReceived [0x11, 0xA5, 0x00, 0xA5, 0xFB]) State.reset).link.rx = .hunting := by decide +kernel

/-- A partial frame. -/
def partialFrame : State := { State.reset with link := { Link.reset with rx := .inFrame [2, 1] 200 } }

/-- R177: 20 ms without a byte end the frame; a byte taken before the timeout continues it. -/
theorem test_frame_gap_timeout :
    (after .frameGapTimeout partialFrame).link.checkFail = 1 ∧ (after .frameGapTimeout partialFrame).link.rx = .hunting
      ∧ (after .frameGapTimeout (after (.frameReceived [0x10]) partialFrame)).link.rx = .inFrame [2, 1, 0x10] 0 := by
  decide +kernel

/-- A report on the line, a reply in the slot and a second report queued (11.8). -/
def loadedLine : State :=
  { State.reset with
    link := { Link.reset with
      line := some ⟨false, [1, 2, 3], 0⟩, slot := .holding ⟨0x02, .done, []⟩, queue := [.rank [], .fault .clockOverrun true] } }

/-- The next frame of that line at its end. -/
def replyEnds (s : State) : State :=
  let t := after .lineFrameEnd s
  { t with link := { t.link with line := t.link.line.map fun f => { f with left := 0 } } }

/-- The reply of that line at its end, with a command waiting. -/
def replyEnding : State :=
  let s := replyEnds loadedLine
  { s with link := { s.link with inbound := [⟨kindIdentAsk, []⟩] } }

/-- 11.8: when the TOUCH_NOTE ends the reply goes first; when a reply ends the slot is empty and the oldest report goes. -/
theorem test_line_frame_end :
    (after .lineFrameEnd loadedLine).link.line.map LineFrame.isReply = some true
      ∧ (after .lineFrameEnd (replyEnds loadedLine)).link.slot = .empty
      ∧ (after .lineFrameEnd (replyEnds loadedLine)).link.queue = [.fault .clockOverrun true] := by
  decide +kernel

/-- R179, 11.8: a command that is complete before a report ends is answered before the next report. -/
theorem test_command_before_next_report :
    let s := { loadedLine with link := { loadedLine.link with slot := .empty, inbound := [⟨kindIdentAsk, []⟩] } }
    (after .lineFrameEnd s).link.line = none ∧ (after .lineFrameEnd s).idle.pending = [.identAsk []]
      ∧ (after (.identAsk []) (after .lineFrameEnd s)).idle.link.line.map LineFrame.isReply = some true := by
  decide +kernel

/-- R179. -/
theorem test_unknown_kind :
    replyOf (after (.unknownKind 0x05 [1]) State.reset) = some (.unknownKind, [])
      ∧ replyOf (after (.identAsk [1]) State.reset) = some (.badLength, []) := by decide +kernel

/-- R183: "LT10", revision 1, lanes 10, rows 12, columns 32, capacity 512. -/
theorem test_ident_ask :
    replyOf (after (.identAsk []) State.reset)
      = some (.done, [0x4C, 0x54, 0x31, 0x30, 0x01, 0x0A, 0x0C, 0x20, 0x02, 0x00]) := by decide +kernel

/-- R182: race state, clock phase, clock, summary RESET, counts, fill, board busy, dirty count, fault sets, overrun. -/
theorem test_status_ask :
    replyOf (after (.statusAsk []) State.reset)
      = some (.done, [0, 0, 0, 0, 0, 0, 1, 0, 0, 0, 0, 0, 0, 0, 0, 0, 0, 0, 0, 0, 0, 0, 0])
      ∧ (after (.statusAsk []) State.reset).link.summary = 0 := by decide +kernel

/-- R184: the enables act at once, the speed waits; speed code 4 is refused. -/
theorem test_link_set :
    (after (.linkSet [3, 0x0F]) State.reset).link.enables = 0x0F
      ∧ (after (.linkSet [3, 0x0F]) State.reset).link.speed = 2
      ∧ replyOf (after (.linkSet [4, 0]) State.reset) = some (.badValue, []) := by decide +kernel

/-- A change to 460,800 baud whose reply has been sent, in the middle of a frame. -/
def speedDue : State :=
  { State.reset with
    link := { Link.reset with effect := some (.speed 3), effectDue := true, rx := .inFrame [2] 0 } }

/-- R184: the partial frame is discarded and counted. -/
theorem test_link_speed_change :
    (after .linkSpeedChange speedDue).link.speed = 3 ∧ (after .linkSpeedChange speedDue).link.checkFail = 1 := by
  decide +kernel

/-! ### The race program -/

/-- Load 1 of 1.6 as it is sent: lanes 0 to 9, timing settings out of range. -/
def loadOne : Payload :=
  [0x01, 0x9C, 0x03, 0xFF, 2, 1, 0, 0, 0, 0, 0, 0x13, 0x88, 0x00, 0x02, 0x49, 0xF0, 0x00, 0x32, 0x1F, 0x40, 0x07, 0xD0,
    0x00, 0x0A, 0xAE, 0x60]

/-- 1.6, load 1: the stored column, and clamped flag 1. -/
theorem test_program_load :
    (after (.programLoad loadOne) State.reset).program
      = some ⟨412, 0x3FF, 2, 1, .platform, some .start, .fill, 100000, 100000, 100, 5000, 1000, 600000⟩
      ∧ replyOf (after (.programLoad loadOne) State.reset) = some (.done, [1]) := by decide +kernel

/-- R6: with legs 0 and policy 9 the first wrong field is 4. -/
theorem test_program_load_refused :
    replyOf (after (.programLoad ((loadOne.set 5 0).set 8 9)) State.reset) = some (.badValue, [4]) := by decide +kernel

/-- R15: without a program PROGRAM_ASK is refused; with one it returns the stored record. -/
theorem test_program_ask :
    replyOf (after (.programAsk []) State.reset) = some (.badState, [])
      ∧ (replyOf (after (.programAsk []) (raceAt relay .loaded ⟨.stopped, 0⟩ 4 LaneContext.reset))).map Prod.fst
        = some .done := by decide +kernel

/-! ### Race control -/

/-- The 50 m final of 2.10 before the arm. -/
def loaded50 : State := raceAt final50 .loaded ⟨.stopped, 0⟩ 5 { LaneContext.reset with status := .ready }

/-- 2.10: armed, PRESTART 0, lanes 4 and 5 watched for leg 1; and R21: with LOW in LEVEL, lane 4 keeps the race LOADED. -/
theorem test_race_arm :
    (after (.raceArm []) loaded50).clock = ⟨.prestart, 0⟩
      ∧ ((after (.raceArm []) loaded50).channel .start 5).watch = some 1
      ∧ ((after (.raceArm []) loaded50).channel .start 6).watch = none
      ∧ replyOf (after (.raceArm []) { loaded50 with ports := { timedPorts with low := .level } })
        = some (.badState, [1, 1]) := by decide +kernel

/-- The 50 m final of 2.10 in ARMED, with lane 5's prestart takeoff at 41,150. -/
def armed50 : State :=
  raceAt final50 .armed ⟨.prestart, 41211⟩ 5
    { LaneContext.reset with status := .ready, takeoff := some ⟨1, .pre 41150⟩ }

/-- 2.10: the edge stamped PRE 41,210 starts the race at clock 1; lane 5's reaction is −60, an early start. -/
theorem test_start_line_edge :
    let t := after .startLineEdge { armed50 with ports := { timedPorts with startLine := .pressSeen (.pre 41210) } }
    t.clock = ⟨.running, 1⟩ ∧ (t.context 5).reaction = some (-60) ∧ (t.context 5).judgements = [.earlyStart (-60)]
      ∧ (t.context 4).expected.map ExpectedWall.armTime = some 150000 := by decide +kernel

/-- R25: the mark of a manual start is the prestart value; the running clock reads 0. -/
theorem test_start_manual :
    let t := after (.startManual []) armed50
    t.clock = ⟨.running, 0⟩ ∧ t.startMark = some 41211 ∧ replyOf t = some (.done, [0x00, 0x00, 0xA0, 0xFB]) := by
  decide +kernel

/-- 2.11: the recall leaves LOADED, the clock at 0 and the lanes READY. -/
theorem test_race_recall :
    let t := after (.raceRecall []) (raceAt final50 .running ⟨.running, 3400⟩ 4 (swimmer (some wallOne)))
    t.race = .loaded ∧ t.clock = ⟨.stopped, 0⟩ ∧ (t.context 4).status = .ready ∧ (t.context 4).expected = none := by
  decide +kernel

/-- 8.6: at the close a lane that never registered at its last wall is NO_TIME, and the clock is held. -/
theorem test_race_close :
    let t := after (.raceClose []) (raceAt final100 .running ⟨.running, 600000⟩ 3 (swimmer (some wallTwo)))
    t.race = .complete ∧ t.clock = ⟨.held, 600000⟩ ∧ (t.context 3).status = .noTime := by decide +kernel

/-- R32: released in COMPLETE; refused in RUNNING. -/
theorem test_results_release :
    (after (.resultsRelease []) (raceAt final100 .complete ⟨.held, 251339⟩ 3 LaneContext.reset)).race = .official
      ∧ replyOf (after (.resultsRelease []) (raceAt final100 .running ⟨.running, 5⟩ 3 LaneContext.reset))
        = some (.badState, []) := by decide +kernel

/-- R34. -/
theorem test_race_clear :
    let t := after (.raceClear []) (raceAt final100 .official ⟨.held, 251339⟩ 3 (swimmer none))
    t.race = .empty ∧ t.program = none ∧ (t.context 3).status = .idle ∧ t.stuckLimit = 100000 := by decide +kernel

/-! ### Lane ports -/

/-- R43: the group's lamps go dark and the pads are enabled again; the other group is kept. -/
theorem test_group_mode :
    let t := after (.groupMode [0, 1]) (after (.padEnable 7 .turn false) State.reset)
    t.ports.low = .level ∧ replyOf t = some (.done, []) := by decide +kernel

/-- R43: GROUP_MODE HIGH TIMED. -/
theorem test_group_mode_high :
    (after (.groupMode [1, 1]) State.reset).ports.high = .timed
      ∧ (after (.groupMode [1, 1]) State.reset).ports.low = .level
      ∧ replyOf (after (.groupMode [2, 1]) State.reset) = some (.badValue, []) := by decide +kernel

/-- R45: each target writes its own item alone. -/
theorem test_line_set_targets :
    (after (.lamp 3 .turn .slow) State.reset).ports.laneEnd 3 .turn = { LaneEnd.reset with lamp := .slow }
      ∧ (after (.padEnable 3 .turn false) State.reset).ports.laneEnd 3 .turn = { LaneEnd.reset with padOn := false }
      ∧ (after (.buttonEnable 3 .turn false) State.reset).ports.laneEnd 3 .turn
        = { LaneEnd.reset with buttonsOn := false } := by decide +kernel

/-- R45: a lamp value for a pad enable is refused. -/
theorem test_line_set : replyOf (after (.lineSet [3, 1, 1, 2]) State.reset) = some (.badValue, []) := by decide +kernel

/-- R48: mode, start line level, and ten entries of eight bytes. -/
theorem test_lines_ask :
    (replyOf (after (.linesAsk [1]) State.reset)).map (fun r => r.2.length) = some 82
      ∧ replyOf (after (.linesAsk [2]) State.reset) = some (.badValue, []) := by decide +kernel

/-! ### Platforms -/

/-- A START channel of lane 0 with a raw value and an offset. -/
def channelState (c : Channel) : State :=
  { State.reset with
    samplers := ⟨{ Sampler.reset with channels := (Sampler.reset).channels.set 0 c }, Sampler.reset⟩ }

/-- 4.9: with offset 312 a reading of 655 gives 343 and LOADED. -/
theorem test_platform_conversion :
    (after (.platformConversion .start 655) (channelState { Channel.reset with offset := 312 })).channel .start 0
      = { Channel.reset with offset := 312, raw := 655, corrected := 343, loaded := true } := by decide +kernel

/-- 4.9: with offset 41 and a leg-2 watch a reading of 120 empties the platform, a takeoff of leg 2. -/
theorem test_platform_takeoff :
    let t := after (.platformConversion .start 120)
      { channelState { Channel.reset with offset := 41, loaded := true, watch := some 2 } with
        clock := ⟨.running, 482540⟩ }
    t.takeoffs = [⟨.start, 0, 2, .race 482540⟩] ∧ (t.channel .start 0).watch = none := by decide +kernel

/-- 4.9: the zeroing conversion of a plate that reads 312 takes it as the offset; nothing is placed in the slot yet. -/
theorem test_platform_zero :
    let t := after (.platformConversion .start 312) (after (.platformZero []) (channelState Channel.reset))
    (t.channel .start 0).offset = 312 ∧ (t.channel .start 0).corrected = 0 ∧ t.link.slot = .zeroing := by decide +kernel

/-- A zeroing of both samplers that has seen every channel. -/
def zeroed : State :=
  { State.reset with zeroing := some ⟨⟨some [], some []⟩, []⟩, link := { Link.reset with slot := .zeroing } }

/-- 4.9: the reply names both ends, with an empty skipped set. -/
theorem test_zeroing_complete : replyOf (after .zeroingComplete zeroed) = some (.done, [3, 0, 0, 0]) := by decide +kernel

/-- R59: 2,000 and 1,500 are stored as 1,022 and 1,022. -/
theorem test_platform_limits :
    replyOf (after (.platformLimits [1, 0x07, 0xD0, 0x05, 0xDC]) State.reset) = some (.done, [0x03, 0xFE, 0x03, 0xFE])
      ∧ ((after (.platformLimits [1, 0x07, 0xD0, 0x05, 0xDC]) State.reset).sampler .start).load = 300 := by
  decide +kernel

/-- R67: raw 655, corrected 343, offset 312, LOADED, no watch, no fault, ENABLED, thresholds 300 and 150. -/
theorem test_platform_ask :
    replyOf (after (.platformAsk [0, 0])
      (channelState { Channel.reset with offset := 312, raw := 655, corrected := 343, loaded := true }))
      = some (.done, [0x02, 0x8F, 0x01, 0x57, 0x01, 0x38, 1, 0xFF, 0, 1, 0x01, 0x2C, 0x00, 0x96]) := by decide +kernel

/-- R65: a disabled sampler keeps the offset alone. -/
theorem test_sampler_set :
    let t := after (.samplerSet [0, 0]) (channelState { Channel.reset with offset := 312, raw := 655, loaded := true })
    t.channel .start 0 = { Channel.reset with offset := 312 } ∧ replyOf t = some (.done, [0, 1]) := by decide +kernel

/-- R53, R68: both rotations stand at lane 0 at the first count, both samplers convert in it, lane 0 of both is not
converted at the same count, and a count holds one conversion of a sampler. -/
theorem test_rotations :
    (State.reset.samplers.start.rotation = 0 ∧ State.reset.samplers.turn.rotation = 0)
      ∧ (let s := after (.platformConversion .turn 700) (after (.platformConversion .start 700) State.reset)
        (s.channel .start 0).raw = 700 ∧ (s.channel .turn 0).raw = 0 ∧ (s.channel .turn 9).raw = 700
          ∧ after (.platformConversion .turn 5) s = s)
      ∧ let s := after (.platformConversion .turn 700) (after (.platformConversion .start 700) State.reset.tick)
        (s.channel .start 1).raw = 700 ∧ (s.channel .turn 0).raw = 700 := by decide +kernel

/-- R61: a takeoff reaches the Lane Engine in the count of its conversion (log entry 32). -/
theorem test_takeoff_arrives_at_once :
    let s := after (.platformConversion .start 118) (channelState { Channel.reset with loaded := true, watch := some 2 })
    s.idle.pending = [.takeoff .start 0] ∧ s.idle.clock = s.clock := by decide +kernel

/-! ### Touches, presses and takeoffs -/

/-- 3.8: the touch at 252,417 is seen at its first sample and recognised at its second. -/
theorem test_contact_line_sample :
    let s := raceAt final100 .running ⟨.running, 252417⟩ 3 (swimmer (some wallOne))
    let seen := after (.contactLineSample (.pad 3 .turn) true) s
    seen.ports.line (.pad 3 .turn) = .pressSeen (.race 252417)
      ∧ ((after (.contactLineSample (.pad 3 .turn) true) { seen with clock := ⟨.running, 252418⟩ }).context 3).resolved
        = [recordOne] := by decide +kernel

/-- 6.8, lane 3: the touch of wall 1 at 252,417 resolves it and creates wall 2 with arm time 402,417. -/
theorem test_pad_press :
    let t := after (.padPress 3 .turn)
      (padSeen 3 .turn (.race 252417) (raceAt final100 .running ⟨.running, 252418⟩ 3 (swimmer (some wallOne))))
    (t.context 3).resolved = [recordOne]
      ∧ (t.context 3).expected = some ⟨2, .start, 402417, false, false⟩ := by decide +kernel

/-- 6.8, lane 3: the touch of wall 2 at 532,688 makes the lane FINISHED, provisional, collecting until 562,688. -/
theorem test_pad_press_final :
    let t := after (.padPress 3 .start)
      (padSeen 3 .start (.race 532688) (raceAt final100 .running ⟨.running, 532689⟩ 3 (swimmer (some wallTwo))))
    (t.context 3).status = .finished ∧ (t.context 3).final = some ⟨532688, false⟩
      ∧ (t.context 3).collecting = some ⟨2, .start, some 532688, [], 562688⟩
      ∧ (t.ports.laneEnd 3 .start).lamp = .on := by decide +kernel

/-- R166, R168: the first final shows its place and 53.26 on lane 3's row and starts a freeze of 5 s, which marks row 1; a
final after it leaves the freeze. -/
theorem test_first_final_starts_the_freeze :
    let s := padSeen 3 .start (.race 532688) (raceAt final100 .running ⟨.running, 532689⟩ 3 (swimmer (some wallTwo)))
    let t := after (.padPress 3 .start) s
    let u := after (.padPress 3 .start) { s with board := { s.board with spent := true } }
    (t.board.freeze = some ⟨532688, 582689⟩ ∧ t.board.spent = true
        ∧ (allRows.filter fun d => t.board.dirty[d]) = [1, 5])
      ∧ (t.board.cells[5].toList.drop 27).map Cell.code = [53, 51, 46, 50, 54] ∧ t.board.cells[5][1] = ⟨49, 7⟩
      ∧ u.board.freeze = none := by decide +kernel

/-- 6.8, lane 7: button 3 at 540,980 opens wall 2 until 570,980. -/
theorem test_button_press :
    let t := after (.buttonPress 7 .start 2)
      (buttonSeen 7 .start 2 (.race 540980)
        (raceAt final100 .running ⟨.running, 540981⟩ 7 (swimmer (some ⟨2, .start, 405930, true, true⟩))))
    (t.context 7).collecting = some ⟨2, .start, none, [⟨2, 540980⟩], 570980⟩ ∧ (t.context 7).expected = none := by
  decide +kernel

/-- R39, R51: the release of a stuck pad clears its fault. -/
theorem test_line_release :
    let s := State.reset.setLaneEnd 6 .start { LaneEnd.reset with pad := .releaseSeen, held := some 450201, stuck := true }
    (after (.lineRelease (.pad 6 .start)) s).ports.laneEnd 6 .start = LaneEnd.reset
      ∧ (after (.lineRelease (.pad 6 .start)) s).link.queue = [.fault (.padStuck 6 .start) false] := by decide +kernel

/-- 3.8: at 100,000 counts the flag is raised, with a FAULT_NOTE and then a JUDGE_NOTE PAD_STUCK. -/
theorem test_stuck_timer_expiry :
    let s := (raceAt final100 .running ⟨.running, 700000⟩ 7 (swimmer (some wallOne))).setLaneEnd 7 .start
      { LaneEnd.reset with pad := .pressed, held := some 100000 }
    let t := after (.stuckTimerExpiry 7 .start) s
    (t.ports.laneEnd 7 .start).stuck = true
      ∧ t.link.queue = [.fault (.padStuck 7 .start) true, .judge 7 (.padStuck .start) (.padStuck .start) 1] := by
  decide +kernel

/-- A takeoff of lane 4 at START on its way, in the relay of 7.6. -/
def takeoffOf (leg : Nat) (stamp : Stamp) (race : RaceState) (c : LaneContext) : State :=
  { raceAt relay race ⟨.running, 512800⟩ 4 c with takeoffs := [⟨.start, 4, leg, stamp⟩] }

/-- The relay's lane 4, with its leg records open. -/
def relaySwimmer : LaneContext :=
  { swimmer (some ⟨3, .turn, 632731, false, false⟩) with legs := [⟨.pending, none⟩, ⟨.pending, none⟩, ⟨.pending, none⟩] }

/-- 7.6: the leg-1 takeoff at RACE 6,540 is the reaction, above the floor of 1,000. -/
theorem test_takeoff :
    let t := after (.takeoff .start 4) (takeoffOf 1 (.race 6540) .running relaySwimmer)
    (t.context 4).reaction = some 6540 ∧ (t.context 4).judgements = [] ∧ t.takeoffs = [] := by decide +kernel

/-- 7.6: after wall 2 resolved at 482,731, a leg-2 takeoff at 482,400 has margin −331 and is EARLY. -/
theorem test_takeoff_exchange :
    let c := { relaySwimmer with resolved := [recordOne, ⟨2, .start, 482731, .pad, some 482731, none, 0, false⟩] }
    let t := after (.takeoff .start 4) (takeoffOf 2 (.race 482400) .running c)
    (t.context 4).leg 2 = some ⟨.early, some (-331)⟩ ∧ (t.context 4).judgements = [.earlyTakeoff 2 (-331)] := by
  decide +kernel

/-! ### Timers -/

/-- 5.12: at 150,000 wall 1 becomes ARMED. -/
theorem test_arm_timer_expiry :
    ((after (.armTimerExpiry 3) (raceAt final100 .running ⟨.running, 150000⟩ 3
      (swimmer (some ⟨1, .turn, 150000, false, false⟩)))).context 3).expected = some wallOne := by decide +kernel

/-- 6.8, lane 7: no pad, presses 540,980, 541,200 and 541,450: BACKUP_MEDIAN 541,200, confirmed, BACKUP_TIMED (2). -/
theorem test_close_timer_expiry :
    let c := { swimmer none with
      collecting := some ⟨2, .start, none, [⟨2, 540980⟩, ⟨0, 541200⟩, ⟨1, 541450⟩], 570980⟩, reaction := some 6812
      resolved := [⟨1, .turn, 255930, .pad, some 255930, none, 0, false⟩] }
    let t := after (.closeTimerExpiry 7) (raceAt final100 .running ⟨.running, 570980⟩ 7 c)
    (t.context 7).final = some ⟨541200, true⟩ ∧ (t.context 7).judgements = [.backupTimed 2]
      ∧ (t.context 7).resolved.getLast?
        = some ⟨2, .start, 541200, .backupMedian, none, some 541200, 3, false⟩ := by decide +kernel

/-- 7.6, lane 4: the close of wall 2 at 512,731 judges the pending takeoff of leg 2: LEGAL, −191. -/
theorem test_close_timer_judges_exchange :
    let c := { relaySwimmer with
      collecting := some ⟨2, .start, some 482731, [⟨0, 483100⟩, ⟨1, 482900⟩, ⟨2, 483500⟩], 512731⟩
      takeoff := some ⟨2, .race 482540⟩, reaction := some 6540, resolved := [recordOne] }
    let t := after (.closeTimerExpiry 4) (raceAt relay .running ⟨.running, 512731⟩ 4 c)
    (t.context 4).leg 2 = some ⟨.legal, some (-191)⟩ ∧ (t.context 4).takeoff = none
      ∧ (t.context 4).expected.map ExpectedWall.armTime = some 632731 := by decide +kernel

/-- R30: at 35,999,999 the fault is raised and the race closed. -/
theorem test_clock_saturation :
    let t := after .clockSaturation (raceAt final100 .running ⟨.running, 35999999⟩ 3 (swimmer (some wallTwo)))
    t.overrun = true ∧ t.race = .complete ∧ (t.context 3).status = .noTime := by decide +kernel

/-- R18. -/
theorem test_prestart_clock_limit : after .prestartClockLimit State.reset = State.reset := by decide +kernel

/-- R168: at its end moment the freeze ends and row 1 is dirty. -/
theorem test_freeze_end :
    let s := { State.reset with
      clock := ⟨.running, 582689⟩, board := { Board.reset with freeze := some ⟨532688, 582689⟩ } }
    (after .freezeEnd s).board.freeze = none ∧ (after .freezeEnd s).board.dirty[1] = true := by decide +kernel

/-! ### Lanes, results, amendments -/

/-- A lane of the relay whose eight walls have resolved (8.8). -/
def relayDone : LaneContext :=
  { LaneContext.reset with
    status := .finished, final := some ⟨2011845, true⟩
    resolved := [231500, 482731, 740055, 996408, 1250912, 1505377, 1758060, 2011845].mapIdx fun i t =>
      ⟨i + 1, wallEnd (i + 1), t, .pad, some t, none, 0, false⟩ }

/-- 8.8: the legs are 4,827, 5,137, 5,089 and 5,065 hundredths. -/
theorem test_results_ask :
    relayDone.legTimes relay = [some 4827, some 5137, some 5089, some 5065]
      ∧ relayDone.lengthTimes = [2315, 2512, 2573, 2564, 2545, 2544, 2527, 2538]
      ∧ (replyOf (after (.resultsAsk [4]) (raceAt relay .complete ⟨.held, 2041845⟩ 4 relayDone))).map Prod.fst
        = some .done := by decide +kernel

/-- R88: lane 10 does not exist; an IDLE lane's status is 0. -/
theorem test_lane_ask :
    replyOf (after (.laneAsk [10]) State.reset) = some (.badValue, [])
      ∧ (replyOf (after (.laneAsk [9]) State.reset)).map (fun r => r.2.take 3) = some [9, 0, 0] := by decide +kernel

/-- R89: eight walls are resolved; one record is asked for, 17 bytes. -/
theorem test_walls_ask :
    (replyOf (after (.wallsAsk [4, 8, 2]) (raceAt relay .complete ⟨.held, 2041845⟩ 4 relayDone))).map
      (fun r => (r.2.length, r.2.take 2)) = some (18, [8, 8]) := by decide +kernel

/-- 8.6: a disqualified finisher keeps its final and its code. -/
theorem test_amend_disqualify :
    let t := after (.amendDisqualify 4 12 0) (raceAt relay .complete ⟨.held, 2041845⟩ 4 relayDone)
    (t.context 4).status = .disqualified ∧ (t.context 4).final = some ⟨2011845, true⟩
      ∧ t.results.amend[4] = ⟨some 12, true⟩ ∧ replyOf t = some (.done, [4, 0, 5]) := by decide +kernel

/-- R142. -/
theorem test_amend_did_not_start :
    let t := after (.amendDidNotStart 4 7 0) (raceAt relay .running ⟨.running, 600⟩ 4 relaySwimmer)
    (t.context 4).status = .didNotStart ∧ (t.context 4).expected = none ∧ t.results.amend[4] = ⟨none, true⟩ := by
  decide +kernel

/-- 8.6: the restored lane has its final, so it is FINISHED and ranked. -/
theorem test_amend_restore :
    let t := after (.amendRestore 4 0 0) (raceAt relay .complete ⟨.held, 2041845⟩ 4
      { relayDone with status := .disqualified })
    (t.context 4).status = .finished ∧ t.results.places[4] = some 1 := by decide +kernel

/-- R107: a hand time of 253,000 for wall 1 makes wall 2 expected with arm time 403,000. -/
theorem test_amend_time_wall :
    let t := after (.amendTimeWall 3 0 253000) (raceAt final100 .running ⟨.running, 260000⟩ 3
      { swimmer (some wallOne) with reaction := some 6812 })
    (t.context 3).resolved = [⟨1, .turn, 253000, .hand, none, none, 0, false⟩]
      ∧ (t.context 3).judgements = [.handTimed 1]
      ∧ (t.context 3).expected.map ExpectedWall.armTime = some 403000 := by decide +kernel

/-- R138: an unknown action is refused in RUNNING. -/
theorem test_amend :
    replyOf (after (.amend [4, 4, 0, 0, 0, 0, 0]) (raceAt relay .running ⟨.running, 600⟩ 4 relaySwimmer))
      = some (.badValue, []) := by decide +kernel

/-- 8.6: lanes 3 and 5 share 5,326 hundredths and place 2; lane 2 is placed 4. -/
theorem test_rerank :
    let finisher (t : Nat) : LaneContext := { LaneContext.reset with status := .finished, final := some ⟨t, false⟩ }
    let s : State := { raceAt { final100 with lanes := 0x7C } .running ⟨.running, 540101⟩ 4 (finisher 531870) with
      lanes := #v[LaneContext.reset, LaneContext.reset, finisher 540100, finisher 532688, finisher 531870, finisher 532650,
        swimmer none, LaneContext.reset, LaneContext.reset, LaneContext.reset] }
    s.rerank.results.order = [4, 3, 5, 2]
      ∧ s.rerank.results.places = #v[none, none, some 4, some 2, some 1, some 2, none, none, none, none] := by
  decide +kernel

/-! ### The log -/

/-- One entry of a log. -/
def anEntry (n : Nat) : LogEntry := ⟨n, .none, .start, none, .ignored .notArmedRace⟩

/-- 9.7: the entry that makes the fill 384 spends the notice; a read of eight leaves 376 and arms it. -/
theorem test_log_read :
    let g : EventLog := ⟨(List.range 383).map fun n => anEntry (1000 + n), 1383, 0, true⟩
    let s := { State.reset with log := g.add .none .start none (.ignored .notArmedRace) }
    s.log.armed = false ∧ (after (.logRead [8]) s).log.entries.length = 376
      ∧ (after (.logRead [8]) s).log.entries.head?.map LogEntry.seq = some 1008
      ∧ (after (.logRead [8]) s).log.armed = true := by decide +kernel

/-- 9.7: the clear keeps the counter at 1,521. -/
theorem test_log_clear :
    (after (.logClear []) { State.reset with log := ⟨[anEntry 1520], 1521, 1, false⟩ }).log = ⟨[], 1521, 0, true⟩ := by
  decide +kernel

/-! ### The board -/

/-- R171: leaving OFF marks every row dirty and puts BLANK-off in the mode frame slot. -/
theorem test_board_mode :
    let t := after (.boardMode [2, 0, 0]) State.reset
    t.board.mode = .live ∧ t.board.modeSlot = some false ∧ t.board.dirtyCount = 12 := by decide +kernel

/-- 10.9: SPAN (2, 2), width 12, height 2. -/
theorem test_board_area :
    (after (.boardArea [1, 2, 2, 12, 2]) State.reset).board.area = ⟨2, 2, 13, 3⟩
      ∧ (after (.boardArea [1, 2, 2, 12, 2]) State.reset).board.cursor = ⟨2, 2⟩ := by decide +kernel

/-- 10.9: the area and the masks of the name column. -/
def nameColumn : State :=
  { State.reset with
    board := { Board.reset with
      area := ⟨2, 2, 13, 3⟩, cursor := ⟨2, 2⟩, window := ⟨.inside, ⟨8, 3, 13, 3⟩⟩, locks := ⟨true, false, false, false⟩ } }

/-- 10.9: the mask command of the name column. -/
theorem test_board_mask :
    (after (.boardMask [1, 8, 3, 13, 3, 1, 0, 0, 0]) State.reset).board.window = ⟨.inside, ⟨8, 3, 13, 3⟩⟩
      ∧ (after (.boardMask [1, 8, 3, 13, 3, 1, 0, 0, 0]) State.reset).board.locks = ⟨true, false, false, false⟩ := by
  decide +kernel

/-- 10.9: 24 cells of colour 3: 18 written, 6 skipped, the cursor back at (2, 2), the cells in colour 7. -/
theorem test_board_write :
    let t := after (.boardWrite (24 :: (List.replicate 24 [65, 3]).flatten)) nameColumn
    replyOf t = some (.done, [18, 6, 2, 2]) ∧ t.board.cellAt 7 3 = ⟨65, 7⟩ ∧ t.board.cellAt 8 3 = Cell.blank
      ∧ t.board.dirty[2] = true ∧ t.board.dirty[3] = true ∧ t.board.dirtyCount = 2 := by decide +kernel

/-- R161: one cell and the cursor after it. -/
theorem test_board_read : replyOf (after (.boardRead [1]) nameColumn) = some (.done, [32, 7, 3, 2]) := by decide +kernel

/-- A clear of the whole board that stands at row 2 (10.9). -/
def clearing : State := { State.reset with board := { Board.reset with clear := some ⟨⟨32, 0⟩, 2, 0⟩ } }

/-- 10.9: BOARD_CLEAR with code 32 and colour 0 starts at row 0. -/
theorem test_board_clear :
    (after (.boardClear [32, 0]) State.reset).board.clear = some ⟨⟨32, 0⟩, 0, 10⟩
      ∧ replyOf (after (.boardWrite [1, 65, 3]) clearing) = some (.busy, []) := by decide +kernel

/-- 10.9: in row 2 columns 0, 1 and 23 to 31 are auto fields: 21 cells are dark. -/
theorem test_clear_row_fill :
    let t := after .clearRowFill clearing
    ((List.range 32).filter fun x => t.board.cellAt x 2 = ⟨32, 0⟩).length = 21
      ∧ t.board.clear.map Clear.nextRow = some 3 := by decide +kernel

/-- 10.9: the stop says that a clear was stopped. -/
theorem test_board_clear_stop :
    replyOf (after (.boardClearStop []) clearing) = some (.done, [1])
      ∧ (after (.boardClearStop []) clearing).board.clear = none := by decide +kernel

/-- R164: a place column of 31 is stored as 30, with clamped flag 1. -/
theorem test_board_layout :
    let t := after (.boardLayout [1, 0, 31, 23, 24, 1, 12, 5, 1]) State.reset
    t.board.layout.placeCol = 30 ∧ replyOf t = some (.done, [1]) ∧ t.board.layout.policy = .restart := by decide +kernel

/-- A LIVE board whose slots are empty. -/
def live : State := { State.reset with board := { Board.reset with mode := .live, modeSlot := none } }

/-- R174: BRIGHTNESS 16 is refused, 15 enters the slot; in OFF it is refused. -/
theorem test_brightness :
    (after (.brightness 15) live).board.moduleSlot = some (.brightness 15)
      ∧ replyOf (after (.brightness 16) live) = some (.badValue, [])
      ∧ replyOf (after (.brightness 15) State.reset) = some (.badState, []) := by decide +kernel

/-- R174: BLANK-on is taken in OFF; SELF_TEST and MODULE_RESET ignore their value; a full slot is BUSY. -/
theorem test_module_commands :
    (after (.blank 1) State.reset).board.moduleSlot = some (.blank true)
      ∧ (after (.selfTest 9) State.reset).board.moduleSlot = some .selfTest
      ∧ (after (.moduleReset 9) State.reset).board.moduleSlot = some .moduleReset
      ∧ replyOf (after (.selfTest 0) { live with board := { live.board with moduleSlot := some .selfTest } })
        = some (.busy, []) := by decide +kernel

/-- R174: an index above 3 is refused. -/
theorem test_board_module : replyOf (after (.boardModule [4, 0]) live) = some (.badValue, []) := by decide +kernel

/-- R172: after a row frame the lowest dirty row is sent. -/
theorem test_board_frame_end :
    let s := { live with
      board := { live.board with
        chain := some ⟨.row 3 (Vector.replicate 32 Cell.blank), 0, false⟩, dirty := Board.reset.dirty.set 5 true } }
    (after .boardFrameEnd s).board.chain = some ⟨.row 5 (Vector.replicate 32 Cell.blank), 20, false⟩
      ∧ (after .boardFrameEnd s).board.dirty[5] = false := by decide +kernel

/-- R171: a test frame shows code 127 in colour 7 in every cell. -/
theorem test_test_frame :
    let s := { live with board := { live.board with mode := .test, chain := some ⟨.mode false, 0, false⟩, rotation := 11 } }
    (after .boardFrameEnd s).board.chain = some ⟨.test 0 (Vector.replicate 32 ⟨127, 7⟩), 20, false⟩ := by decide +kernel

/-- R173: under RESTART a write to row 1 under the clock field leaves its frame, and one beside it begins the frame again. -/
theorem test_restart_needs_new_content :
    let s := { live with
      board := { live.board with
        chain := some ⟨.row 1 (Vector.replicate 32 Cell.blank), 9, false⟩, layout := { Layout.reset with policy := .restart }
        cursor := ⟨12, 1⟩, area := ⟨11, 1, 12, 1⟩ } }
    let t := after (.boardWrite [1, 65, 7]) s
    let u := after (.boardWrite [2, 65, 7, 66, 7]) s
    t.board.chain = s.board.chain ∧ t.board.dirty[1] = true ∧ u.board.chain.map ChainFrame.left = some 20 := by
  decide +kernel

/-- R167, R172: on a free chain the clock row is sent; at PRESTART it shows 0:00.0 in columns 14 to 19. -/
theorem test_clock_row_due :
    (after .clockRowDue { live with clock := ⟨.prestart, 700⟩ }).board.chain
      = some ⟨.row 1 (putCells (Vector.replicate 32 Cell.blank) 14
          [⟨48, 7⟩, ⟨58, 7⟩, ⟨48, 7⟩, ⟨48, 7⟩, ⟨46, 7⟩, ⟨48, 7⟩]), 20, false⟩ := by decide +kernel

/-! ### Witnesses: for each statement with hypotheses, states and operands that meet them -/

/-- A state after reset takes any frame. -/
theorem reset_takes (f : Frame) : State.reset.Takes f := ⟨rfl, rfl, rfl, .inl rfl⟩

/-- A race takes any frame. -/
theorem race_takes (p : Program) (r : RaceState) (k : Clock) (l : Lane) (c : LaneContext) (f : Frame) :
    (raceAt p r k l c).Takes f := ⟨rfl, rfl, rfl, .inl rfl⟩

theorem test_witness_StepRunsFront :
    ({ State.reset with pending := [.padPress 0 .turn, .powerOn] } : State).pending = .padPress 0 .turn :: [.powerOn] :=
  rfl

/-- A race one count before a wall's arm time, with these frames waiting, a link effect, a zeroing. -/
def tickState (inbound : List Frame) (effect : Option LinkEffect) (zeroing : Option Zeroing) : State :=
  { raceAt final100 .running ⟨.running, 149999⟩ 3 (swimmer (some ⟨1, .turn, 150000, false, false⟩)) with
    zeroing, link := { Link.reset with inbound, effect, effectDue := effect.isSome } }

/-- A state in which a count passes, with a timer that runs out in it; each of the rows due at once; the reset line. -/
theorem test_witness_IdleTakesOneCount :
    (let s := tickState [] none none
    s.pending = [] ∧ s.resetHeld = false ∧ s.takeoffs = [] ∧ s.link.effect = none ∧ s.zeroing = none ∧ s.link.inbound = []
      ∧ s.board.chain = none ∧ s.link.line = none ∧ Instr.armTimerExpiry 3 ∈ s.tick.pending)
    ∧ ((tickState [⟨0x01, []⟩] none none).idle.pending = [.identAsk []]
      ∧ (tickState [⟨0x01, []⟩] (some .reset) (some ⟨⟨some [], none⟩, []⟩)).idle.pending
        = [.controllerResetTakesEffect, .zeroingComplete]
      ∧ (tickState [] (some (.speed 3)) none).idle.pending = [.linkSpeedChange]
      ∧ ({ tickState [] none none with takeoffs := [⟨.turn, 9, 2, .race 5⟩] } : State).idle.pending = [.takeoff .turn 9])
    ∧ (after .resetLineAssert State.reset).pending = [] ∧ (after .resetLineAssert State.reset).resetHeld = true := by
  decide +kernel

theorem test_witness_ResetLineHeldTakesNothing :
    (after .resetLineAssert State.reset).resetHeld = true ∧ Instr.logClear [] ≠ .powerOn
      ∧ Instr.logClear [] ≠ .resetLineAssert ∧ Instr.logClear [] ≠ .resetLineRelease := by decide +kernel

theorem test_witness_ControllerResetInTwoSteps :
    State.reset.Takes ⟨kindControllerReset, []⟩
      ∧ (resetDue.resetHeld = false ∧ resetDue.link.effectDue = true ∧ resetDue.link.effect = some .reset)
      ∧ ¬ (State.reset.link.effectDue = true ∧ State.reset.link.effect = some .reset)
      ∧ ¬ (speedDue.link.effectDue = true ∧ speedDue.link.effect = some .reset) :=
  ⟨reset_takes _, by decide +kernel⟩

/-- A hunting receiver with n frames waiting and an overrun count. -/
def waiting (n count : Nat) : State :=
  { State.reset with link := { Link.reset with inbound := List.replicate n ⟨0x01, []⟩, overrunCount := count } }

theorem test_witness_FrameRoundTrip :
    ((waiting 0 0).resetHeld = false ∧ (waiting 0 0).link.rx = .hunting ∧ (List.replicate 249 (0 : Byte)).length ≤ 249
      ∧ (waiting 0 0).link.inbound.length < 2)
    ∧ (waiting 1 0).link.inbound.length < 2
    ∧ (2 ≤ (waiting 2 65534).link.inbound.length ∧ (waiting 2 65534).link.overrunCount < 65535)
    ∧ (2 ≤ (waiting 2 65535).link.inbound.length ∧ (waiting 2 65535).link.overrunCount = 65535)
    ∧ frameBytes 0x01 [] = [0xA5] ++ [0x01, 0x01, 0xFE] ∧ (∀ b ∈ [(0x5A : Byte), 0x00], b ≠ 0xA5) := by decide +kernel

theorem test_witness_DamagedFrameDiscarded :
    (State.reset.resetHeld = false ∧ State.reset.link.rx = .hunting ∧ State.reset.link.checkFail < 65535
      ∧ (0xFD : Byte) ≠ checkByte (BitVec.ofNat 8 1 :: 0x01 :: []))
    ∧ ((0 : Byte) = 0 ∧ 250 < (251 : Byte).toNat)
    ∧ (partialFrame.resetHeld = false ∧ partialFrame.link.rx = .inFrame [2, 1] 200 ∧ partialFrame.link.checkFail < 65535)
    ∧ ({ Link.reset with rx := .inFrame [2, 1] 199 } : Link).rx = .inFrame [2, 1] 199 ∧ (199 : Nat) < 200
    ∧ ({ Link.reset with checkFail := 65535 } : Link).checkFail = 65535 := by decide +kernel

theorem test_witness_LinkChecksComeFirst :
    (State.reset.Takes ⟨0x05, []⟩ ∧ payloadLength 0x05 [] = none)
    ∧ ((∀ kind payload, Instr.identAsk [0] ≠ .unknownKind kind payload)
      ∧ frameOf (.identAsk [0]) = some ⟨kindIdentAsk, [0]⟩ ∧ State.reset.Takes ⟨kindIdentAsk, [0]⟩
      ∧ payloadLength kindIdentAsk [0] = some 0 ∧ 0 ≠ ([0] : Payload).length)
    ∧ frameOf (.identAsk []) = some ⟨kindIdentAsk, []⟩ ∧ ¬ zeroed.Takes ⟨kindIdentAsk, []⟩ :=
  ⟨⟨reset_takes _, rfl⟩, ⟨nofun, rfl, reset_takes _, rfl, by decide⟩, rfl, fun h => nomatch h.2.1⟩

theorem test_witness_EveryCommandOneReply :
    ((Instr.raceArm []).wf = true ∧ frameOf (.raceArm []) = some ⟨kindRaceArm, []⟩ ∧ State.reset.Takes ⟨kindRaceArm, []⟩)
    ∧ (Instr.platformZero []).wf = true ∧ frameOf (.platformZero []) = some ⟨kindPlatformZero, []⟩
      ∧ State.reset.Takes ⟨kindPlatformZero, []⟩ :=
  ⟨⟨rfl, rfl, reset_takes _⟩, rfl, rfl, reset_takes _⟩

theorem test_witness_RowsAndFramesCorrespond :
    ((Instr.amendRestore 4 0 7).wf = true ∧ frameOf (.amendRestore 4 0 7) = some ⟨kindAmend, [4, 2, 0, 0, 0, 0, 7]⟩)
    ∧ (⟨0x05, List.replicate 249 0⟩ : Frame).payload.length ≤ 249 := by decide +kernel

theorem test_witness_ReportsAndLine :
    (replyEnding.resetHeld = false ∧ replyEnding.link.line = some ⟨true, (⟨0x02, .done, []⟩ : Reply).frame, 0⟩
      ∧ replyEnding.link.effect = none ∧ replyEnding.link.queue ≠ [] ∧ replyEnding.link.inbound ≠ [])
    ∧ (replyEnds loadedLine).link.inbound = []
    ∧ ((after .lineFrameEnd loadedLine).link.line.map LineFrame.left ≠ some 0)
    ∧ (loadedLine.link.line = some ⟨false, [1, 2, 3], 0⟩ ∧ loadedLine.link.effectDue = false
      ∧ loadedLine.link.slot = .holding ⟨0x02, .done, []⟩)
    ∧ (speedDue.link.effectDue = true ∧ speedDue.link.line = none)
    ∧ (zeroed.link.slot = .zeroing ∧ zeroed.link.queue = [])
    ∧ ((tickState [⟨0x01, []⟩] none none).link.slot = .empty ∧ (tickState [⟨0x01, []⟩] none none).link.inbound ≠ [])
    ∧ (State.reset.link.enables.getLsbD (Report.rank []).kindIndex = true ∧ State.reset.link.queue.length < 32)
    ∧ ({ Link.reset with enables := 0 } : Link).enables.getLsbD (Report.rank []).kindIndex = false
    ∧ 32 ≤ ({ Link.reset with queue := List.replicate 32 (.rank []) } : Link).queue.length := by decide +kernel

theorem test_witness_IdentificationIsFixed :
    State.reset.Takes ⟨kindIdentAsk, []⟩ ∧ ([0] : Payload) ≠ [] ∧ State.reset.Takes ⟨kindIdentAsk, [0]⟩ :=
  ⟨reset_takes _, by decide, reset_takes _⟩

theorem test_witness_StatusIsReported : State.reset.Takes ⟨kindStatusAsk, []⟩ := reset_takes _

theorem test_witness_LinkSettings :
    State.reset.Takes ⟨kindLinkSet, [BitVec.ofNat 8 3, 0x0F]⟩
      ∧ (3 < (4 : Byte).toNat ∧ State.reset.Takes ⟨kindLinkSet, [4, 0]⟩)
      ∧ (speedDue.resetHeld = false ∧ speedDue.link.effectDue = true ∧ speedDue.link.effect = some (.speed 3)
        ∧ speedDue.link.rx = .inFrame [2] 0 ∧ speedDue.link.checkFail < 65535)
      ∧ (speedDue.onLink fun k => { k with rx := .hunting }).link.rx = .hunting :=
  ⟨reset_takes _, ⟨by decide, reset_takes _⟩, ⟨rfl, rfl, rfl, rfl, by decide⟩, rfl⟩

theorem test_witness_ProgramRecordRoundTrip :
    (loadOne.length = 27 ∧ firstBadField loadOne = none)
      ∧ ((raceAt relay .loaded ⟨.stopped, 0⟩ 4 LaneContext.reset).Takes ⟨kindProgramAsk, []⟩
        ∧ (raceAt relay .loaded ⟨.stopped, 0⟩ 4 LaneContext.reset).program = some relay)
      ∧ State.reset.Takes ⟨kindProgramAsk, []⟩ ∧ State.reset.program = none :=
  ⟨by decide, ⟨race_takes .., rfl⟩, reset_takes _, rfl⟩

/-- For ProgramLoadStores and SettingsAreClamped: a load with every timing setting out of its range. -/
theorem test_witness_ProgramLoadStores :
    State.reset.Takes ⟨kindProgramLoad, loadOne⟩ ∧ loadOne.length = 27 ∧ State.reset.race ≠ .armed
      ∧ State.reset.race ≠ .running ∧ firstBadField loadOne = none :=
  ⟨reset_takes _, by decide⟩

theorem test_witness_SettingsAreClamped :
    State.reset.Takes ⟨kindProgramLoad, loadOne⟩ ∧ loadOne.length = 27 ∧ State.reset.race ≠ .armed
      ∧ State.reset.race ≠ .running ∧ firstBadField loadOne = none ∧ 100000 < num32 loadOne 13 ∧ num16 loadOne 17 < 100 :=
  ⟨reset_takes _, by decide⟩

/-- Each clause of the field order at its boundary: lanes 0 and 1,024, lengths 65, legs 5, codes 2, 3 and 2. -/
theorem test_witness_ProgramLoadRefused :
    (∀ payload ∈ [(loadOne.set 2 0).set 3 0, loadOne.set 2 4, loadOne.set 4 65, loadOne.set 5 5, loadOne.set 6 2,
        loadOne.set 7 3, loadOne.set 8 2], payload.length = 27)
    ∧ ¬ (1 ≤ num16 ((loadOne.set 2 0).set 3 0) 2) ∧ ¬ num16 (loadOne.set 2 4) 2 ≤ 1023 ∧ ¬ num8 (loadOne.set 4 65) 4 ≤ 64
    ∧ ¬ num8 (loadOne.set 5 5) 5 ≤ 4 ∧ ¬ num8 (loadOne.set 6 2) 6 ≤ 1 ∧ ¬ num8 (loadOne.set 7 3) 7 ≤ 2
    ∧ ¬ num8 (loadOne.set 8 2) 8 ≤ 1 := by decide +kernel

theorem test_witness_RaceArming :
    (loaded50.program = some final50 ∧ loaded50.race = .loaded
      ∧ (∀ l, final50.inRace l = true → loaded50.ports.laneMode l = .timed) ∧ loaded50.RaceFits ∧ loaded50.MapFits)
    ∧ State.reset.race ≠ .loaded
    ∧ ({ loaded50 with ports := { timedPorts with low := .level } } : State).inRace 4 = true
    ∧ ({ loaded50 with ports := { timedPorts with low := .level } } : State).ports.laneMode 4 = .level := by
  unfold State.RaceFits State.MapFits
  decide +kernel

theorem test_witness_RaceStarting :
    (armed50.program = some final50 ∧ armed50.race = .armed ∧ armed50.resetHeld = false)
    ∧ ({ armed50 with ports := { timedPorts with startLine := .pressSeen (.pre 41210) } } : State).ports.startLine
      = .pressSeen (.pre 41210)
    ∧ ({ State.reset with ports := { timedPorts with startLine := .pressSeen .none } } : State).ports.startLine
      = .pressSeen .none
    ∧ (armed50.context 5).takeoff = some ⟨1, .pre 41150⟩ ∧ State.reset.race ≠ .armed := by decide +kernel

theorem test_witness_RaceRecalled :
    (armed50.Takes ⟨kindRaceRecall, []⟩ ∧ armed50.program = some final50 ∧ armed50.race = .armed)
      ∧ State.reset.race ≠ .armed ∧ State.reset.race ≠ .running :=
  ⟨⟨race_takes .., rfl, rfl⟩, by decide +kernel⟩

/-- The 100 m final under way with lane 3's final wall collecting, at a clock value. -/
def closing (now : Nat) : State :=
  raceAt final100 .running ⟨.running, now⟩ 3
    { swimmer none with
      status := .finished, final := some ⟨532688, false⟩, resolved := [recordOne]
      collecting := some ⟨2, .start, some 532688, [⟨1, 532900⟩, ⟨0, 533100⟩, ⟨2, 533500⟩], 562688⟩ }

/-- The board of a state that closes: lanes' fields, map, freeze and a row frame under RESTART that the event begins again. -/
theorem test_witness_BoardFollows :
    let s := closing 562688
    let t := { s with
      board := { s.board with
        chain := some ⟨.row 5 testRow, 7, false⟩, layout := { Layout.reset with policy := .restart, order := .byPlace } } }
    s.MapFits ∧ t.MapFits
      ∧ s.autoChanged (after (.closeTimerExpiry 3) s) 3 = true ∧ s.autoChanged (after (.closeTimerExpiry 3) s) 4 = false
      ∧ (after (.closeTimerExpiry 3) t).board.chain.map ChainFrame.restarted = some true
      ∧ s.MarksClockRow (after (.raceClose []) s) := by
  unfold State.MapFits State.MarksClockRow
  decide +kernel

theorem test_witness_RaceClosed :
    ((closing 35999999).program = some final100 ∧ (closing 35999999).race = .running
      ∧ (closing 35999999).Takes ⟨kindRaceClose, []⟩ ∧ (closing 35999999).resetHeld = false
      ∧ (closing 35999999).clock.value = 35999999)
    ∧ State.reset.race ≠ .running ∧ (closing 35999998).clock.value ≠ 35999999 :=
  ⟨⟨rfl, rfl, race_takes .., rfl, rfl⟩, by decide +kernel⟩

theorem test_witness_ResultsReleased :
    ((raceAt final100 .complete ⟨.held, 5⟩ 3 relayDone).Takes ⟨kindResultsRelease, []⟩
      ∧ (raceAt final100 .complete ⟨.held, 5⟩ 3 relayDone).race = .complete)
    ∧ State.reset.race ≠ .complete
    ∧ (∃ t, exec (.raceClose []) (raceAt final100 .official ⟨.held, 5⟩ 3 relayDone) = .next t)
    ∧ ∃ t, exec (.amendDisqualify (laneCode 3) 1 0) (raceAt final100 .official ⟨.held, 5⟩ 3 relayDone) = .next t :=
  ⟨⟨race_takes .., rfl⟩, by decide +kernel, ⟨_, rfl⟩, _, rfl⟩

theorem test_witness_RaceCleared :
    (∀ r ∈ [RaceState.loaded, .complete, .official, .armed, .running],
      (raceAt final100 r ⟨.held, 5⟩ 3 relayDone).Takes ⟨kindRaceClear, []⟩
        ∧ (raceAt final100 r ⟨.held, 5⟩ 3 relayDone).race = r)
    ∧ State.reset.race = .empty :=
  ⟨fun _ _ => ⟨race_takes .., rfl⟩, rfl⟩

theorem test_witness_RaceStateMoves :
    ∃ t, exec (.raceClose []) (closing 600000) = .next t ∧ t.race ≠ (closing 600000).race :=
  ⟨_, rfl, by decide +kernel⟩

theorem test_witness_GroupModeTaken :
    State.reset.Takes ⟨kindGroupMode, [1, 1]⟩ ∧ groupOfCode 1 = some .high ∧ modeOfCode 1 = some .timed
      ∧ 1 < (2 : Byte).toNat
      ∧ (armed50.Takes ⟨kindGroupMode, [0, 1]⟩ ∧ armed50.race = .armed ∧ groupOf 4 = .low ∧ armed50.inRace 4 = true)
      ∧ ¬ (State.reset.race = .armed ∨ State.reset.race = .running) :=
  ⟨reset_takes _, rfl, rfl, by decide, ⟨race_takes .., by decide +kernel⟩, by decide +kernel⟩

theorem test_witness_LineSetting :
    State.reset.Takes ⟨kindLineSet, [laneCode 9, PoolEnd.turn.code, 0, Lamp.fast.code]⟩
      ∧ State.reset.Takes ⟨kindLineSet, [laneCode 0, PoolEnd.start.code, 1, boolCode false]⟩
      ∧ State.reset.Takes ⟨kindLineSet, [laneCode 0, PoolEnd.start.code, 2, boolCode true]⟩
      ∧ State.reset.Takes ⟨kindLineSet, [10, 2, 3, 4]⟩
      ∧ 9 < (10 : Byte).toNat ∧ 1 < (2 : Byte).toNat ∧ 2 < (3 : Byte).toNat ∧ 3 < (4 : Byte).toNat :=
  ⟨reset_takes _, reset_takes _, reset_takes _, reset_takes _, by decide⟩

theorem test_witness_LinesAreRecognised :
    State.reset.resetHeld = false
      ∧ (padSeen 3 .turn (.race 5) State.reset).ports.line (.pad 3 .turn) = .pressSeen (.race 5)
      ∧ (State.reset.setLine (.button 3 .turn 2) .releaseSeen).ports.line (.button 3 .turn 2) = .releaseSeen
      ∧ State.reset.ports.line .startLine ≠ .releaseSeen := by decide +kernel

/-- A pad of the 100 m final held for n counts. -/
def heldPad (n : Nat) : State :=
  (closing 600000).setLaneEnd 3 .turn { LaneEnd.reset with pad := .pressed, held := some n }

theorem test_witness_StuckPads :
    ((heldPad 100000).resetHeld = false ∧ ((heldPad 100000).ports.laneEnd 3 .turn).held = some 100000
      ∧ (heldPad 100000).stuckLimit ≤ 100000 ∧ ((heldPad 100000).ports.laneEnd 3 .turn).stuck = false
      ∧ (heldPad 100000).race = .running ∧ (heldPad 100000).inRace 3 = true)
    ∧ (heldPad 99999).stuckDue 3 .turn = false
    ∧ ((State.reset.setLine (.pad 3 .turn) .releaseSeen).ports.laneEnd 3 .turn).pad = .releaseSeen
    ∧ ((State.reset.setLine (.button 3 .turn 2) .releaseSeen).ports.laneEnd 3 .turn).buttons[2] = .releaseSeen
    ∧ (State.reset.setLine .startLine .releaseSeen).ports.startLine = .releaseSeen := by decide +kernel

/-- The state after reset satisfies the ranges of the samplers. -/
theorem reset_samplers : State.reset.SamplersInRange := by
  refine ⟨⟨by decide, by decide, by decide, by decide, ?_⟩, by decide, by decide, by decide, by decide, ?_⟩ <;>
    (unfold Channel.InRange; decide +kernel)

theorem test_witness_PlatformZeroing :
    (armed50.Takes ⟨kindPlatformZero, []⟩ ∧ armed50.race = .armed)
    ∧ (State.reset.Takes ⟨kindPlatformZero, []⟩ ∧ (State.reset.sampler .start).enabled = true)
    ∧ (({ State.reset with
          samplers := ⟨{ Sampler.reset with enabled := false }, { Sampler.reset with enabled := false }⟩ }
        : State).sampler .turn).enabled = false
    ∧ (({ State.reset with zeroing := some ⟨⟨some allLanes, none⟩, []⟩ } : State).SamplersInRange
      ∧ convertedLane .start (State.reset.sampler .start).rotation = 0 ∧ (State.reset.sampler .start).spent = false
      ∧ (0 : Lane) ∈ allLanes
      ∧ ((1022 : Fin 1024).val < 1023 ∧ (State.reset.channel .start 0).fault = false)
      ∧ ¬ (1023 : Fin 1024).val < 1023)
    ∧ (zeroed.resetHeld = false ∧ ∃ z, zeroed.zeroing = some z ∧ z.finished = true)
    ∧ State.reset.zeroing.any Zeroing.finished = false :=
  ⟨⟨race_takes .., rfl⟩, ⟨reset_takes _, rfl⟩, rfl,
    ⟨reset_samplers, rfl, rfl, by decide, by decide +kernel, by decide⟩, ⟨rfl, _, rfl, rfl⟩, rfl⟩

theorem test_witness_ThresholdsAreStored :
    (State.reset.Takes ⟨kindPlatformLimits, [1, 3, 0xFF, 3, 0xFF]⟩ ∧ byteAt [1, 3, 0xFF, 3, 0xFF] 0 = PoolEnd.turn.code
      ∧ 1022 < num16 [1, 3, 0xFF, 3, 0xFF] 1)
    ∧ 1 < num8 [2, 0, 0, 0, 0] 0 ∧ num16 [0, 0, 0, 0, 0] 1 < 1
    ∧ (({ Channel.reset with loaded := true } : Channel).loaded = true ∧ Channel.reset.fault = false ∧ 149 < 1023
      ∧ 149 - Channel.reset.offset < 150) :=
  ⟨⟨reset_takes _, by decide⟩, by decide +kernel⟩

/-- The counts of readings at their boundaries: 2 full-scale readings before, 9 good readings before. -/
theorem test_witness_ConversionsAreCounted :
    ((channelState { Channel.reset with loaded := true, watch := some 1 }).zeroing = none
      ∧ ((channelState { Channel.reset with loaded := true, watch := some 1 }).sampler .start).enabled = true
      ∧ ((channelState { Channel.reset with loaded := true, watch := some 1 }).sampler .start).rotation = 0
      ∧ ((channelState { Channel.reset with loaded := true, watch := some 1 }).channel .start 0).fault = false)
    ∧ 2 ≤ ((channelState { Channel.reset with fullRun := 2 }).channel .start 0).fullRun
    ∧ ((channelState { Channel.reset with fullRun := 1 }).channel .start 0).fullRun < 2
    ∧ (((channelState { Channel.reset with fault := true, goodRun := 9 }).channel .start 0).fault = true
      ∧ 9 ≤ ((channelState { Channel.reset with fault := true, goodRun := 9 }).channel .start 0).goodRun)
    ∧ ((channelState { Channel.reset with fault := true, goodRun := 8 }).channel .start 0).goodRun < 9
    ∧ (9 : Lane) = (State.reset.sampler .turn).rotation - 1 ∧ (0 : Lane) ∉ [(1 : Lane), 2]
    ∧ ((after (.platformConversion .start 5) State.reset).sampler .start).spent = true := by
  decide +kernel

theorem test_witness_SamplersAreEnabled :
    State.reset.Takes ⟨kindSamplerSet, [PoolEnd.turn.code, boolCode false]⟩
      ∧ State.reset.Takes ⟨kindSamplerSet, [2, 2]⟩ ∧ 1 < (2 : Byte).toNat
      ∧ (State.reset.sampler .turn).enabled = true :=
  ⟨reset_takes _, reset_takes _, by decide, rfl⟩

theorem test_witness_QueriesChangeNothing :
    (State.reset.Takes ⟨kindLinesAsk, [1]⟩ ∧ State.reset.Takes ⟨kindPlatformAsk, [PoolEnd.turn.code, laneCode 9]⟩
      ∧ State.reset.Takes ⟨kindLaneAsk, [laneCode 9]⟩ ∧ State.reset.Takes ⟨kindWallsAsk, [laneCode 9, 64, 8]⟩
      ∧ State.reset.Takes ⟨kindResultsAsk, [0xFF]⟩ ∧ State.reset.Takes ⟨kindResultsAsk, [laneCode 9]⟩)
    ∧ 1 < (2 : Byte).toNat ∧ 9 < (10 : Byte).toNat ∧ 64 < (65 : Byte).toNat ∧ 8 < (9 : Byte).toNat ∧ (10 : Byte) ≠ 0xFF :=
  ⟨⟨reset_takes _, reset_takes _, reset_takes _, reset_takes _, reset_takes _, reset_takes _⟩, by decide⟩

/-- The functions that the results reply is spelled with exist for every state. -/
theorem test_witness_QueriesChangeNothing_splits :
    ∀ c : LaneContext, ∃ (split : Nat → Option Nat) (between : Nat → Nat → Option Nat),
      (∀ w, split w = if w = 0 then some 0 else
        (c.resolved.find? fun r => decide (r.index = w)).map fun r => r.official / 100)
      ∧ ∀ v w, between v w = (split v).bind fun a => (split w).map fun b => b - a :=
  fun _ => ⟨_, _, fun _ => rfl, fun _ _ => rfl⟩

/-- A touch of wall 1, which is no station wall, one count after its arm time; and a pad time one count before the close. -/
theorem test_witness_TouchIsTaken :
    (let s := padSeen 3 .turn (.race 150001) (raceAt final100 .running ⟨.running, 150002⟩ 3 (swimmer (some wallOne)))
    s.resetHeld = false ∧ (s.ports.laneEnd 3 .turn).pad = .pressSeen (.race 150001) ∧ s.ports.laneMode 3 = .timed
      ∧ (s.ports.laneEnd 3 .turn).padOn = true ∧ s.race = .running ∧ s.program = some final100
      ∧ final100.inRace 3 = true ∧ (s.context 3).status = .swimming ∧ (s.context 3).collecting = none
      ∧ (s.context 3).expected = some wallOne ∧ wallOne.side = .turn ∧ wallOne.armed = true ∧ wallOne.armTime < 150001
      ∧ wallOne.index ≠ final100.lengths)
    ∧ let s := padSeen 3 .start (.race 562687) (raceAt relay .running ⟨.running, 562688⟩ 4
        { swimmer none with collecting := some ⟨2, .start, none, [⟨1, 532688⟩], 562688⟩ })
      (s.context 4).status = .swimming ∧ ∃ w, (s.context 4).collecting = some w ∧ w.side = .start ∧ w.pad = none
        ∧ 562687 < w.closeTime ∧ w.index ≠ relay.lengths :=
  ⟨by decide +kernel, rfl, _, rfl, rfl, rfl, by decide, by decide⟩

theorem test_witness_FinalTouchFinishes :
    let s := padSeen 3 .start (.race 402418) (raceAt final100 .running ⟨.running, 402419⟩ 3 (swimmer (some wallTwo)))
    s.resetHeld = false ∧ (s.ports.laneEnd 3 .start).pad = .pressSeen (.race 402418) ∧ s.ports.laneMode 3 = .timed
      ∧ (s.ports.laneEnd 3 .start).padOn = true ∧ s.race = .running ∧ s.program = some final100
      ∧ final100.inRace 3 = true ∧ (s.context 3).status = .swimming ∧ (s.context 3).collecting = none
      ∧ (s.context 3).expected = some wallTwo ∧ wallTwo.side = .start ∧ wallTwo.armed = true
      ∧ wallTwo.armTime < 402418 ∧ wallTwo.index = final100.lengths := by decide +kernel

/-- The forms of a touch by wall: wall 2 of the relay is a station wall before the final one, the final wall of the 100 m is
a station wall and that of the 50 m is none. -/
theorem test_witness_touches_by_wall :
    (relay.station = some (wallEnd 2) ∧ 2 ≠ relay.lengths) ∧ (final100.station = some (wallEnd 2) ∧ 2 = final100.lengths)
      ∧ (final50.station ≠ some (wallEnd 1) ∧ 1 = final50.lengths) := by decide

theorem test_witness_PadPressIgnored :
    (let s := padSeen 3 .start (.race 402417) (raceAt final100 .running ⟨.running, 402418⟩ 3 (swimmer (some wallTwo)))
    (s.ports.laneEnd 3 .start).pad = .pressSeen (.race 402417) ∧ s.ports.laneMode 3 = .timed
      ∧ (s.ports.laneEnd 3 .start).padOn = true ∧ (s.context 3).takesTouches = true
      ∧ (s.context 3).expected = some wallTwo ∧ 402417 ≤ wallTwo.armTime ∧ s.inRace 3 = true ∧ s.inRace 4 = false)
    ∧ (let w : CollectingWall := ⟨2, .start, none, [⟨1, 532688⟩], 562688⟩
      w.side = .start ∧ w.pad = none ∧ w.closeTime ≤ 562688
        ∧ ({ swimmer none with collecting := some w } : LaneContext).takesTouches = true)
    ∧ State.reset.ports.laneMode 3 = .level := by decide +kernel

/-- The 100 m final with lane 7's final wall open to presses, or collecting a press of button 3. -/
def pressing (collecting : Option CollectingWall) (expected : Option ExpectedWall) (b : Fin 3) : State :=
  buttonSeen 7 .start b (.race 405931)
    (raceAt final100 .running ⟨.running, 405932⟩ 7 { swimmer expected with collecting })

theorem test_witness_ButtonPressIsTaken :
    (let s := pressing none (some ⟨2, .start, 405930, true, true⟩) 2
    s.resetHeld = false ∧ (s.ports.laneEnd 7 .start).buttons[2] = .pressSeen (.race 405931)
      ∧ s.ports.laneMode 7 = .timed ∧ (s.ports.laneEnd 7 .start).buttonsOn = true ∧ s.race = .running
      ∧ s.program = some final100 ∧ final100.inRace 7 = true ∧ final100.station = some .start
      ∧ (s.context 7).collecting = none ∧ (s.context 7).expected = some ⟨2, .start, 405930, true, true⟩)
    ∧ ((pressing (some ⟨2, .start, none, [⟨2, 405931⟩], 435931⟩) none 2).context 7).collecting
      = some ⟨2, .start, none, [⟨2, 405931⟩], 435931⟩
    ∧ (pressing none none 2).buttonUse 7 .start 2 (.race 405931) = .ignored .noOpenWall none
    ∧ State.reset.ports.laneMode 7 = .level ∧ final100.station ≠ some .turn ∧ final100.inRace 4 = false :=
  ⟨by decide +kernel, by decide +kernel, rfl, by decide +kernel⟩

theorem test_witness_TakeoffsAreJudged :
    (let s := takeoffOf 1 (.race 999) .running relaySwimmer
    s.resetHeld = false ∧ s.takeoffs.find? (fun t => decide (t.side = .start ∧ t.lane = 4)) = some ⟨.start, 4, 1, .race 999⟩
      ∧ s.race = .running ∧ s.program = some relay ∧ relay.inRace 4 = true ∧ s.startMark = some 62000
      ∧ (s.context 4).status = .swimming ∧ (s.context 4).reaction = none ∧ (s.context 4).resolved = []
      ∧ (999 : Int) = min 99999 (999 : Int) ∧ (-1 : Int) = max (-99999) (min 99999 ((61999 : Int) - 62000)))
    ∧ (let s := takeoffOf 2 (.race 482430) .running
        { relaySwimmer with resolved := [recordOne, ⟨2, .start, 482731, .pad, some 482731, none, 0, false⟩] }
      s.takeoffs.find? (fun t => decide (t.side = .start ∧ t.lane = 4)) = some ⟨.start, 4, 2, .race 482430⟩
      ∧ (s.context 4).leg 2 = some ⟨.pending, none⟩ ∧ (s.context 4).takeoff = none
      ∧ (s.context 4).wallRecord (relay.exchangeWall 2) = some ⟨2, .start, 482731, .pad, some 482731, none, 0, false⟩
      ∧ (-301 : Int) < -(relay.tolerance : Int))
    ∧ ((takeoffOf 2 (.race 5) .running relaySwimmer).context 4).wallRecord (relay.exchangeWall 2) = none
    ∧ (takeoffOf 1 (.pre 41150) .armed LaneContext.reset).race = .armed
    ∧ State.reset.race ≠ .armed ∧ State.reset.race ≠ .running := by decide +kernel

theorem test_witness_TimersExpire :
    (let s := raceAt relay .running ⟨.running, 381500⟩ 4 (swimmer (some ⟨2, .start, 381500, false, false⟩))
    s.resetHeld = false ∧ s.race = .running ∧ s.program = some relay
      ∧ (s.context 4).expected = some ⟨2, .start, 381500, false, false⟩ ∧ 381500 ≤ s.clock.value
      ∧ relay.exchangeLeg 2 = some 2 ∧ relay.exchangeLeg 3 = none)
    ∧ (raceAt relay .running ⟨.running, 381499⟩ 4 (swimmer (some ⟨2, .start, 381500, false, false⟩))).armDue 4 = none
    ∧ ((closing 562688).program = some final100
      ∧ ((closing 562688).context 3).collecting.map CollectingWall.closeTime = some 562688
      ∧ 562688 ≤ (closing 562688).clock.value)
    ∧ (closing 562687).closeDue 3 = none
    ∧ ((582688 : Nat) ≤ 582688 ∧ (582687 : Nat) < 582688) := by decide +kernel

theorem test_witness_BackupDecision :
    (([⟨2, 540980⟩, ⟨0, 541200⟩, ⟨1, 541450⟩] : List Press).length ≤ 3
      ∧ backupReference [⟨2, 540980⟩, ⟨0, 541200⟩, ⟨1, 541450⟩] = some 541200)
    ∧ ([⟨2, 540980⟩, ⟨0, 541200⟩, ⟨1, 541450⟩] : List Press).Perm [⟨0, 541200⟩, ⟨2, 540980⟩, ⟨1, 541450⟩]
    ∧ ((recordOfWall { final100 with policy := .checked } ⟨2, .start, some 529000, [⟨0, 533100⟩, ⟨1, 533100⟩], 559000⟩).disagree
        = true) :=
  ⟨by decide +kernel, List.Perm.swap _ _ _, by decide +kernel⟩

theorem test_witness_RankingFollowsHundredths : (closing 600000).program = some final100 := rfl

/-- R28: with lane 3 alone in the race its close timer completes the race, and with lane 5 still swimming it does not; R136: a
confirmation that keeps the final's value writes no lamp. -/
theorem test_close_timer_completes :
    let alone := { closing 562688 with program := some { final100 with lanes := 0x08 } }
    let t := after (.closeTimerExpiry 3) alone
    let u := after (.closeTimerExpiry 3)
      ({ alone with program := some { final100 with lanes := 0x28 } }.setLane 5 (swimmer (some wallTwo)))
    t.race = .complete ∧ t.clock = ⟨.held, 562688⟩ ∧ u.race = .running
      ∧ (u.ports.laneEnd 3 .start).lamp = (alone.ports.laneEnd 3 .start).lamp := by decide +kernel

/-- R170: the clear marks the display row it fills; R173: under RESTART the frame of that row begins again. -/
theorem test_clear_row_marks :
    let busy := { clearing with
      board := { clearing.board with
        chain := some ⟨.row 2 testRow, 7, false⟩, layout := { Layout.reset with policy := .restart } } }
    (after .clearRowFill clearing).board.dirty[2] = true ∧ (after .clearRowFill clearing).board.dirty[3] = false
      ∧ (after .clearRowFill busy).board.dirty[2] = false
      ∧ (after .clearRowFill busy).board.chain.map ChainFrame.left = some 20 := by decide +kernel

theorem test_witness_LanesAreTakenOutAndRestored :
    ((closing 600000).race = .running ∧ (closing 600000).program = some final100 ∧ final100.inRace 3 = true
      ∧ (closing 600000).Takes ⟨kindAmend, [laneCode 3, 0, 1] ++ splitBytes 0⟩ ∧ (1 : Byte) ≠ 0
      ∧ ((closing 600000).context 3).status.isOut = false)
    ∧ ((raceAt final100 .complete ⟨.held, 5⟩ 3 { relayDone with status := .disqualified }).race = .complete
      ∧ ((raceAt final100 .complete ⟨.held, 5⟩ 3 { relayDone with status := .disqualified }).context 3).final ≠ none
      ∧ (raceAt final100 .complete ⟨.held, 5⟩ 3 { relayDone with status := .disqualified }).Takes
        ⟨kindAmend, [laneCode 3, 2, 0] ++ splitBytes 0⟩)
    ∧ ((raceAt final100 .running ⟨.running, 5⟩ 3 { LaneContext.reset with status := .didNotStart }).context 3).final
      = none :=
  ⟨⟨rfl, rfl, by decide, race_takes .., by decide, by decide +kernel⟩, ⟨rfl, by decide +kernel, race_takes ..⟩,
    by decide +kernel⟩

/-- A hand time equal to the clock, and one count after the last official time. -/
theorem test_witness_WallsAreTimedByHand :
    (let s := raceAt final100 .running ⟨.running, 252418⟩ 3 { swimmer (some wallTwo) with resolved := [recordOne] }
    s.race = .running ∧ s.program = some final100 ∧ final100.inRace 3 = true
      ∧ s.Takes ⟨kindAmend, [laneCode 3, 3, 0] ++ splitBytes 252418⟩
      ∧ (s.context 3).status = .swimming ∧ (s.context 3).collecting = none ∧ (s.context 3).expected = some wallTwo
      ∧ (((s.context 3).resolved.getLast?.map WallRecord.official).getD 0) < (252418 : BitVec 32).toNat
      ∧ (252418 : BitVec 32).toNat ≤ s.clock.value)
    ∧ ((raceAt final100 .complete ⟨.held, 252418⟩ 3 { swimmer none with resolved := [recordOne] }).context 3).resolved.length
      < final100.lengths
    ∧ (((closing 540000).context 3).collecting.map fun c => c.presses.length) = some 3 :=
  ⟨⟨rfl, rfl, by decide, race_takes .., by decide +kernel⟩, by decide +kernel⟩

theorem test_witness_AmendmentsAreChecked :
    (State.reset.Takes ⟨kindAmend, [10, 4, 0] ++ splitBytes 0⟩ ∧ State.reset.race ≠ .running
      ∧ State.reset.race ≠ .complete ∧ 9 < (10 : Byte).toNat ∧ 3 < (4 : Byte).toNat)
    ∧ ((closing 5).Takes ⟨kindAmend, [laneCode 4, 0, 0] ++ splitBytes 0⟩ ∧ (closing 5).race = .running
      ∧ (closing 5).inRace 4 = false ∧ (closing 5).inRace 3 = true) :=
  ⟨⟨reset_takes _, by decide +kernel⟩, race_takes .., by decide +kernel⟩

theorem test_witness_LogKeepsTheNewest :
    ((⟨List.replicate 383 (anEntry 0), 383, 0, true⟩ : EventLog).entries.length = 383
      ∧ (⟨List.replicate 384 (anEntry 0), 384, 0, true⟩ : EventLog).entries.length ≠ 383)
    ∧ (⟨List.replicate 511 (anEntry 0), 65534, 0, true⟩ : EventLog).entries.length < 512
      ∧ (⟨List.replicate 512 (anEntry 0), 65535, 65534, true⟩ : EventLog).entries.length = 512
      ∧ (⟨List.replicate 512 (anEntry 0), 65535, 65534, true⟩ : EventLog).dropped < 65535
      ∧ (⟨List.replicate 512 (anEntry 0), 65535, 65535, true⟩ : EventLog).dropped = 65535 := by decide +kernel

theorem test_witness_LogIsReadFromTheFront :
    (State.reset.Takes ⟨kindLogRead, [8]⟩ ∧ 1 ≤ (8 : Byte).toNat ∧ (8 : Byte).toNat ≤ 8)
      ∧ State.reset.Takes ⟨kindLogRead, [9]⟩ ∧ 8 < (9 : Byte).toNat ∧ State.reset.Takes ⟨kindLogRead, [0]⟩ :=
  ⟨⟨reset_takes _, by decide⟩, reset_takes _, by decide, reset_takes _⟩

theorem test_witness_LogIsCleared :
    State.reset.Takes ⟨kindLogClear, []⟩ ∧ ([0] : Payload) ≠ [] ∧ State.reset.Takes ⟨kindLogClear, [0]⟩ :=
  ⟨reset_takes _, by decide, reset_takes _⟩

theorem test_witness_BoardSettingsAreTaken :
    (State.reset.Takes ⟨kindBoardMode, [3, 0, 11]⟩ ∧ 3 < (4 : Byte).toNat ∧ 11 < (12 : Byte).toNat
      ∧ BoardMode.partialBand 0 11 ≠ State.reset.board.mode ∧ BoardMode.off = State.reset.board.mode)
    ∧ (State.reset.Takes ⟨kindBoardArea, [0, 31, 11, 31, 11]⟩ ∧ State.reset.board.clear = none
      ∧ clearing.board.clear ≠ none ∧ (31 : Byte).toNat ≤ 31 ∧ ¬ (32 : Byte).toNat ≤ 31)
    ∧ (State.reset.Takes ⟨kindBoardArea, [1, 31, 11, 1, 1]⟩ ∧ (31 : Byte).toNat + (1 : Byte).toNat ≤ 32
      ∧ 1 < (2 : Byte).toNat)
    ∧ (State.reset.Takes ⟨kindBoardMask, [2, 0, 0, 31, 11, boolCode true, boolCode false, boolCode false, boolCode true]⟩
      ∧ State.reset.Takes ⟨kindBoardMask, [3, 0, 0, 31, 11, 0, 0, 0, 0]⟩ ∧ 2 < (3 : Byte).toNat) :=
  ⟨⟨reset_takes _, by decide +kernel⟩, ⟨reset_takes _, by decide +kernel⟩, ⟨reset_takes _, by decide⟩, reset_takes _,
    reset_takes _, by decide⟩

theorem test_witness_CellsAreWrittenAndRead :
    (State.reset.Takes ⟨kindBoardWrite, [1, 127, 7]⟩ ∧ ([1, 127, 7] : Payload).length = 1 + 2 * num8 [1, 127, 7] 0
      ∧ clearing.board.clear ≠ none ∧ 127 < num8 [1, 128, 7] 1 ∧ 7 < num8 [1, 127, 8] 2)
    ∧ (([1, 127, 7] : Payload) = BitVec.ofNat 8 ([⟨127, 7⟩] : List Cell).length :: (([⟨127, 7⟩] : List Cell).map Cell.bytes).flatten
      ∧ nameColumn.board.clear = none)
    ∧ (State.reset.Takes ⟨kindBoardRead, [32]⟩ ∧ (32 : Byte).toNat ≤ 32 ∧ 32 < (33 : Byte).toNat)
    ∧ (∃ at' : Nat → Cursor, at' 0 = nameColumn.board.cursor ∧ ∀ n, at' (n + 1) = (at' n).next nameColumn.board.area) :=
  ⟨⟨reset_takes _, by decide +kernel⟩, by decide +kernel, ⟨reset_takes _, by decide⟩,
    fun n => n.rec nameColumn.board.cursor fun _ c => c.next nameColumn.board.area, rfl, fun _ => rfl⟩

theorem test_witness_ClearsRunRowByRow :
    (State.reset.Takes ⟨kindBoardClear, [127, 7]⟩ ∧ State.reset.board.clear = none ∧ clearing.board.clear ≠ none
      ∧ 127 < (128 : Byte).toNat ∧ 7 < (8 : Byte).toNat)
    ∧ State.reset.Takes ⟨kindBoardClearStop, []⟩
    ∧ clearing.resetHeld = false ∧ clearing.board.AreaFits ∧ ∃ c, clearing.board.clear = some c ∧ c.wait = 0 :=
  ⟨⟨reset_takes _, by decide +kernel⟩, reset_takes _, rfl,
    ⟨by decide, by decide, by decide, by decide, by decide, by decide, by decide, by decide, by rintro c ⟨⟩; decide⟩,
    _, rfl, rfl⟩

theorem test_witness_LayoutIsStored :
    State.reset.Takes ⟨kindBoardLayout, [1, 1, 30, 31, 24, 1, 25, 31, 1]⟩
      ∧ State.reset.MapFits ∧ (1 : Byte).toNat ≤ 1 ∧ 1 < (2 : Byte).toNat ∧ 24 < (25 : Byte).toNat ∧ 30 < (31 : Byte).toNat :=
  ⟨reset_takes _, by unfold State.MapFits; decide +kernel⟩

theorem test_witness_ModuleCommandsEnterTheSlot :
    (live.Takes ⟨kindBoardModule, [0, 15]⟩ ∧ (15 : Byte).toNat ≤ 15 ∧ live.board.mode ≠ .off
      ∧ live.board.moduleSlot = none)
    ∧ (State.reset.Takes ⟨kindBoardModule, [1, 0]⟩ ∧ State.reset.board.mode = .off)
    ∧ 15 < (16 : Byte).toNat ∧ 1 < (2 : Byte).toNat ∧ 3 < (4 : Byte).toNat :=
  ⟨⟨⟨rfl, rfl, rfl, .inl rfl⟩, by decide +kernel⟩, ⟨reset_takes _, rfl⟩, by decide⟩

theorem test_witness_ChainFramesAreChosen :
    (let s := { live with board := { live.board with chain := some ⟨.test 3 testRow, 0, false⟩ } }
    s.resetHeld = false ∧ s.board.chain = some ⟨.test 3 testRow, 0, false⟩ ∧ s.board.modeSlot = none
      ∧ s.board.moduleSlot = none ∧ s.clockRowDue = false ∧ (∀ d : Row, s.board.dirty[d] = false)
      ∧ s.board.mode = .live)
    ∧ (let m := BoardMode.partialBand 3 5
      (3 : Row) = 5 + 1 + 9 ∧ m.sends 3 = true ∧ (∀ k : Row, k < 9 → m.sends (5 + 1 + k) = false)
        ∧ (5 : Row) = 4 + 1 + 0 ∧ m.sends 5 = true)
    ∧ ({ live with board := { live.board with chain := some ⟨.command .selfTest, 0, false⟩ } } : State).board.chain
      = some ⟨.command .selfTest, 0, false⟩
    ∧ (({ live with clock := ⟨.prestart, 700⟩ } : State).clockRowDue = true ∧ live.clockRowDue = false
      ∧ ({ live with clock := ⟨.prestart, 700⟩ } : State).board.sinceRow1 = 1000)
    ∧ (ClockPhase.prestart.counts = true ∧ ClockPhase.held.counts = false) := by decide +kernel

theorem test_witness_RaceFitsIsKept :
    State.reset.RaceFits ∧ ∃ t, step { State.reset with pending := [.programLoad loadOne] } = .next t ∧ t.race = .loaded :=
  ⟨by unfold State.RaceFits; decide +kernel, _, rfl, by decide +kernel⟩

theorem test_witness_BoundsAreKept : State.reset.Bounded := by
  refine ⟨by decide, by decide, by decide, by decide, by decide, by decide, by decide, by decide, by decide, ?_⟩
  exact ⟨by decide, by decide, by decide, by decide, by decide, by decide, by decide, by decide, nofun⟩

theorem test_witness_SamplerRangesAreKept :
    State.reset.SamplersInRange ∧ (State.reset.sampler .start).rotation = (State.reset.sampler .turn).rotation
      ∧ ∃ t, exec (.platformConversion .start 312) (after (.platformZero []) (channelState Channel.reset)) = .next t
        ∧ (t.channel .start 0).offset = 312 :=
  ⟨reset_samplers, rfl, _, rfl, by decide +kernel⟩

theorem test_witness_LaneRecordsAreKept : State.reset.JudgementsOrdered := by
  unfold State.JudgementsOrdered LaneContext.JudgementsOrdered; decide +kernel

/-- The swimmer of lane 3 with wall 2, a station wall, ARMED. -/
def finalist : LaneContext := { swimmer (some wallTwo) with resolved := [recordOne] }

/-- Lane 3 of the 100 m final one count after its first sample of wall 2, with the press in front. -/
def finalSeen : State :=
  { padSeen 3 .start (.race 533100) (raceAt final100 .running ⟨.running, 533101⟩ 3 finalist) with
    pending := [.padPress 3 .start] }

/-- The walls of that state fit, the press is timely, and the step makes the wall collect. -/
theorem test_witness_LaneRecordsAreKept_walls :
    finalSeen.WallsFit ∧ finalSeen.PressTimely
      ∧ ∃ t, step finalSeen = .next t ∧ (t.context 3).collecting.map CollectingWall.closeTime = some 563100 := by
  have contexts : ∀ l, finalSeen.context l = if l = 3 then finalist else LaneContext.reset := by decide +kernel
  have none_collects : ∀ l, (finalSeen.context l).collecting = none := by decide +kernel
  refine ⟨⟨nofun, ?_, nofun, nofun, ?_, ?_⟩, ?_, _, rfl, by decide +kernel⟩
  · rintro p ⟨⟩
    exact ⟨by decide, by decide, by decide, fun _ => by decide⟩
  · rintro p l - ⟨⟩
    refine ⟨?_, fun w h => absurd h (by simp [none_collects]), ?_⟩ <;> rw [contexts] <;> split
    · refine ⟨?_, by decide +kernel, by decide, by decide, nofun, nofun⟩
      rintro (_ | i) r h
      · cases h; decide +kernel
      · exact absurd h (by simp [finalist])
    · exact ⟨fun i r h => absurd h (by simp [LaneContext.reset]), by decide, by decide, by decide, nofun, nofun⟩
    · rename_i h
      subst h
      rintro e ⟨⟩
      exact ⟨rfl, by decide, rfl, by decide, by decide, fun _ => by decide, fun _ => by decide, nofun⟩
    · nofun
  · exact fun l w h => absurd h (by simp [none_collects])
  · rintro i rest line v ⟨⟩ ⟨⟩ h -
    have : finalSeen.ports.line (.pad 3 .start) = .pressSeen (.race 533100) := by decide +kernel
    rw [this] at h
    cases h
    rfl

/-- The ranking fits before the first lane finishes, and the step after it ranks that lane. -/
theorem test_witness_ResultsAndMapAreKept :
    finalSeen.ResultsFit ∧ finalSeen.MapFits ∧ ∃ t, step finalSeen = .next t ∧ t.results.order = [3] :=
  ⟨⟨by unfold State.RanksFit; decide +kernel, nofun⟩, by unfold State.MapFits; decide +kernel, _, rfl, by decide +kernel⟩

end Sys2Proof.Tests
end

/-! The race program (chapter 01): how a value is clamped and a record stored, which field a refused load names, and the
settlements of SettingsAreClamped and ProgramLoadRefused. -/

namespace Sys2Proof.Machine

/-! ### Clamping and the stored record (1.3, R7, R8) -/

/-- A clamped value by where the value sent lies: below, above or within the range. -/
theorem clampTo_eq_ite {low high : Nat} (h : low ≤ high) (n : Nat) :
    clampTo low high n = if n < low then low else if high < n then high else n := by
  unfold clampTo
  split
  next below => omega
  next notBelow =>
    split
    next above => omega
    next within => omega

/-- In a range that begins at 0 no value is too low. -/
theorem clampTo_zero (high n : Nat) : clampTo 0 high n = if high < n then high else n := by
  rw [clampTo_eq_ite (Nat.zero_le high), if_neg (Nat.not_lt_zero n)]

section
variable (p : Payload)

@[simp] theorem storedProgram_window : (storedProgram p).window = clampTo 10000 100000 (num32 p 13) := rfl

@[simp] theorem storedProgram_disagree : (storedProgram p).disagree = clampTo 100 10000 (num16 p 17) := rfl

@[simp] theorem storedProgram_floor : (storedProgram p).floor = clampTo 0 5000 (num16 p 19) := rfl

@[simp] theorem storedProgram_tolerance : (storedProgram p).tolerance = clampTo 0 1000 (num16 p 21) := rfl

@[simp] theorem storedProgram_stuckLimit : (storedProgram p).stuckLimit = clampTo 10000 600000 (num32 p 23) := rfl

/-- The stored arm_delay: the clamped value, or backup_window where there is a station end and the clamped value is
shorter (R8). -/
theorem storedProgram_armDelay :
    (storedProgram p).armDelay =
      if (storedProgram p).station ≠ none ∧ clampTo 10000 1200000 (num32 p 9) < (storedProgram p).window
      then (storedProgram p).window else clampTo 10000 1200000 (num32 p 9) := by
  have raised : (storedProgram p).armDelay =
      if (storedProgram p).station.isSome then max (clampTo 10000 1200000 (num32 p 9)) (storedProgram p).window
      else clampTo 10000 1200000 (num32 p 9) := rfl
  rw [raised]
  cases (storedProgram p).station with
  | none => simp
  | some side =>
    simp only [Option.isSome_some, if_true, ne_eq, reduceCtorEq, not_false_eq_true, true_and]
    split <;> omega

end

/-! ### The structural tests in field order (1.2, R3 to R6) -/

/-- The field a refused load names, by the tests as 1.2 states them: what each field must satisfy. -/
theorem firstBadField_eq (p : Payload) :
    firstBadField p =
      if 1 ≤ num16 p 2 ∧ num16 p 2 ≤ 1023 then
        if 1 ≤ num8 p 4 ∧ num8 p 4 ≤ 64 then
          if 1 ≤ num8 p 5 ∧ num8 p 5 ≤ 4 ∧ num8 p 4 % num8 p 5 = 0 then
            if num8 p 6 ≤ 1 then
              if num8 p 7 ≤ 2 then
                if num8 p 8 ≤ 1 then none else some 7
              else some 6
            else some 5
          else some 4
        else some 3
      else some 2 := by
  have lanes : (num16 p 2 = 0 ∨ 1024 ≤ num16 p 2) ↔ ¬ (1 ≤ num16 p 2 ∧ num16 p 2 ≤ 1023) := by omega
  have lengths : (num8 p 4 = 0 ∨ 64 < num8 p 4) ↔ ¬ (1 ≤ num8 p 4 ∧ num8 p 4 ≤ 64) := by omega
  have legs : (num8 p 5 = 0 ∨ 4 < num8 p 5 ∨ num8 p 4 % num8 p 5 ≠ 0) ↔
      ¬ (1 ≤ num8 p 5 ∧ num8 p 5 ≤ 4 ∧ num8 p 4 % num8 p 5 = 0) := by omega
  simp only [firstBadField, lanes, lengths, legs, ite_not]
  simp only [← Nat.not_le, ite_not]

/-! ### What PROGRAM_LOAD does (R2, R6, R9) -/

theorem RaceState.isUnderWay_iff (r : RaceState) : r.isUnderWay = true ↔ r = .armed ∨ r = .running := by
  cases r <;> simp [RaceState.isUnderWay]

theorem RaceState.isUnderWay_eq_false {r : RaceState} (armed : r ≠ .armed) (running : r ≠ .running) :
    r.isUnderWay = false := by
  simp [← Bool.not_eq_true, RaceState.isUnderWay_iff, armed, running]

/-- PROGRAM_LOAD taken with a record of the right length: the Race Controller's work on the state without the frame. -/
theorem exec_programLoad {s : State} {payload : Payload} (taken : s.Takes ⟨kindProgramLoad, payload⟩)
    (length : payload.length = 27) :
    exec (.programLoad payload) s = .next (s.dropInbound.programLoad payload) := by
  have fits : payloadLength kindProgramLoad payload = some payload.length := by rw [length]; rfl
  exact congrArg Host.Outcome.next (State.take_owner _ taken fits)

section
variable {s : State} {payload : Payload}

theorem State.programLoad_of_underWay (h : s.race.isUnderWay = true) :
    s.programLoad payload = s.answer kindProgramLoad .badState [] := by
  simp [State.programLoad, h]

theorem State.programLoad_of_badField {n : Nat} (h : s.race.isUnderWay = false)
    (bad : firstBadField payload = some n) :
    s.programLoad payload = s.answer kindProgramLoad .badValue (be8 n) := by
  simp [State.programLoad, h, bad]

theorem State.programLoad_of_good (h : s.race.isUnderWay = false) (good : firstBadField payload = none) :
    s.programLoad payload =
      (s.storeProgram (storedProgram payload)).answer kindProgramLoad .done [boolCode (clampedFlag payload)] := by
  simp [State.programLoad, h, good]

end

/-- Discarding the race, its faults and its notes around a load leaves the stored program alone (R20). -/
@[simp] theorem State.storeProgram_program (s : State) (p : Program) : (s.storeProgram p).program = some p := by
  unfold State.storeProgram
  rw [(State.raceNote_frame _ _ _ _ _).program, (State.raiseAllStuck_frame _).program,
    (State.clearOverrun_frame _).program, (State.discardRace_frame _ _).program]

/-! ### The obligations -/

/-- Settles O18: a load that passes the tests stores `storedProgram`, whose settings are the clamped ones. -/
theorem settingsAreClamped : Obligations.SettingsAreClamped := by
  intro s payload taken length armed running good
  have free : s.dropInbound.race.isUnderWay = false := RaceState.isUnderWay_eq_false armed running
  have stored : (s.dropInbound.programLoad payload).program = some (storedProgram payload) := by
    rw [State.programLoad_of_good free good, State.answer_program, State.storeProgram_program]
  refine ⟨_, storedProgram payload, exec_programLoad taken length, stored, ?_, ?_, ?_, ?_, ?_,
    _, clampTo_eq_ite (by decide) _, storedProgram_armDelay payload⟩
  · rw [storedProgram_window, clampTo_eq_ite (by decide)]
  · rw [storedProgram_disagree, clampTo_eq_ite (by decide)]
  · rw [storedProgram_floor, clampTo_zero]
  · rw [storedProgram_tolerance, clampTo_zero]
  · rw [storedProgram_stuckLimit, clampTo_eq_ite (by decide)]

/-- Settles O19, field by field: the fields before the named one pass their tests, the named one fails. -/
theorem programLoadRefused : Obligations.ProgramLoadRefused := by
  intro s payload taken length
  rw [exec_programLoad taken length]
  refine ⟨fun underWay => ?_, fun armed running n failing => ?_⟩
  · have busy : s.dropInbound.race.isUnderWay = true := (RaceState.isUnderWay_iff s.race).2 underWay
    rw [State.programLoad_of_underWay busy, State.dropInbound_answer]
    rfl
  · have free : s.dropInbound.race.isUnderWay = false := RaceState.isUnderWay_eq_false armed running
    have named : firstBadField payload = some n.toNat := by
      rw [firstBadField_eq]
      obtain ⟨rfl, lanes⟩ | ⟨lanes, ⟨rfl, lengths⟩ | ⟨lengths, ⟨rfl, legs⟩ | ⟨legs, ⟨rfl, start⟩ |
        ⟨start, ⟨rfl, station⟩ | ⟨station, rfl, policy⟩⟩⟩⟩⟩ := failing
      · rw [if_neg lanes]; rfl
      · rw [if_pos lanes, if_neg lengths]; rfl
      · rw [if_pos lanes, if_pos lengths, if_neg legs]; rfl
      · rw [if_pos lanes, if_pos lengths, if_pos legs, if_neg start]; rfl
      · rw [if_pos lanes, if_pos lengths, if_pos legs, if_pos start, if_neg station]; rfl
      · rw [if_pos lanes, if_pos lengths, if_pos legs, if_pos start, if_pos station, if_neg policy]; rfl
    have number : be8 n.toNat = [n] := by simp [be8]
    rw [State.programLoad_of_badField free named, number, State.dropInbound_answer]
    rfl

end Sys2Proof.Machine

/-! Release of results (chapter 02, 2.8; chapter 08, 8.5): what RESULTS_RELEASE does to the board, that no row but those that
take the race off touches an OFFICIAL race, and the settlement of ResultsReleased. -/

namespace Sys2Proof.Machine

/-! ### A change of race state that keeps the clock (R17, R168, R169) -/

/-- A map that fits stands when it is recomputed, and no row is marked (R169). -/
theorem State.recomputeMap_of_fits {s : State} (fits : s.MapFits) : s.recomputeMap = s := by
  have same : s.mapNow = s.board.map := fits.symm
  simp [State.recomputeMap, same, State.onBoard]

/-- The map looks at the race state only to see whether the race is over. -/
theorem State.mapNow_congr {s t : State} (layout : t.board.layout = s.board.layout)
    (ended : (t.race = .complete ∨ t.race = .official) ↔ (s.race = .complete ∨ s.race = .official))
    (results : t.results = s.results) (program : t.program = s.program) : t.mapNow = s.mapNow := by
  simp only [State.mapNow, State.shownLanes, State.inRace, layout, ended, results, program]

/-- The end of the freeze marks display row 1 alone, and only if there is a freeze (R168, R170). -/
theorem State.endFreeze_eq (s : State) :
    s.endFreeze =
      { s with
        board :=
          { s.board with
            freeze := none
            dirty := if s.board.freeze.isSome then s.board.dirty.set 1 true else s.board.dirty } } := by
  obtain ⟨⟨f, frozen⟩, ended⟩ | ⟨frozen, ended⟩ := s.endFreeze_cases <;> rw [ended]
  · simp [frozen]
  · simp only [frozen, Option.isSome_none, Bool.false_eq_true, if_false]
    rw [← frozen]

/-- A race that leaves its state with the clock kept ends its freeze, and its map is recomputed. -/
theorem State.enter_sameClock (s : State) {race : RaceState} (stopped : race ≠ .running) :
    s.enter race s.clock = (State.endFreeze { s with race }).recomputeMap := by
  simp [State.enter, stopped]

/-! ### What a release does (R32) -/

section
variable {s : State}

/-- The board after a release, when the map fits: COMPLETE and OFFICIAL show the lanes in the same order. -/
theorem State.release_board (complete : s.race = .complete) (fits : s.MapFits) :
    s.release.board =
      { s.board with
        freeze := none
        dirty := if s.board.freeze.isSome then s.board.dirty.set 1 true else s.board.dirty } := by
  have thawed : State.MapFits (State.endFreeze { s with race := .official }) := by
    rw [State.endFreeze_eq]
    refine Eq.trans (b := s.mapNow) fits (Eq.symm ?_)
    exact State.mapNow_congr rfl (by simp [complete]) rfl rfl
  unfold State.release State.raceNote
  rw [State.report_board, State.enter_sameClock s (by decide), State.recomputeMap_of_fits thawed, State.endFreeze_eq]

/-- A release touches race state, board and link alone. -/
theorem State.release_frame (s : State) :
    s.release =
      { s with
        race := .official
        board :=
          { s.board with
            cells := s.release.board.cells, dirty := s.release.board.dirty, chain := s.release.board.chain
            sinceRow1 := s.release.board.sinceRow1, map := s.release.board.map, freeze := s.release.board.freeze
            spent := s.release.board.spent }
        link := s.link.report (.race .official .complete .release s.eventId s.clock.value s.source) } := by
  unfold State.release State.raceNote
  rw [State.enter_frame]
  rfl

@[simp] theorem State.release_race (s : State) : s.release.race = .official := by rw [State.release_frame]
@[simp] theorem State.release_lanes (s : State) : s.release.lanes = s.lanes := by rw [State.release_frame]
@[simp] theorem State.release_results (s : State) : s.release.results = s.results := by rw [State.release_frame]
@[simp] theorem State.release_clock (s : State) : s.release.clock = s.clock := by rw [State.release_frame]
@[simp] theorem State.release_context (s : State) (l : Lane) : s.release.context l = s.context l := by
  simp [State.context]

/-- What is shown and frozen after a release, whether the map fits or not. -/
theorem State.release_shown (s : State) :
    s.release.board.cells = s.board.cells ∧ s.release.board.freeze = none ∧ s.release.board.spent = s.board.spent := by
  unfold State.release State.raceNote
  rw [State.report_board, State.enter_sameClock s (by decide), State.recomputeMap_cells,
    (State.recomputeMap_frame _).board_freeze, (State.recomputeMap_frame _).board_spent, State.endFreeze_eq]
  exact ⟨rfl, rfl, rfl⟩

/-- No lane's auto fields follow from a release: contexts and places stand. -/
theorem State.autoChanged_release (s : State) (l : Lane) : s.autoChanged s.release l = false := by
  simp [State.autoChanged]

/-- A release writes no cell, marks display row 1 when it ends a freeze, and no other row (R165, R169, R170). -/
theorem State.boardShows_release (complete : s.race = .complete) : s.BoardShows (s.autoChanged s.release) s.release := by
  obtain ⟨cells, -, -⟩ := s.release_shown
  refine ⟨⟨fun l x => ?_, ?_, ?_⟩, fun fits => ?_⟩
  · simp [State.autoChanged_release, cells]
  · rw [cells]
  · rw [cells]
  have board := State.release_board complete fits
  refine ⟨?_, ⟨fun d _ changed => ?_, fun d other _ => ?_, fun _ => ?_, ?_⟩, ?_⟩
  · have order : s.release.mapNow = s.mapNow :=
      State.mapNow_congr (by rw [board]) (by simp [complete]) s.release_results (by rw [State.release_frame])
    rw [State.MapFits, order, board]
    exact fits
  · simp [board] at changed
  · have ne : (1 : Nat) ≠ d := fun e => other (Fin.ext e.symm)
    rw [board]
    dsimp only
    split
    · exact Vector.getElem_set_ne (by decide) d.isLt ne
    · rfl
  · rw [board]
  · rw [board]
  · cases frozen : s.board.freeze <;> simp [State.MarksClockRow, board, frozen]

/-- A release ends the freeze; no freeze starts outside RUNNING (R168). -/
theorem State.freezeFollows_release (complete : s.race = .complete) : s.FreezeFollows s.release := by
  obtain ⟨-, freeze, spent⟩ := s.release_shown
  refine ⟨fun _ => freeze, fun starts => ?_, fun _ => ⟨spent, fun same => ?_⟩⟩
  · exact absurd (complete.symm.trans starts.1) (by decide)
  · exact absurd (s.release_race.symm.trans (same.trans complete)) (by decide)

theorem State.boardFollows_release (complete : s.race = .complete) : s.BoardFollows s.release :=
  ⟨State.boardShows_release complete, State.freezeFollows_release complete⟩

/-- The board does not depend on the link, before or after an event. -/
theorem State.boardFollows_dropInbound (s t : State) : s.dropInbound.BoardFollows t ↔ s.BoardFollows t := Iff.rfl

theorem State.boardFollows_answer (s t : State) (kind : Byte) (code : ResultCode) (data : List Byte) :
    s.BoardFollows (t.answer kind code data) ↔ s.BoardFollows t := Iff.rfl

end

/-! ### An OFFICIAL race is frozen (R33) -/

/-- Lane contexts, results, program and race state stand. -/
structure State.KeepsResults (s t : State) : Prop where
  lanes : t.lanes = s.lanes
  results : t.results = s.results
  program : t.program = s.program
  race : t.race = s.race

/-- The operation leaves an OFFICIAL race as it is. -/
def KeepsOfficial (f : State → State) : Prop := ∀ s : State, s.race = .official → s.KeepsResults (f s)

section
variable {s t u : State}

theorem State.KeepsResults.refl (s : State) : s.KeepsResults s := ⟨rfl, rfl, rfl, rfl⟩

theorem State.KeepsResults.trans (h : s.KeepsResults t) (k : t.KeepsResults u) : s.KeepsResults u :=
  ⟨k.lanes.trans h.lanes, k.results.trans h.results, k.program.trans h.program, k.race.trans h.race⟩

theorem State.KeepsResults.ite {c : Prop} [Decidable c] (h : s.KeepsResults t) (k : s.KeepsResults u) :
    s.KeepsResults (if c then t else u) := by
  split
  · exact h
  · exact k

/-- A reply changes the link alone. -/
theorem State.KeepsResults.answer (h : s.KeepsResults t) (kind : Byte) (code : ResultCode) (data : List Byte) :
    s.KeepsResults (t.answer kind code data) := ⟨h.lanes, h.results, h.program, h.race⟩

theorem State.keepsResults_answer (s : State) (kind : Byte) (code : ResultCode) (data : List Byte) :
    s.KeepsResults (s.answer kind code data) := (State.KeepsResults.refl s).answer kind code data

theorem State.keepsResults_onLink (s : State) (f : Link → Link) : s.KeepsResults (s.onLink f) := ⟨rfl, rfl, rfl, rfl⟩
theorem State.keepsResults_onBoard (s : State) (f : Board → Board) : s.KeepsResults (s.onBoard f) := ⟨rfl, rfl, rfl, rfl⟩
theorem State.keepsResults_onPorts (s : State) (f : Ports → Ports) : s.KeepsResults (s.onPorts f) := ⟨rfl, rfl, rfl, rfl⟩

theorem State.OnlyBoard.keepsResults (h : s.OnlyBoard t) : s.KeepsResults t := ⟨h.lanes, h.results, h.program, h.race⟩
theorem State.OnlyChain.keepsResults (h : s.OnlyChain t) : s.KeepsResults t := ⟨h.lanes, h.results, h.program, h.race⟩
theorem State.OnlySampling.keepsResults (h : s.OnlySampling t) : s.KeepsResults t :=
  ⟨h.lanes, h.results, h.program, h.race⟩

theorem State.keepsResults_logEntry (s : State) (stamp : Stamp) (source : LogSource) (wall : Option Nat)
    (d : Disposition) : s.KeepsResults (s.logEntry stamp source wall d) := by
  rw [State.logEntry_frame]
  exact ⟨rfl, rfl, rfl, rfl⟩

end

/-- A command leaves an OFFICIAL race when its owner does; refused by the link, it does not reach its owner (R179). -/
theorem KeepsOfficial.take {owner : State → State} (keeps : KeepsOfficial owner) (kind : Byte) (payload : Payload) :
    KeepsOfficial fun s => s.take kind payload owner := by
  intro s official
  obtain same | refused | owned := s.take_cases kind payload owner
  · dsimp only; rw [same]; exact .refl s
  · dsimp only; rw [refused]; exact (s.keepsResults_onLink _).answer _ _ _
  · dsimp only; rw [owned]; exact (s.keepsResults_onLink _).trans (keeps s.dropInbound official)

theorem KeepsOfficial.unlessHeld {event : State → State} (keeps : KeepsOfficial event) :
    KeepsOfficial fun s => s.unlessHeld event := by
  intro s official
  exact .ite (.refl s) (keeps s official)

/-! ### The console link and the race control -/

theorem State.linkSet_keepsOfficial (payload : Payload) : KeepsOfficial (State.linkSet payload) := by
  intro s _
  unfold State.linkSet
  split
  · exact (s.keepsResults_onLink _).answer _ _ _
  · exact s.keepsResults_answer _ _ _

/-- Outside LOADED, RACE_ARM is refused. -/
theorem State.raceArm_keepsOfficial : KeepsOfficial State.raceArm := by
  intro s official
  rw [State.raceArm, if_neg (by simp [official])]
  exact s.keepsResults_answer _ _ _

theorem State.startManual_keepsOfficial : KeepsOfficial State.startManual := by
  intro s official
  rw [State.startManual, if_neg (by simp [official])]
  exact s.keepsResults_answer _ _ _

theorem State.raceRecall_keepsOfficial : KeepsOfficial State.raceRecall := by
  intro s official
  rw [State.raceRecall, if_neg (by simp [official, RaceState.isUnderWay])]
  exact s.keepsResults_answer _ _ _

theorem State.raceClose_keepsOfficial : KeepsOfficial State.raceClose := by
  intro s official
  rw [State.raceClose, if_neg (by simp [official])]
  exact s.keepsResults_answer _ _ _

theorem State.resultsRelease_of_ne {s : State} (h : s.race ≠ .complete) :
    s.resultsRelease = s.answer kindResultsRelease .badState [] := by
  rw [State.resultsRelease, if_neg h]

theorem State.resultsRelease_keepsOfficial : KeepsOfficial State.resultsRelease := by
  intro s official
  rw [State.resultsRelease_of_ne (by simp [official])]
  exact s.keepsResults_answer _ _ _

/-! ### Ports, platforms and the log -/

theorem State.setGroupMode_keepsOfficial (payload : Payload) : KeepsOfficial (State.setGroupMode payload) := by
  intro s _
  unfold State.setGroupMode
  split
  · exact .ite (s.keepsResults_answer _ _ _) ((s.keepsResults_onPorts _).answer _ _ _)
  · exact s.keepsResults_answer _ _ _

theorem State.keepsResults_setLaneEnd (s : State) (l : Lane) (side : PoolEnd) (e : LaneEnd) :
    s.KeepsResults (s.setLaneEnd l side e) := s.keepsResults_onPorts _

theorem State.keepsResults_setLine (s : State) (line : Line) (x : LineState) : s.KeepsResults (s.setLine line x) :=
  s.keepsResults_onPorts _

theorem State.writeLine_keepsOfficial (payload : Payload) : KeepsOfficial (State.writeLine payload) := by
  intro s _
  unfold State.writeLine
  split
  · exact (s.keepsResults_setLaneEnd _ _ _).answer _ _ _
  · exact (s.keepsResults_setLaneEnd _ _ _).answer _ _ _
  · exact (s.keepsResults_setLaneEnd _ _ _).answer _ _ _
  · exact s.keepsResults_answer _ _ _

theorem State.platformZero_keepsOfficial : KeepsOfficial State.platformZero := by
  intro s _
  exact .ite (s.keepsResults_answer _ _ _) (.ite (s.keepsResults_answer _ _ _) ⟨rfl, rfl, rfl, rfl⟩)

theorem State.platformLimits_keepsOfficial (payload : Payload) : KeepsOfficial (State.platformLimits payload) := by
  intro s _
  unfold State.platformLimits
  split
  · exact ⟨rfl, rfl, rfl, rfl⟩
  · exact s.keepsResults_answer _ _ _

theorem State.samplerSet_keepsOfficial (payload : Payload) : KeepsOfficial (State.samplerSet payload) := by
  intro s _
  unfold State.samplerSet
  split
  · exact (State.setSampler_frame s _ _).keepsResults.answer _ _ _
  · exact s.keepsResults_answer _ _ _

theorem State.logRead_keepsOfficial (payload : Payload) : KeepsOfficial (State.logRead payload) := by
  intro s _
  exact .ite ⟨rfl, rfl, rfl, rfl⟩ (s.keepsResults_answer _ _ _)

/-! ### Amendments (R138) -/

/-- The first check of every AMEND refuses it in OFFICIAL. -/
theorem State.amending_of_official {s : State} (official : s.race = .official) (lane : Byte)
    (act : Program → Lane → State) : s.amending lane act = s.refuseAmend .badState := by
  simp [State.amending, RaceState.takesAmend, official]

theorem amending_keepsOfficial (lane : Byte) (act : State → Program → Lane → State) :
    KeepsOfficial fun s => s.amending lane (act s) := by
  intro s official
  dsimp only
  rw [State.amending_of_official official]
  exact s.keepsResults_answer _ _ _

theorem State.disqualify_keepsOfficial (lane code : Byte) : KeepsOfficial (State.disqualify lane code) :=
  amending_keepsOfficial lane _
theorem State.didNotStart_keepsOfficial (lane : Byte) : KeepsOfficial (State.didNotStart lane) :=
  amending_keepsOfficial lane _
theorem State.restore_keepsOfficial (lane : Byte) : KeepsOfficial (State.restore lane) := amending_keepsOfficial lane _
theorem State.timeWall_keepsOfficial (lane : Byte) (time : Nat) : KeepsOfficial (State.timeWall lane time) :=
  amending_keepsOfficial lane _

theorem State.amendAny_keepsOfficial (payload : Payload) : KeepsOfficial (State.amendAny payload) := by
  intro s official
  unfold State.amendAny
  split
  · exact State.disqualify_keepsOfficial _ _ s official
  · exact State.didNotStart_keepsOfficial _ s official
  · exact State.restore_keepsOfficial _ s official
  · exact State.timeWall_keepsOfficial _ _ s official
  · exact .ite (s.keepsResults_answer _ _ _) (s.keepsResults_answer _ _ _)

/-! ### The board -/

theorem State.boardMode_keepsOfficial (payload : Payload) : KeepsOfficial (State.boardMode payload) := by
  intro s _
  unfold State.boardMode
  split
  · exact (s.keepsResults_onBoard _).answer _ _ _
  · exact s.keepsResults_answer _ _ _

theorem State.boardArea_keepsOfficial (payload : Payload) : KeepsOfficial (State.boardArea payload) := by
  intro s _
  unfold State.boardArea
  split
  · exact s.keepsResults_answer _ _ _
  · split
    · exact (s.keepsResults_onBoard _).answer _ _ _
    · exact s.keepsResults_answer _ _ _

theorem State.boardMask_keepsOfficial (payload : Payload) : KeepsOfficial (State.boardMask payload) := by
  intro s _
  unfold State.boardMask
  split
  · exact (s.keepsResults_onBoard _).answer _ _ _
  · exact s.keepsResults_answer _ _ _

theorem State.keepsResults_writeBoard (s : State) (w : WriteProgress) : s.KeepsResults (s.writeBoard w) := by
  have rows : s.OnlyShown (s.putRows w.cells) :=
    State.OnlyShown.foldl _ (fun t y => State.writeRow_frame t y _) allRows s
  exact rows.toOnlyBoard.keepsResults.trans (State.keepsResults_onBoard _ _)

theorem State.boardWrite_keepsOfficial (payload : Payload) : KeepsOfficial (State.boardWrite payload) := by
  intro s _
  unfold State.boardWrite
  split
  · exact s.keepsResults_answer _ _ _
  · split
    · exact (s.keepsResults_writeBoard _).answer _ _ _
    · exact s.keepsResults_answer _ _ _

theorem State.boardRead_keepsOfficial (payload : Payload) : KeepsOfficial (State.boardRead payload) := by
  intro s _
  exact .ite ((s.keepsResults_onBoard _).answer _ _ _) (s.keepsResults_answer _ _ _)

theorem State.boardClear_keepsOfficial (payload : Payload) : KeepsOfficial (State.boardClear payload) := by
  intro s _
  unfold State.boardClear
  split
  · exact s.keepsResults_answer _ _ _
  · split
    · exact (s.keepsResults_onBoard _).answer _ _ _
    · exact s.keepsResults_answer _ _ _

theorem State.keepsResults_setLayout (s : State) (y : Layout) : s.KeepsResults (s.setLayout y) := by
  have shown (t : State) : t.OnlyBoard t.writeAllAuto.recomputeMap.markClockRow :=
    ((State.writeAllAuto_frame t).toOnlyBoard.trans (State.recomputeMap_frame _).toOnlyBoard).trans
      (State.markClockRow_frame _).toOnlyBoard
  exact (s.keepsResults_onBoard _).trans (shown _).keepsResults

theorem State.boardLayout_keepsOfficial (payload : Payload) : KeepsOfficial (State.boardLayout payload) := by
  intro s _
  unfold State.boardLayout
  split
  · exact (s.keepsResults_setLayout _).answer _ _ _
  · exact s.keepsResults_answer _ _ _

theorem State.boardModule_keepsOfficial (index value : Byte) : KeepsOfficial (State.boardModule index value) := by
  intro s _
  unfold State.boardModule
  split
  · exact s.keepsResults_answer _ _ _
  · exact .ite (s.keepsResults_answer _ _ _) (.ite (s.keepsResults_answer _ _ _) ((s.keepsResults_onBoard _).answer _ _ _))

theorem State.keepsResults_fillNextRow (s : State) : s.KeepsResults s.fillNextRow := by
  unfold State.fillNextRow
  split
  · split
    · exact (State.writeRow_frame s _ _).toOnlyBoard.keepsResults.trans (State.keepsResults_onBoard _ _)
    · exact s.keepsResults_onBoard _
  · exact .refl s

theorem State.keepsResults_endChainFrame (s : State) : s.KeepsResults s.endChainFrame := by
  unfold State.endChainFrame
  split
  · exact (s.keepsResults_onBoard _).trans (State.chooseFrame_frame _).keepsResults
  · exact s.chooseFrame_frame.keepsResults

/-! ### Presses, takeoffs and timers of a race that is over (R33, R77, R93, R116) -/

/-- A pad press outside RUNNING is logged and ignored. -/
theorem State.padEvent_keepsOfficial (l : Lane) (side : PoolEnd) (stamp : Stamp) :
    KeepsOfficial fun s => s.padEvent l side stamp := by
  intro s official
  have ignored : s.padUse l side stamp = .ignored .notRunning none := by simp [State.padUse, official]
  simp only [State.padEvent, ignored]
  exact s.keepsResults_logEntry _ _ _ _

theorem State.buttonEvent_keepsOfficial (l : Lane) (side : PoolEnd) (b : Fin 3) (stamp : Stamp) :
    KeepsOfficial fun s => s.buttonEvent l side b stamp := by
  intro s official
  have ignored : s.buttonUse l side b stamp = .ignored .notRunning none := by simp [State.buttonUse, official]
  simp only [State.buttonEvent, ignored]
  exact s.keepsResults_logEntry _ _ _ _

theorem State.takeoffEvent_keepsOfficial (k : Takeoff) : KeepsOfficial fun s => s.takeoffEvent k := by
  intro s official
  have ignored : s.takeoffUse k = .ignored .notRunning none := by simp [State.takeoffUse, official]
  simp only [State.takeoffEvent, ignored]
  exact s.keepsResults_logEntry _ _ _ _

theorem State.startEdgeEvent_keepsOfficial (stamp : Stamp) : KeepsOfficial fun s => s.startEdgeEvent stamp := by
  intro s official
  simp only [State.startEdgeEvent, official]
  exact s.keepsResults_logEntry _ _ _ _

/-- The Lane Port Unit hands a recognised press on after a change of its own ports. -/
theorem State.recognisePress_keepsOfficial (line : Line) (stamp : Stamp) :
    KeepsOfficial fun s => s.recognisePress line stamp := by
  intro s official
  cases line with
  | pad l side =>
    have pressed := s.keepsResults_setLaneEnd l side { s.ports.laneEnd l side with pad := .pressed, held := some 1 }
    exact .ite (pressed.trans (State.padEvent_keepsOfficial l side stamp _ official)) pressed
  | button l side b =>
    have pressed := s.keepsResults_setLine (.button l side b) .pressed
    exact .ite (pressed.trans (State.buttonEvent_keepsOfficial l side b stamp _ official)) pressed
  | startLine => exact (s.keepsResults_setLine _ _).trans (State.startEdgeEvent_keepsOfficial stamp _ official)

theorem State.keepsResults_recogniseRelease (s : State) (line : Line) : s.KeepsResults (s.recogniseRelease line) := by
  cases line with
  | pad l side =>
    have freed := s.keepsResults_setLaneEnd l side
      { s.ports.laneEnd l side with pad := .released, held := none, stuck := false }
    exact .ite (freed.trans (State.keepsResults_onLink _ _)) freed
  | button l side b => exact s.keepsResults_setLine _ _
  | startLine => exact s.keepsResults_setLine _ _

theorem State.sample_keepsOfficial (line : Line) (closed : Bool) : KeepsOfficial fun s => s.sample line closed := by
  intro s official
  dsimp only [State.sample]
  split
  · exact s.keepsResults_setLine _ _
  · exact .refl s
  · exact State.recognisePress_keepsOfficial line _ s official
  · exact s.keepsResults_setLine _ _
  · exact .refl s
  · exact s.keepsResults_setLine _ _
  · exact s.keepsResults_setLine _ _
  · exact s.keepsResults_recogniseRelease line

theorem State.secondPress_keepsOfficial (line : Line) : KeepsOfficial fun s => s.secondPress line := by
  intro s official
  dsimp only [State.secondPress]
  split
  · exact State.recognisePress_keepsOfficial line _ s official
  · exact .refl s

theorem State.secondRelease_keepsOfficial (line : Line) : KeepsOfficial fun s => s.secondRelease line := by
  intro s _
  dsimp only [State.secondRelease]
  split
  · exact s.keepsResults_recogniseRelease line
  · exact .refl s

/-- A stuck pad is judged in RUNNING alone: in OFFICIAL its flag and its note are all (R50). -/
theorem State.raiseStuckIfDue_keepsOfficial (l : Lane) (side : PoolEnd) :
    KeepsOfficial fun s => s.raiseStuckIfDue l side := by
  intro s official
  dsimp only [State.raiseStuckIfDue]
  split
  · rw [State.raiseStuck, if_neg (by simp [official])]
    exact (s.keepsResults_setLaneEnd _ _ _).trans (State.keepsResults_onLink _ _)
  · exact .refl s

theorem State.deliverTakeoff_keepsOfficial (side : PoolEnd) (l : Lane) :
    KeepsOfficial fun s => s.deliverTakeoff side l := by
  intro s official
  dsimp only [State.deliverTakeoff]
  split
  · next k _ =>
    have landed : s.KeepsResults { s with takeoffs := s.takeoffs.erase k } := ⟨rfl, rfl, rfl, rfl⟩
    exact landed.trans (State.takeoffEvent_keepsOfficial k _ official)
  · exact .refl s

/-- No arm timer is due outside RUNNING. -/
theorem State.expireArm_keepsOfficial (l : Lane) : KeepsOfficial fun s => s.expireArm l := by
  intro s official
  have idle : s.armDue l = none := by simp [State.armDue, official]
  simp only [State.expireArm, idle]
  exact .refl s

/-- No close timer is due outside RUNNING. -/
theorem State.expireClose_keepsOfficial (l : Lane) : KeepsOfficial fun s => s.expireClose l := by
  intro s official
  have idle : s.closeDue l = none := by simp [State.closeDue, official]
  simp only [State.expireClose, idle]
  exact .refl s

/-! ### Every row (R33) -/

/-- The rows that can take a race off: a load, a clear and the resets. -/
def takesRaceOff : Instr → Bool
  | .programLoad _ | .raceClear _ => true
  | .powerOn | .resetLineAssert | .resetLineRelease | .controllerResetTakesEffect => true
  | _ => false

section
variable {i : Instr} {s t : State}

/-- A command row leaves an OFFICIAL race when its owner does. -/
theorem keepsResults_of_taken {kind : Byte} {payload : Payload} {owner : State → State} (official : s.race = .official)
    (ran : (.next (s.take kind payload owner) : Host.Outcome State Fault Refusal) = .next t)
    (keeps : KeepsOfficial owner) : s.KeepsResults t := by
  cases ran
  exact keeps.take kind payload s official

/-- An event row leaves an OFFICIAL race when the event does. -/
theorem keepsResults_of_event {event : State → State} (official : s.race = .official)
    (ran : (.next (s.unlessHeld event) : Host.Outcome State Fault Refusal) = .next t)
    (keeps : KeepsOfficial event) : s.KeepsResults t := by
  cases ran
  exact keeps.unlessHeld s official

/-- A row that cannot take the race off leaves an OFFICIAL race as it is. -/
theorem exec_keepsResults (official : s.race = .official) (ran : exec i s = .next t) (stays : takesRaceOff i = false) :
    s.KeepsResults t := by
  cases i with
  | powerOn | resetLineAssert | resetLineRelease | controllerResetTakesEffect => cases stays
  | programLoad _ | raceClear _ => cases stays
  -- the console link
  | frameReceived bytes => exact keepsResults_of_event official ran fun u _ => u.keepsResults_onLink _
  | frameGapTimeout => exact keepsResults_of_event official ran fun u _ => .ite (u.keepsResults_onLink _) (.refl u)
  | unknownKind kind payload =>
    cases ran
    exact .ite ((s.keepsResults_onLink _).answer _ _ _) (.refl s)
  | lineFrameEnd => exact keepsResults_of_event official ran fun u _ => .ite (.refl u) (u.keepsResults_onLink _)
  | linkSpeedChange =>
    refine keepsResults_of_event official ran fun u _ => ?_
    split
    · exact u.keepsResults_onLink _
    · exact .refl u
  | identAsk payload => exact keepsResults_of_taken official ran fun u _ => u.keepsResults_answer _ _ _
  | statusAsk payload =>
    exact keepsResults_of_taken official ran fun u _ => (u.keepsResults_onLink _).answer _ _ _
  | linkSet payload => exact keepsResults_of_taken official ran (State.linkSet_keepsOfficial payload)
  | controllerReset payload =>
    exact keepsResults_of_taken official ran fun u _ => (u.keepsResults_onLink _).answer _ _ _
  -- the race
  | programAsk payload =>
    refine keepsResults_of_taken official ran fun u _ => ?_
    split <;> exact u.keepsResults_answer _ _ _
  | raceArm payload => exact keepsResults_of_taken official ran State.raceArm_keepsOfficial
  | startManual payload => exact keepsResults_of_taken official ran State.startManual_keepsOfficial
  | raceRecall payload => exact keepsResults_of_taken official ran State.raceRecall_keepsOfficial
  | raceClose payload => exact keepsResults_of_taken official ran State.raceClose_keepsOfficial
  | resultsRelease payload => exact keepsResults_of_taken official ran State.resultsRelease_keepsOfficial
  -- ports and platforms
  | groupMode payload => exact keepsResults_of_taken official ran (State.setGroupMode_keepsOfficial payload)
  | lamp l side pattern | padEnable l side on | buttonEnable l side on =>
    exact keepsResults_of_taken official ran fun u _ => (u.keepsResults_setLaneEnd _ _ _).answer _ _ _
  | lineSet payload => exact keepsResults_of_taken official ran (State.writeLine_keepsOfficial payload)
  | linesAsk payload =>
    refine keepsResults_of_taken official ran fun u _ => ?_
    split <;> exact u.keepsResults_answer _ _ _
  | platformZero payload => exact keepsResults_of_taken official ran State.platformZero_keepsOfficial
  | zeroingComplete =>
    refine keepsResults_of_event official ran fun u _ => ?_
    split
    · exact .ite ⟨rfl, rfl, rfl, rfl⟩ (.refl u)
    · exact .refl u
  | platformLimits payload => exact keepsResults_of_taken official ran (State.platformLimits_keepsOfficial payload)
  | platformAsk payload =>
    refine keepsResults_of_taken official ran fun u _ => ?_
    split <;> exact u.keepsResults_answer _ _ _
  | samplerSet payload => exact keepsResults_of_taken official ran (State.samplerSet_keepsOfficial payload)
  | platformConversion side reading =>
    exact keepsResults_of_event official ran fun u _ => (u.convert_frame side reading.val).keepsResults
  -- lanes, results and amendments
  | laneAsk payload =>
    refine keepsResults_of_taken official ran fun u _ => ?_
    split <;> exact u.keepsResults_answer _ _ _
  | wallsAsk payload =>
    refine keepsResults_of_taken official ran fun u _ => ?_
    split
    · split <;> exact u.keepsResults_answer _ _ _
    · exact u.keepsResults_answer _ _ _
  | resultsAsk payload =>
    refine keepsResults_of_taken official ran fun u _ => ?_
    split
    · exact u.keepsResults_answer _ _ _
    · split <;> exact u.keepsResults_answer _ _ _
  | amendDisqualify lane code time =>
    exact keepsResults_of_taken official ran (State.disqualify_keepsOfficial lane code)
  | amendDidNotStart lane code time => exact keepsResults_of_taken official ran (State.didNotStart_keepsOfficial lane)
  | amendRestore lane code time => exact keepsResults_of_taken official ran (State.restore_keepsOfficial lane)
  | amendTimeWall lane code time => exact keepsResults_of_taken official ran (State.timeWall_keepsOfficial lane _)
  | amend payload => exact keepsResults_of_taken official ran (State.amendAny_keepsOfficial payload)
  -- the log
  | logRead payload => exact keepsResults_of_taken official ran (State.logRead_keepsOfficial payload)
  | logClear payload => exact keepsResults_of_taken official ran fun u _ => ⟨rfl, rfl, rfl, rfl⟩
  -- the board
  | boardMode payload => exact keepsResults_of_taken official ran (State.boardMode_keepsOfficial payload)
  | boardArea payload => exact keepsResults_of_taken official ran (State.boardArea_keepsOfficial payload)
  | boardMask payload => exact keepsResults_of_taken official ran (State.boardMask_keepsOfficial payload)
  | boardWrite payload => exact keepsResults_of_taken official ran (State.boardWrite_keepsOfficial payload)
  | boardRead payload => exact keepsResults_of_taken official ran (State.boardRead_keepsOfficial payload)
  | boardClear payload => exact keepsResults_of_taken official ran (State.boardClear_keepsOfficial payload)
  | boardClearStop payload =>
    exact keepsResults_of_taken official ran fun u _ => (u.keepsResults_onBoard _).answer _ _ _
  | boardLayout payload => exact keepsResults_of_taken official ran (State.boardLayout_keepsOfficial payload)
  | brightness value | blank value | selfTest value | moduleReset value | boardModule payload =>
    exact keepsResults_of_taken official ran (State.boardModule_keepsOfficial _ _)
  -- presses, takeoffs and timers
  | padPress l side | buttonPress l side b | startLineEdge =>
    exact keepsResults_of_event official ran (State.secondPress_keepsOfficial _)
  | lineRelease line => exact keepsResults_of_event official ran (State.secondRelease_keepsOfficial line)
  | contactLineSample line closed => exact keepsResults_of_event official ran (State.sample_keepsOfficial line closed)
  | stuckTimerExpiry l side => exact keepsResults_of_event official ran (State.raiseStuckIfDue_keepsOfficial l side)
  | takeoff side l => exact keepsResults_of_event official ran (State.deliverTakeoff_keepsOfficial side l)
  | armTimerExpiry l => exact keepsResults_of_event official ran (State.expireArm_keepsOfficial l)
  | closeTimerExpiry l => exact keepsResults_of_event official ran (State.expireClose_keepsOfficial l)
  | clockSaturation =>
    refine keepsResults_of_event official ran fun u idle => ?_
    rw [if_neg (by simp [State.saturated, idle])]
    exact .refl u
  | prestartClockLimit =>
    cases ran
    exact .refl s
  | freezeEnd =>
    exact keepsResults_of_event official ran fun u _ => .ite (u.endFreeze_frame.toOnlyBoard.keepsResults) (.refl u)
  | clearRowFill => exact keepsResults_of_event official ran fun u _ => .ite (u.keepsResults_fillNextRow) (.refl u)
  | boardFrameEnd => exact keepsResults_of_event official ran fun u _ => .ite (.refl u) (u.keepsResults_endChainFrame)
  | clockRowDue => exact keepsResults_of_event official ran fun u _ => .ite (u.chooseFrame_frame.keepsResults) (.refl u)

/-! ### What the rows that take a race off leave of its state (R20, R34, R36) -/

theorem State.raiseStuckIfDue_race (s : State) (l : Lane) (side : PoolEnd) : (s.raiseStuckIfDue l side).race = s.race := by
  unfold State.raiseStuckIfDue State.raiseStuck
  dsimp only
  split
  · split
    · exact (State.commit_frame _ _ _).race
    · rfl
  · rfl

theorem State.raiseAllStuck_race (s : State) : s.raiseAllStuck.race = s.race := by
  have each (lanes : List Lane) (u : State) :
      (lanes.foldl (fun t l => (t.raiseStuckIfDue l .start).raiseStuckIfDue l .turn) u).race = u.race := by
    induction lanes generalizing u with
    | nil => rfl
    | cons l lanes ih => rw [List.foldl_cons, ih, State.raiseStuckIfDue_race, State.raiseStuckIfDue_race]
  exact each allLanes s

theorem State.clearOverrun_race (s : State) : s.clearOverrun.race = s.race := by
  unfold State.clearOverrun
  split <;> rfl

@[simp] theorem State.storeProgram_race (s : State) (p : Program) : (s.storeProgram p).race = .loaded := by
  rw [State.storeProgram, (State.raceNote_frame _ _ _ _ _).race, State.raiseAllStuck_race, State.clearOverrun_race,
    State.discardRace_race]

@[simp] theorem State.removeProgram_race (s : State) : s.removeProgram.race = .empty := by
  rw [State.removeProgram, (State.raceNote_frame _ _ _ _ _).race, State.raiseAllStuck_race, State.clearOverrun_race,
    State.discardRace_race]

/-- A load leaves the race state, when it is refused, or makes it LOADED. -/
theorem State.programLoad_race (payload : Payload) (s : State) :
    (s.programLoad payload).race = s.race ∨ (s.programLoad payload).race = .loaded := by
  unfold State.programLoad
  split
  · exact .inl rfl
  · split
    · exact .inl rfl
    · exact .inr ((State.answer_race _ _ _ _).trans (s.storeProgram_race _))

/-- A clear leaves the race state or makes it EMPTY. -/
theorem State.raceClear_race (s : State) : s.raceClear.race = s.race ∨ s.raceClear.race = .empty := by
  unfold State.raceClear
  split
  · exact .inl rfl
  · split
    · exact .inl rfl
    · exact .inr ((State.answer_race _ _ _ _).trans s.removeProgram_race)

/-- After a command the race state is the one before, or the one its owner leaves. -/
theorem State.take_race (s : State) (kind : Byte) (payload : Payload) (owner : State → State) :
    (s.take kind payload owner).race = s.race ∨ (s.take kind payload owner).race = (owner s.dropInbound).race := by
  obtain same | refused | owned := s.take_cases kind payload owner
  · exact .inl (congrArg State.race same)
  · rw [refused]
    exact .inl rfl
  · exact .inr (congrArg State.race owned)

/-- The rows that take a race off leave its state, or make it EMPTY or LOADED. -/
theorem exec_race_of_takesRaceOff (ran : exec i s = .next t) (off : takesRaceOff i = true) :
    t.race = s.race ∨ t.race = .empty ∨ t.race = .loaded := by
  unfold takesRaceOff at off
  split at off
  · next payload =>
    cases ran
    obtain same | owned := s.take_race kindProgramLoad payload (State.programLoad payload)
    · exact .inl same
    · rw [owned]
      exact (s.dropInbound.programLoad_race payload).imp id .inr
  · next payload =>
    cases ran
    obtain same | owned := s.take_race kindRaceClear payload State.raceClear
    · exact .inl same
    · rw [owned]
      exact s.dropInbound.raceClear_race.imp id .inl
  · cases ran; exact .inr (.inl rfl)
  · cases ran; exact .inr (.inl rfl)
  · cases ran; exact .inr (.inl rfl)
  · cases ran
    dsimp only [State.unlessHeld]
    split
    · exact .inl rfl
    · split
      · exact .inr (.inl rfl)
      · exact .inl rfl
  · cases off

/-- No row takes a race from OFFICIAL back to COMPLETE. -/
theorem exec_race_ne_complete (official : s.race = .official) (ran : exec i s = .next t) : t.race ≠ .complete := by
  cases off : takesRaceOff i with
  | false =>
    rw [(exec_keepsResults official ran off).race, official]
    decide
  | true => obtain e | e | e := exec_race_of_takesRaceOff ran off <;> simp [e, official]

end

/-! ### The obligation -/

/-- RESULTS_RELEASE taken in COMPLETE is a release of the state without the frame, and a reply. -/
theorem exec_resultsRelease_of_complete {s : State} (taken : s.Takes ⟨kindResultsRelease, []⟩)
    (complete : s.race = .complete) :
    exec (.resultsRelease []) s = .next (s.dropInbound.release.answer kindResultsRelease .done []) :=
  congrArg Host.Outcome.next ((State.take_owner _ taken rfl).trans (if_pos complete))

/-- Settles O24: the release by `State.release_frame` and `State.boardFollows_release`, what stands of an OFFICIAL race row by
row by `exec_keepsResults`. -/
theorem resultsReleased : Obligations.ResultsReleased := by
  refine ⟨fun s taken complete => ?_, fun s taken other => ?_, fun i s t official ran => exec_race_ne_complete official ran,
    fun i s t official ran commands power assert release reset => ?_⟩
  · refine ⟨_, exec_resultsRelease_of_complete taken complete, ?_⟩
    have follows : s.BoardFollows s.dropInbound.release :=
      (s.boardFollows_dropInbound _).1 (State.boardFollows_release complete)
    have shown := (s.boardFollows_answer _ kindResultsRelease .done []).2 follows
    have cells := s.dropInbound.release_shown.1
    refine ⟨?_, ?_, ?_, ?_, ?_, ?_, ?_, ?_, ?_, ?_, cells, shown, ?_⟩
    all_goals
      rw [State.release_frame]
      rfl
  · exact congrArg Host.Outcome.next ((State.take_owner _ taken rfl).trans (State.resultsRelease_of_ne other))
  · have stays : takesRaceOff i = false := by
      refine Bool.eq_false_iff.2 fun off => ?_
      unfold takesRaceOff at off
      split at off
      · exact (commands _).1 rfl
      · exact (commands _).2 rfl
      · exact power rfl
      · exact assert rfl
      · exact release rfl
      · exact reset rfl
      · cases off
    obtain ⟨lanes, results, program, race⟩ := exec_keepsResults official ran stays
    exact ⟨lanes, results, program, race.trans official⟩

end Sys2Proof.Machine

/-! The samplers' thresholds (chapter 04, 4.3): what PLATFORM_LIMITS stores and answers, the conversion that empties a
platform below its release threshold, what the resets make of the thresholds, and the settlement of ThresholdsAreStored. -/

namespace Sys2Proof.Machine

/-! ### The code of an end (11.7) -/

/-- The code of an end names it. -/
@[simp] theorem sideOfCode_code (side : PoolEnd) : sideOfCode side.code = some side := by
  cases side <;> rfl

/-- A code above that of TURN names no end. -/
theorem sideOfCode_of_unknown {b : Byte} (unknown : 1 < b.toNat) : sideOfCode b = none := by
  unfold sideOfCode
  split
  next isStart => omega
  next isTurn => omega
  next => rfl

/-! ### PLATFORM_LIMITS (R59) -/

section
variable (payload : Payload)

/-- The load threshold stored is the one sent, clamped to 1 to 1,022. -/
theorem limitsOf_load :
    (limitsOf payload).1 =
      if num16 payload 1 < 1 then 1 else if 1022 < num16 payload 1 then 1022 else num16 payload 1 :=
  clampTo_eq_ite (by decide) _

/-- The load threshold stored leaves room for a release threshold. -/
theorem limitsOf_load_pos : 1 ≤ (limitsOf payload).1 := Nat.le_max_left _ _

/-- The release threshold stored is the one sent, clamped to 1 to the load threshold stored. -/
theorem limitsOf_release :
    (limitsOf payload).2 =
      if num16 payload 3 < 1 then 1
      else if (limitsOf payload).1 < num16 payload 3 then (limitsOf payload).1 else num16 payload 3 :=
  clampTo_eq_ite (limitsOf_load_pos payload) _

end

section
variable {s : State} {payload : Payload}

/-- PLATFORM_LIMITS taken with a payload of the right length: the samplers' work on the state without the frame. -/
theorem exec_platformLimits (taken : s.Takes ⟨kindPlatformLimits, payload⟩) (length : payload.length = 5) :
    exec (.platformLimits payload) s = .next (s.dropInbound.platformLimits payload) := by
  have fits : payloadLength kindPlatformLimits payload = some payload.length := by rw [length]; rfl
  exact congrArg Host.Outcome.next (State.take_owner _ taken fits)

/-- An unknown end is refused. -/
theorem State.platformLimits_of_unknown (unknown : 1 < num8 payload 0) :
    s.platformLimits payload = s.answer kindPlatformLimits .badValue [] := by
  simp only [State.platformLimits, sideOfCode_of_unknown unknown]

/-- The thresholds of the end named are stored, and the reply carries them. -/
theorem State.platformLimits_of_side {side : PoolEnd} (code : byteAt payload 0 = side.code) :
    s.platformLimits payload =
      (s.onSampler side fun m => { m with load := (limitsOf payload).1, release := (limitsOf payload).2 }).answer
        kindPlatformLimits .done (be16 (limitsOf payload).1 ++ be16 (limitsOf payload).2) := by
  simp only [State.platformLimits, code, sideOfCode_code]

end

/-! ### A conversion below the release threshold (R58, R61) -/

/-- A LOADED platform below the release threshold empties; a watch ends, and its leg is that of the takeoff. -/
theorem Channel.testState_of_below {c : Channel} {release : Nat} (load : Nat) (loaded : c.loaded = true)
    (below : c.corrected < release) :
    c.testState load release = ⟨{ c with loaded := false, watch := none }, c.watch, none⟩ := by
  simp [Channel.testState, loaded, below]

/-- With the fault CLEAR, a reading below full scale ends the full-scale run, and the platform state is tested. -/
theorem Channel.convert_of_good {c : Channel} {reading : Nat} (load release : Nat) (clear : c.fault = false)
    (good : reading < Config.fullScale) :
    c.convert load release reading = Channel.testState load release { c.read reading with fullRun := 0 } := by
  simp [Channel.convert, Channel.convertGood, clear, good.ne]

/-- A LOADED channel without a fault whose new corrected value is below the release threshold empties, a takeoff when it is
watched. -/
theorem Channel.convert_of_below {c : Channel} {release reading : Nat} (load : Nat) (loaded : c.loaded = true)
    (clear : c.fault = false) (good : reading < Config.fullScale) (below : reading - c.offset < release) :
    c.convert load release reading =
      ⟨{ c.read reading with fullRun := 0, loaded := false, watch := none }, c.watch, none⟩ :=
  (Channel.convert_of_good load release clear good).trans (Channel.testState_of_below load loaded below)

/-! ### The thresholds after a reset (R68) -/

/-- Power-on and the reset line put both samplers in their reset state. -/
theorem State.afterReset_sampler (s : State) (side : PoolEnd) : s.afterReset.sampler side = Sampler.reset := by
  cases side <;> rfl

/-- CONTROLLER_RESET acts on each sampler by itself. -/
theorem State.afterControllerReset_sampler (s : State) (side : PoolEnd) :
    s.afterControllerReset.sampler side = (s.sampler side).controllerReset := by
  cases side <;> rfl

/-- CONTROLLER_RESET_TAKES_EFFECT is a controller reset, or changes nothing when none is due or the reset line is held. -/
theorem exec_controllerResetTakesEffect_cases (s : State) :
    exec .controllerResetTakesEffect s = .next s.afterControllerReset
      ∨ exec .controllerResetTakesEffect s = .next s := by
  change Host.Outcome.next (s.unlessHeld _) = _ ∨ Host.Outcome.next (s.unlessHeld _) = _
  cases held : s.resetHeld with
  | true =>
    rw [State.unlessHeld_of_held _ held]
    exact .inr rfl
  | false =>
    rw [State.unlessHeld_of_free _ held]
    split
    · exact .inl rfl
    · exact .inr rfl

/-! ### The obligation -/

/-- Settles O32: the thresholds stored are `limitsOf`, and each reset acts on a sampler by itself. -/
theorem thresholdsAreStored : Obligations.ThresholdsAreStored := by
  refine ⟨fun s payload taken length => ⟨fun unknown => ?_, fun side load release code storedLoad storedRelease => ?_⟩,
    fun c load release reading loaded clear good below => ?_, fun s side => ?_, fun s side => ?_⟩
  · rw [exec_platformLimits taken length, State.platformLimits_of_unknown unknown, State.dropInbound_answer]
    rfl
  · obtain rfl : load = (limitsOf payload).1 := storedLoad.trans (limitsOf_load payload).symm
    obtain rfl : release = (limitsOf payload).2 := storedRelease.trans (limitsOf_release payload).symm
    rw [exec_platformLimits taken length, State.platformLimits_of_side code]
    exact ⟨_, rfl, Ends.get_set_same _ _ _, fun other differs => Ends.get_set_other _ _ differs.symm⟩
  · rw [Channel.convert_of_below load loaded clear good below]
    exact ⟨rfl, rfl⟩
  · refine ⟨s.afterReset, s.afterReset, rfl, rfl, ?_⟩
    rw [State.afterReset_sampler]
    exact ⟨rfl, rfl, rfl, rfl⟩
  · obtain reset | idle := exec_controllerResetTakesEffect_cases s
    · refine ⟨_, reset, ?_⟩
      rw [State.afterControllerReset_sampler]
      exact ⟨rfl, rfl⟩
    · exact ⟨s, idle, rfl, rfl⟩

end Sys2Proof.Machine

/-! The backup reference and the wall record (chapter 06): the order of the presses does not matter, the reference lies
among the stamps, when a pad time disagrees, which time is official, and the settlement of BackupDecision. -/

namespace Sys2Proof.Machine

/-! ### The median of three stamps (R97) -/

/-- The first two stamps of a median may be exchanged. -/
theorem medianOf_swap_first (a b c : Nat) : medianOf b a c = medianOf a b c := by
  unfold medianOf
  rw [min_comm b a, max_comm b a]

/-- The last two stamps of a median may be exchanged. -/
theorem medianOf_swap_last (a b c : Nat) : medianOf a c b = medianOf a b c := by
  unfold medianOf
  omega

/-- The median of three stamps in order of value is the middle one. -/
theorem medianOf_of_le {a b c : Nat} (ab : a ≤ b) (bc : b ≤ c) : medianOf a b c = b := by
  unfold medianOf
  rw [min_eq_left ab, max_eq_right ab, min_eq_left bc, max_eq_right ab]

/-- The median keeps within any bounds of the three stamps. -/
theorem medianOf_mem_Icc {a b c low high : Nat} (ha : a ∈ Set.Icc low high) (hb : b ∈ Set.Icc low high)
    (hc : c ∈ Set.Icc low high) : medianOf a b c ∈ Set.Icc low high := by
  simp only [Set.mem_Icc] at *
  unfold medianOf
  omega

/-! ### The backup reference (R97) -/

/-- Exchanging two neighbours of a list of at most three presses keeps its reference. -/
theorem backupReference_swap (front : List Press) (x y : Press) (rest : List Press)
    (few : (front ++ y :: x :: rest).length ≤ 3) :
    backupReference (front ++ y :: x :: rest) = backupReference (front ++ x :: y :: rest) := by
  match front, rest, few with
  | [], [], _ => exact congrArg (fun sum => some (sum / 2)) (Nat.add_comm ..)
  | [], [z], _ => exact congrArg some (medianOf_swap_first ..)
  | [z], [], _ => exact congrArg some (medianOf_swap_last ..)
  | [], _ :: _ :: _, few | [_], _ :: _, few | _ :: _ :: _, _, few =>
    simp only [List.length_append, List.length_cons] at few
    omega

/-- The order of the presses behind a fixed front does not matter: a permutation is a chain of exchanges of neighbours. -/
theorem backupReference_append_perm {presses others : List Press} (perm : presses.Perm others) (front : List Press)
    (few : (front ++ presses).length ≤ 3) :
    backupReference (front ++ presses) = backupReference (front ++ others) := by
  induction perm generalizing front with
  | nil => rfl
  | cons x _ ih =>
    rw [List.append_cons] at few
    rw [List.append_cons, ih _ few, ← List.append_cons]
  | swap x y rest => exact backupReference_swap front x y rest few
  | trans first _ ih₁ ih₂ =>
    exact (ih₁ front few).trans (ih₂ front ((first.append_left front).length_eq ▸ few))

/-- The order of at most three presses does not matter. -/
theorem backupReference_perm {presses others : List Press} (few : presses.length ≤ 3) (perm : presses.Perm others) :
    backupReference presses = backupReference others :=
  backupReference_append_perm perm [] few

/-- The reference keeps within any bounds of the stamps. -/
theorem backupReference_mem_Icc {presses : List Press} {r low high : Nat} (formed : backupReference presses = some r)
    (within : ∀ q ∈ presses, q.stamp ∈ Set.Icc low high) : r ∈ Set.Icc low high := by
  match presses, formed with
  | [a], rfl => exact within a (by simp)
  | [a, b], rfl =>
    obtain ⟨lowA, highA⟩ := within a (by simp)
    obtain ⟨lowB, highB⟩ := within b (by simp)
    constructor <;> omega
  | a :: b :: c :: _, rfl => exact medianOf_mem_Icc (within a (by simp)) (within b (by simp)) (within c (by simp))

/-- No reference is formed exactly when there is no press. -/
theorem backupReference_eq_none_iff (presses : List Press) : backupReference presses = none ↔ presses = [] := by
  match presses with
  | [] => exact iff_of_true rfl rfl
  | [_] | [_, _] | _ :: _ :: _ :: _ => exact iff_of_false nofun nofun

/-- The reference of three presses in any order is the middle one of their stamps. -/
theorem backupReference_of_perm_triple {presses : List Press} {a b c : Press} (perm : presses.Perm [a, b, c])
    (ab : a.stamp ≤ b.stamp) (bc : b.stamp ≤ c.stamp) : backupReference presses = some b.stamp :=
  (backupReference_perm perm.length_eq.le perm).trans (congrArg some (medianOf_of_le ab bc))

/-! ### The disagreement test (R98) -/

/-- The difference of two times is the larger less the smaller. -/
theorem timeDifference_eq_ite (a b : Nat) : timeDifference a b = if a ≤ b then b - a else a - b := by
  unfold timeDifference
  split <;> omega

/-- A wall disagrees when it has a pad time and at least two presses, and the pad time is more than the limit from the
reference. -/
theorem disagrees_iff (p : Program) (w : CollectingWall) :
    disagrees p w = true ↔ ∃ pad ref, w.pad = some pad ∧ backupReference w.presses = some ref ∧ 2 ≤ w.presses.length
      ∧ p.disagree < timeDifference pad ref := by
  unfold disagrees
  split
  next pad ref hasPad hasRef => simp [hasPad, hasRef]
  next missing =>
    refine iff_of_false nofun ?_
    rintro ⟨pad, ref, hasPad, hasRef, _⟩
    exact missing pad ref hasPad hasRef

/-! ### The wall record (R99) -/

section
variable (p : Program) (w : CollectingWall)

/-- The record of a wall with a given official time and source; the other fields are what the wall holds. -/
def wallRecordWith (official : Nat) (source : WallSource) : WallRecord :=
  ⟨w.index, w.side, official, source, w.pad, backupReference w.presses, w.presses.length, disagrees p w⟩

/-- A pad time that no disagreement overrules under CHECKED is the official time. -/
theorem recordOfWall_of_pad {pad : Nat} (hasPad : w.pad = some pad)
    (stands : ¬ (disagrees p w = true ∧ p.policy = .checked)) :
    recordOfWall p w = wallRecordWith p w pad .pad := by
  simp only [recordOfWall, hasPad, if_neg stands, wallRecordWith]

/-- Without a pad time, or with one overruled under CHECKED, the reference is the official time. -/
theorem recordOfWall_of_reference {ref : Nat} (hasRef : backupReference w.presses = some ref)
    (decides : w.pad = none ∨ (disagrees p w = true ∧ p.policy = .checked)) :
    recordOfWall p w = wallRecordWith p w ref (backupSource w.presses) := by
  cases hasPad : w.pad with
  | none => simp only [recordOfWall, wallRecordWith, hasPad, hasRef, Option.getD_some]
  | some pad =>
    have overruled := decides.resolve_left (by simp [hasPad])
    simp only [recordOfWall, wallRecordWith, hasPad, hasRef, if_pos overruled, Option.getD_some]

/-- Whatever decides the official time and its source, the other fields of the record are what the wall holds. -/
theorem recordOfWall_eq_wallRecordWith :
    recordOfWall p w = wallRecordWith p w (recordOfWall p w).official (recordOfWall p w).source := by
  unfold recordOfWall wallRecordWith
  cases w.pad with
  | none => rfl
  | some pad => dsimp only; split <;> rfl

/-- The disagree flag of the record is the result of the test. -/
@[simp] theorem recordOfWall_disagree : (recordOfWall p w).disagree = disagrees p w :=
  congrArg WallRecord.disagree (recordOfWall_eq_wallRecordWith p w)

end

section
variable {presses : List Press}

theorem backupSource_of_one (count : presses.length = 1) : backupSource presses = .backupSingle := by
  simp only [backupSource, count]

theorem backupSource_of_two (count : presses.length = 2) : backupSource presses = .backupMean := by
  simp only [backupSource, count]

theorem backupSource_of_three (count : presses.length = 3) : backupSource presses = .backupMedian := by
  simp only [backupSource, count]

end

/-! ### The obligation -/

/-- Settles O42: a permutation is a chain of exchanges of neighbours, the flag is the test of R98, and the record's
equations name its official time. -/
theorem backupDecision : Obligations.BackupDecision := by
  refine ⟨fun _ _ => backupReference_perm, fun _ _ _ _ _ formed within => backupReference_mem_Icc formed within,
    backupReference_eq_none_iff, fun _ _ _ _ => backupReference_of_perm_triple, fun _ _ => rfl, fun _ => rfl,
    fun p w => ?_, fun p w => ?_⟩
  · simp only [recordOfWall_disagree, disagrees_iff, timeDifference_eq_ite]
  · rw [recordOfWall_disagree]
    have fields := recordOfWall_eq_wallRecordWith p w
    refine ⟨congrArg WallRecord.index fields, congrArg WallRecord.side fields, congrArg WallRecord.pad fields,
      congrArg WallRecord.backup fields, congrArg WallRecord.presses fields, fun pad hasPad stands => ?_,
      fun ref hasRef decides => ?_⟩
    · rw [recordOfWall_of_pad p w hasPad stands]
      exact ⟨rfl, rfl⟩
    · rw [recordOfWall_of_reference p w hasRef decides]
      exact ⟨rfl, backupSource_of_one, backupSource_of_two, backupSource_of_three⟩

end Sys2Proof.Machine

/-! Reading and clearing the event log (chapter 09, 9.5): what LOG_READ takes from the front of the log and answers, what
LOG_CLEAR leaves of the log and of an input made at the same moment, and the settlements of LogIsReadFromTheFront and
LogIsCleared. -/

namespace Sys2Proof.Machine

/-! ### The oldest entries (R152, R153) -/

section
variable (g : EventLog) (count : Nat)

@[simp] theorem EventLog.removeOldest_counter : (g.removeOldest count).counter = g.counter := rfl

@[simp] theorem EventLog.removeOldest_dropped : (g.removeOldest count).dropped = g.dropped := rfl

/-- The entries the reply carries and the entries kept are the log, in its order. -/
theorem EventLog.take_append_removeOldest : g.entries.take count ++ (g.removeOldest count).entries = g.entries :=
  List.take_append_drop count g.entries

@[simp] theorem EventLog.removeOldest_length :
    (g.removeOldest count).entries.length = g.entries.length - count :=
  List.length_drop

/-- A removal never spends the notice, and arms it when the fill it leaves is below 384. -/
theorem EventLog.removeOldest_armed_iff :
    (g.removeOldest count).armed = true ↔ g.armed = true ∨ (g.removeOldest count).entries.length < 384 :=
  Bool.or_eq_true_iff.trans (or_congr_right decide_eq_true_iff)

/-- The data of the reply, with its two counts as numbers of entries. -/
theorem EventLog.readData_eq :
    g.readData count =
      be8 (min count g.entries.length) ++ ((g.entries.take count).map LogEntry.bytes).flatten
        ++ be16 (g.entries.length - count) ++ be16 g.dropped := by
  simp only [EventLog.readData, counted, be8, List.length_map, List.length_take, List.length_drop, List.singleton_append]

end

/-! ### What LOG_READ does (R153) -/

section
variable {s : State} {count : Byte}

/-- LOG_READ taken with its count: the log's work on the state without the frame. -/
theorem exec_logRead (taken : s.Takes ⟨kindLogRead, [count]⟩) :
    exec (.logRead [count]) s = .next (s.dropInbound.logRead [count]) :=
  congrArg Host.Outcome.next (State.take_owner _ taken rfl)

/-- A count of 1 to 8 takes the oldest entries and answers with them. -/
theorem State.logRead_of_count (pos : 1 ≤ count.toNat) (small : count.toNat ≤ 8) :
    s.logRead [count] =
      ({ s with log := s.log.removeOldest count.toNat } : State).answer kindLogRead .done
        (s.log.readData count.toNat) :=
  if_pos ⟨pos, small⟩

/-- A count outside 1 to 8 is refused. -/
theorem State.logRead_of_badCount (bad : ¬ (1 ≤ count.toNat ∧ count.toNat ≤ 8)) :
    s.logRead [count] = s.answer kindLogRead .badValue [] :=
  if_neg bad

end

/-! ### What LOG_CLEAR does (R154) -/

section
variable {s : State}

/-- LOG_CLEAR taken without a payload: the log is cleared and the reply is DONE. -/
theorem exec_logClear (taken : s.Takes ⟨kindLogClear, []⟩) :
    exec (.logClear []) s = .next ({ s with log := s.log.cleared }.replied kindLogClear .done []) :=
  congrArg Host.Outcome.next (State.take_owner _ taken rfl)

/-- LOG_CLEAR carries no payload. -/
theorem exec_logClear_of_payload {payload : Payload} (nonempty : payload ≠ [])
    (taken : s.Takes ⟨kindLogClear, payload⟩) :
    exec (.logClear payload) s = .next (s.replied kindLogClear .badLength []) := by
  have misfit : payloadLength kindLogClear payload ≠ some payload.length := fun fits =>
    nonempty (List.eq_nil_of_length_eq_zero (Option.some.inj fits).symm)
  exact congrArg Host.Outcome.next (State.take_badLength _ taken misfit)

end

/-! ### An input made at the moment of a clear (R150, R154) -/

section
variable (s : State) (stamp : Stamp) (source : LogSource) (wall : Option Nat) (d : Disposition)

@[simp] theorem State.logEntry_log : (s.logEntry stamp source wall d).log = s.log.add stamp source wall d :=
  congrArg State.log (s.logEntry_frame stamp source wall d)

/-- An entry, and the notice it may give, leave open whether the Console Link can take a frame. -/
theorem State.takes_logEntry_iff (f : Frame) : (s.logEntry stamp source wall d).Takes f ↔ s.Takes f := by
  rw [State.logEntry_frame]
  exact Iff.rfl

/-- The first entry after a clear carries the counter as it stood before the clear. -/
theorem EventLog.cleared_add_entries (g : EventLog) :
    (g.cleared.add stamp source wall d).entries = [⟨g.counter, stamp, source, wall, d⟩] := rfl

end

/-! ### The obligations -/

/-- Settles O48: the log splits at the count into the reply's entries and those kept. -/
theorem logIsReadFromTheFront : Obligations.LogIsReadFromTheFront := by
  refine ⟨fun s count taken pos small => ?_, fun s count taken bad => ?_⟩
  · refine ⟨s.log.removeOldest count.toNat, ?_, (s.log.take_append_removeOldest _).symm, s.log.removeOldest_length _,
      s.log.removeOldest_counter _, s.log.removeOldest_dropped _, s.log.removeOldest_armed_iff _⟩
    rw [exec_logRead taken, State.logRead_of_count pos small, State.dropInbound_log, EventLog.readData_eq]
    rfl
  · have outside : ¬ (1 ≤ count.toNat ∧ count.toNat ≤ 8) := by
      rintro ⟨pos, small⟩
      obtain rfl | large := bad
      · exact absurd pos (by decide)
      · omega
    rw [exec_logRead taken, State.logRead_of_badCount outside, State.dropInbound_answer]
    rfl

/-- Settles O49: an entry does not keep the link from taking the clear, and the log it joins after a clear is empty. -/
theorem logIsCleared : Obligations.LogIsCleared := by
  refine ⟨fun s taken => exec_logClear taken, fun s payload nonempty taken => exec_logClear_of_payload nonempty taken,
    fun s stamp source wall d taken => ⟨?_, ?_⟩⟩
  · exact ⟨_, exec_logClear ((s.takes_logEntry_iff stamp source wall d _).2 taken), rfl⟩
  · refine ⟨_, exec_logClear taken, ?_⟩
    rw [State.logEntry_log]
    exact s.log.cleared_add_entries stamp source wall d

end Sys2Proof.Machine


/-! The identification (chapter 11, R183): its ten bytes, what a command without data answers to a payload, and the
settlement of IdentificationIsFixed. -/

namespace Sys2Proof.Machine

/-- The capacity of the log is sent most significant byte first. -/
theorem identification_eq : identification = [0x4C, 0x54, 0x31, 0x30, 1, 10, 12, 32, 0x02, 0x00] := by
  have capacity : be16 Config.logCapacity = [0x02, 0x00] := by decide
  rw [identification, capacity]
  rfl

/-- A command whose kind carries no payload, sent with one, does not reach its owner (R179). -/
theorem State.take_of_payload {s : State} {kind : Byte} {payload : Payload} (owner : State → State)
    (none_carried : payloadLength kind payload = some 0) (nonempty : payload ≠ [])
    (taken : s.Takes ⟨kind, payload⟩) : s.take kind payload owner = s.replied kind .badLength [] := by
  have misfit : payloadLength kind payload ≠ some payload.length := by
    rw [none_carried]
    exact fun fits => nonempty (List.eq_nil_of_length_eq_zero (Option.some.inj fits).symm)
  rw [State.take_badLength owner taken misfit, State.dropInbound_answer]
  rfl

/-- IDENT_ASK taken without a payload: the identification is the reply, and only the Console Link changes. -/
theorem exec_identAsk {s : State} (taken : s.Takes ⟨kindIdentAsk, []⟩) :
    exec (.identAsk []) s = .next (s.replied kindIdentAsk .done identification) :=
  congrArg Host.Outcome.next (State.take_owner _ taken rfl)

/-- Settles O13: the owner answers with the one constant, whatever the state holds, and a payload never reaches it. -/
theorem identificationIsFixed : Obligations.IdentificationIsFixed := by
  refine ⟨fun s taken => ?_, fun s payload nonempty taken => ?_⟩
  · rw [exec_identAsk taken, identification_eq]
  · exact congrArg Host.Outcome.next (State.take_of_payload _ rfl nonempty taken)

end Sys2Proof.Machine


/-! ### Rows aside from the race (95, what each step holds)

Most rows leave the race, the lanes and the results alone: `exec_aside` says so once for all of them. The rows that do not
are the resets and those that `raceWork` lists with what they do. -/

namespace Sys2Proof.Machine

/-- What every row aside from the race keeps; `sampling` tells the rows that work on a sampler. -/
structure State.KeepsRace (sampling : Bool) (s t : State) : Prop where
  pending : t.pending = s.pending
  resetHeld : t.resetHeld = s.resetHeld
  program : t.program = s.program
  race : t.race = s.race
  source : t.source = s.source
  overrun : t.overrun = s.overrun
  clock : t.clock = s.clock
  lanes : t.lanes = s.lanes
  results : t.results = s.results
  layout : t.board.layout = s.board.layout
  map : t.board.map = s.board.map
  freeze : t.board.freeze = s.board.freeze
  samplers : sampling = false → t.samplers = s.samplers

section
variable {s t u : State} {sampling : Bool}

theorem State.KeepsRace.refl (s : State) : s.KeepsRace sampling s :=
  ⟨rfl, rfl, rfl, rfl, rfl, rfl, rfl, rfl, rfl, rfl, rfl, rfl, fun _ => rfl⟩

theorem State.KeepsRace.trans (h : s.KeepsRace sampling t) (k : t.KeepsRace sampling u) : s.KeepsRace sampling u :=
  ⟨k.pending.trans h.pending, k.resetHeld.trans h.resetHeld, k.program.trans h.program, k.race.trans h.race,
    k.source.trans h.source, k.overrun.trans h.overrun, k.clock.trans h.clock, k.lanes.trans h.lanes,
    k.results.trans h.results, k.layout.trans h.layout, k.map.trans h.map, k.freeze.trans h.freeze,
    fun e => (k.samplers e).trans (h.samplers e)⟩

theorem State.KeepsRace.ite {c : Prop} [Decidable c] (h : s.KeepsRace sampling t) (k : s.KeepsRace sampling u) :
    s.KeepsRace sampling (if c then t else u) := by
  split
  · exact h
  · exact k

/-- The ports, a zeroing in progress, the log and the link are aside from the race. -/
theorem State.aside_keepsRace (s : State) (ports : Ports) (zeroing : Option Zeroing) (log : EventLog) (link : Link) :
    s.KeepsRace sampling { s with ports, zeroing, log, link } :=
  ⟨rfl, rfl, rfl, rfl, rfl, rfl, rfl, rfl, rfl, rfl, rfl, rfl, fun _ => rfl⟩

theorem State.onLink_keepsRace (s : State) (f : Link → Link) : s.KeepsRace sampling (s.onLink f) :=
  s.aside_keepsRace _ _ _ _

theorem State.onPorts_keepsRace (s : State) (f : Ports → Ports) : s.KeepsRace sampling (s.onPorts f) :=
  s.aside_keepsRace _ _ _ _

theorem State.KeepsRace.answer (h : s.KeepsRace sampling t) (kind : Byte) (code : ResultCode) (data : List Byte) :
    s.KeepsRace sampling (t.answer kind code data) :=
  h.trans (State.onLink_keepsRace t _)

theorem State.answer_keepsRace (s : State) (kind : Byte) (code : ResultCode) (data : List Byte) :
    s.KeepsRace sampling (s.answer kind code data) :=
  State.onLink_keepsRace s _

theorem State.OnlyShown.keepsRace (h : s.OnlyShown t) : s.KeepsRace sampling t :=
  ⟨h.pending, h.resetHeld, h.program, h.race, h.source, h.overrun, h.clock, h.lanes, h.results, h.board_layout,
    h.board_map, h.board_freeze, fun _ => h.samplers⟩

theorem State.OnlyChain.keepsRace (h : s.OnlyChain t) : s.KeepsRace sampling t :=
  ⟨h.pending, h.resetHeld, h.program, h.race, h.source, h.overrun, h.clock, h.lanes, h.results, h.board_layout,
    h.board_map, h.board_freeze, fun _ => h.samplers⟩

theorem State.OnlyReports.keepsRace (h : s.OnlyReports t) : s.KeepsRace sampling t :=
  ⟨h.pending, h.resetHeld, h.program, h.race, h.source, h.overrun, h.clock, h.lanes, h.results,
    congrArg Board.layout h.board, congrArg Board.map h.board, congrArg Board.freeze h.board, fun _ => h.samplers⟩

theorem State.OnlySampling.keepsRace (h : s.OnlySampling t) : s.KeepsRace true t :=
  ⟨h.pending, h.resetHeld, h.program, h.race, h.source, h.overrun, h.clock, h.lanes, h.results,
    congrArg Board.layout h.board, congrArg Board.map h.board, congrArg Board.freeze h.board, nofun⟩

/-- A change of the board's settings alone. -/
theorem State.onBoard_keepsRace (s : State) (f : Board → Board) (layout : (f s.board).layout = s.board.layout)
    (map : (f s.board).map = s.board.map) (freeze : (f s.board).freeze = s.board.freeze) :
    s.KeepsRace sampling (s.onBoard f) :=
  ⟨rfl, rfl, rfl, rfl, rfl, rfl, rfl, rfl, rfl, layout, map, freeze, fun _ => rfl⟩

/-- A command keeps what its owner keeps. -/
theorem State.take_keepsRace (s : State) (kind : Byte) (payload : Payload) {owner : State → State}
    (keeps : ∀ u : State, u.KeepsRace sampling (owner u)) : s.KeepsRace sampling (s.take kind payload owner) := by
  obtain same | refused | owned := s.take_cases kind payload owner
  · rw [same]
    exact .refl s
  · rw [refused]
    exact (State.onLink_keepsRace s _).answer _ _ _
  · rw [owned]
    exact (State.onLink_keepsRace s _).trans (keeps _)

/-- An event keeps what its work keeps. -/
theorem State.unlessHeld_keepsRace (s : State) {event : State → State}
    (keeps : ∀ u : State, u.KeepsRace sampling (event u)) : s.KeepsRace sampling (s.unlessHeld event) :=
  .ite (.refl s) (keeps s)

end

/-! ### The owners of the rows aside -/

theorem State.linkSet_keepsRace (payload : Payload) (s : State) : s.KeepsRace false (s.linkSet payload) := by
  unfold State.linkSet
  split
  · exact (s.onLink_keepsRace _).answer _ _ _
  · exact s.answer_keepsRace _ _ _

theorem State.setGroupMode_keepsRace (payload : Payload) (s : State) : s.KeepsRace false (s.setGroupMode payload) := by
  unfold State.setGroupMode
  split
  · exact .ite (s.answer_keepsRace _ _ _) ((s.onPorts_keepsRace _).answer _ _ _)
  · exact s.answer_keepsRace _ _ _

theorem State.writeLine_keepsRace (payload : Payload) (s : State) : s.KeepsRace false (s.writeLine payload) := by
  unfold State.writeLine
  split
  · exact (s.onPorts_keepsRace _).answer _ _ _
  · exact (s.onPorts_keepsRace _).answer _ _ _
  · exact (s.onPorts_keepsRace _).answer _ _ _
  · exact s.answer_keepsRace _ _ _

theorem State.platformZero_keepsRace (s : State) : s.KeepsRace false s.platformZero :=
  .ite (s.answer_keepsRace _ _ _) (.ite (s.answer_keepsRace _ _ _) (s.aside_keepsRace _ _ _ _))

theorem State.platformLimits_keepsRace (payload : Payload) (s : State) : s.KeepsRace true (s.platformLimits payload) := by
  unfold State.platformLimits
  split
  · exact ⟨rfl, rfl, rfl, rfl, rfl, rfl, rfl, rfl, rfl, rfl, rfl, rfl, nofun⟩
  · exact s.answer_keepsRace _ _ _

theorem State.samplerSet_keepsRace (payload : Payload) (s : State) : s.KeepsRace true (s.samplerSet payload) := by
  unfold State.samplerSet
  split
  · exact (s.setSampler_frame _ _).keepsRace.answer _ _ _
  · exact s.answer_keepsRace _ _ _

theorem State.logRead_keepsRace (payload : Payload) (s : State) : s.KeepsRace false (s.logRead payload) :=
  .ite (s.aside_keepsRace _ _ _ _) (s.answer_keepsRace _ _ _)

theorem Board.setMode_keeps (b : Board) (m : BoardMode) :
    (b.setMode m).layout = b.layout ∧ (b.setMode m).map = b.map ∧ (b.setMode m).freeze = b.freeze := by
  unfold Board.setMode
  dsimp only
  split
  · exact ⟨rfl, rfl, rfl⟩
  · split <;> exact ⟨rfl, rfl, rfl⟩

theorem State.boardMode_keepsRace (payload : Payload) (s : State) : s.KeepsRace false (s.boardMode payload) := by
  unfold State.boardMode
  split
  · next m _ =>
    obtain ⟨layout, map, freeze⟩ := s.board.setMode_keeps m
    exact (s.onBoard_keepsRace _ layout map freeze).answer _ _ _
  · exact s.answer_keepsRace _ _ _

theorem State.boardArea_keepsRace (payload : Payload) (s : State) : s.KeepsRace false (s.boardArea payload) := by
  unfold State.boardArea
  refine .ite (s.answer_keepsRace _ _ _) ?_
  split
  · exact (s.onBoard_keepsRace _ rfl rfl rfl).answer _ _ _
  · exact s.answer_keepsRace _ _ _

theorem State.boardMask_keepsRace (payload : Payload) (s : State) : s.KeepsRace false (s.boardMask payload) := by
  unfold State.boardMask
  split
  · exact (s.onBoard_keepsRace _ rfl rfl rfl).answer _ _ _
  · exact s.answer_keepsRace _ _ _

theorem State.putRows_frame (s : State) (cells : Vector CellRow 12) : s.OnlyShown (s.putRows cells) :=
  State.OnlyShown.foldl _ (fun t _ => t.writeRow_frame _ _) allRows s

theorem State.writeBoard_keepsRace (s : State) (w : WriteProgress) : s.KeepsRace false (s.writeBoard w) := by
  have moved (t : State) : t.KeepsRace false (t.onBoard fun b => { b with cursor := w.cursor }) :=
    t.onBoard_keepsRace _ rfl rfl rfl
  exact (s.putRows_frame w.cells).keepsRace.trans (moved _)

theorem State.boardWrite_keepsRace (payload : Payload) (s : State) : s.KeepsRace false (s.boardWrite payload) := by
  unfold State.boardWrite
  refine .ite (s.answer_keepsRace _ _ _) ?_
  split
  · exact (s.writeBoard_keepsRace _).answer _ _ _
  · exact s.answer_keepsRace _ _ _

theorem State.boardRead_keepsRace (payload : Payload) (s : State) : s.KeepsRace false (s.boardRead payload) :=
  .ite ((s.onBoard_keepsRace _ rfl rfl rfl).answer _ _ _) (s.answer_keepsRace _ _ _)

theorem State.boardClear_keepsRace (payload : Payload) (s : State) : s.KeepsRace false (s.boardClear payload) := by
  unfold State.boardClear
  refine .ite (s.answer_keepsRace _ _ _) ?_
  split
  · exact (s.onBoard_keepsRace _ rfl rfl rfl).answer _ _ _
  · exact s.answer_keepsRace _ _ _

theorem State.boardModule_keepsRace (index value : Byte) (s : State) : s.KeepsRace false (s.boardModule index value) := by
  unfold State.boardModule
  split
  · exact s.answer_keepsRace _ _ _
  · exact .ite (s.answer_keepsRace _ _ _) (.ite (s.answer_keepsRace _ _ _) ((s.onBoard_keepsRace _ rfl rfl rfl).answer _ _ _))

theorem State.fillNextRow_keepsRace (s : State) : s.KeepsRace false s.fillNextRow := by
  unfold State.fillNextRow
  split
  · split
    · exact (s.writeRow_frame _ _).keepsRace.trans (State.onBoard_keepsRace _ _ rfl rfl rfl)
    · exact s.onBoard_keepsRace _ rfl rfl rfl
  · exact .refl s

theorem Board.endFrame_keeps (b : Board) (content : ChainContent) :
    (b.endFrame content).layout = b.layout ∧ (b.endFrame content).map = b.map ∧ (b.endFrame content).freeze = b.freeze := by
  unfold Board.endFrame
  split <;> exact ⟨rfl, rfl, rfl⟩

theorem State.endChainFrame_keepsRace (s : State) : s.KeepsRace false s.endChainFrame := by
  unfold State.endChainFrame
  split
  · next f _ =>
    obtain ⟨layout, map, freeze⟩ := Board.endFrame_keeps { s.board with chain := none } f.content
    exact (s.onBoard_keepsRace _ layout map freeze).trans (State.chooseFrame_frame _).keepsRace
  · exact s.chooseFrame_frame.keepsRace

theorem State.recogniseRelease_keepsRace (s : State) (line : Line) : s.KeepsRace false (s.recogniseRelease line) := by
  cases line with
  | pad l side => exact .ite (s.aside_keepsRace _ _ _ _) (s.aside_keepsRace _ _ _ _)
  | button l side b => exact s.aside_keepsRace _ _ _ _
  | startLine => exact s.aside_keepsRace _ _ _ _

theorem State.secondRelease_keepsRace (line : Line) (s : State) : s.KeepsRace false (s.secondRelease line) := by
  unfold State.secondRelease
  split
  · exact s.recogniseRelease_keepsRace line
  · exact .refl s

/-! ### Every row aside -/

/-- The rows that can change the race, the lanes or the results, or what the board shows of them. -/
def changesRace : Instr → Bool
  | .powerOn | .resetLineAssert | .resetLineRelease | .controllerResetTakesEffect => true
  | .programLoad _ | .raceArm _ | .startManual _ | .raceRecall _ | .raceClose _ | .resultsRelease _ | .raceClear _ => true
  | .amendDisqualify _ _ _ | .amendDidNotStart _ _ _ | .amendRestore _ _ _ | .amendTimeWall _ _ _ | .amend _ => true
  | .boardLayout _ | .padPress _ _ | .buttonPress _ _ _ | .startLineEdge | .contactLineSample _ _ => true
  | .stuckTimerExpiry _ _ | .takeoff _ _ | .armTimerExpiry _ | .closeTimerExpiry _ | .clockSaturation | .freezeEnd => true
  | _ => false

/-- The rows that work on a sampler itself. -/
def worksOnSampler : Instr → Bool
  | .platformConversion _ _ | .platformLimits _ | .samplerSet _ => true
  | _ => false

/-- A row aside from the race keeps it. -/
theorem exec_aside {i : Instr} {s t : State} (ran : exec i s = .next t) (aside : changesRace i = false) :
    s.KeepsRace (worksOnSampler i) t := by
  cases i with
  | powerOn | resetLineAssert | resetLineRelease | controllerResetTakesEffect => cases aside
  | programLoad _ | raceArm _ | startManual _ | raceRecall _ | raceClose _ | resultsRelease _ | raceClear _ => cases aside
  | amendDisqualify _ _ _ | amendDidNotStart _ _ _ | amendRestore _ _ _ | amendTimeWall _ _ _ | amend _ => cases aside
  | boardLayout _ | padPress _ _ | buttonPress _ _ _ | startLineEdge | contactLineSample _ _ => cases aside
  | stuckTimerExpiry _ _ | takeoff _ _ | armTimerExpiry _ | closeTimerExpiry _ | clockSaturation | freezeEnd => cases aside
  -- the console link
  | frameReceived bytes =>
    cases ran
    exact s.unlessHeld_keepsRace fun u => u.onLink_keepsRace _
  | frameGapTimeout =>
    cases ran
    exact s.unlessHeld_keepsRace fun u => .ite (u.onLink_keepsRace _) (.refl u)
  | unknownKind kind payload =>
    cases ran
    exact .ite ((s.onLink_keepsRace _).answer _ _ _) (.refl s)
  | lineFrameEnd =>
    cases ran
    exact s.unlessHeld_keepsRace fun u => .ite (.refl u) (u.onLink_keepsRace _)
  | linkSpeedChange =>
    cases ran
    refine s.unlessHeld_keepsRace fun u => ?_
    split
    · exact u.onLink_keepsRace _
    · exact .refl u
  | identAsk payload =>
    cases ran
    exact s.take_keepsRace _ _ fun u => u.answer_keepsRace _ _ _
  | statusAsk payload | controllerReset payload =>
    cases ran
    exact s.take_keepsRace _ _ fun u => (u.onLink_keepsRace _).answer _ _ _
  | linkSet payload =>
    cases ran
    exact s.take_keepsRace _ _ (State.linkSet_keepsRace payload)
  | programAsk payload =>
    cases ran
    refine s.take_keepsRace _ _ fun u => ?_
    split <;> exact u.answer_keepsRace _ _ _
  -- ports and platforms
  | groupMode payload =>
    cases ran
    exact s.take_keepsRace _ _ (State.setGroupMode_keepsRace payload)
  | lamp l side pattern | padEnable l side on | buttonEnable l side on =>
    cases ran
    exact s.take_keepsRace _ _ fun u => (u.onPorts_keepsRace _).answer _ _ _
  | lineSet payload =>
    cases ran
    exact s.take_keepsRace _ _ (State.writeLine_keepsRace payload)
  | linesAsk payload =>
    cases ran
    refine s.take_keepsRace _ _ fun u => ?_
    split <;> exact u.answer_keepsRace _ _ _
  | lineRelease line =>
    cases ran
    exact s.unlessHeld_keepsRace (State.secondRelease_keepsRace line)
  | platformZero payload =>
    cases ran
    exact s.take_keepsRace _ _ State.platformZero_keepsRace
  | zeroingComplete =>
    cases ran
    refine s.unlessHeld_keepsRace fun u => ?_
    split
    · exact .ite (u.aside_keepsRace _ _ _ _) (.refl u)
    · exact .refl u
  | platformLimits payload =>
    cases ran
    exact s.take_keepsRace _ _ (State.platformLimits_keepsRace payload)
  | platformAsk payload =>
    cases ran
    refine s.take_keepsRace _ _ fun u => ?_
    split <;> exact u.answer_keepsRace _ _ _
  | samplerSet payload =>
    cases ran
    exact s.take_keepsRace _ _ (State.samplerSet_keepsRace payload)
  | platformConversion side reading =>
    cases ran
    exact s.unlessHeld_keepsRace fun u => (u.convert_frame side reading.val).keepsRace
  -- queries of lanes and results, the log
  | laneAsk payload =>
    cases ran
    refine s.take_keepsRace _ _ fun u => ?_
    split <;> exact u.answer_keepsRace _ _ _
  | wallsAsk payload =>
    cases ran
    refine s.take_keepsRace _ _ fun u => ?_
    split
    · exact .ite (u.answer_keepsRace _ _ _) (u.answer_keepsRace _ _ _)
    · exact u.answer_keepsRace _ _ _
  | resultsAsk payload =>
    cases ran
    refine s.take_keepsRace _ _ fun u => .ite (u.answer_keepsRace _ _ _) ?_
    split <;> exact u.answer_keepsRace _ _ _
  | logRead payload =>
    cases ran
    exact s.take_keepsRace _ _ (State.logRead_keepsRace payload)
  | logClear payload =>
    cases ran
    exact s.take_keepsRace _ _ fun u => u.aside_keepsRace _ _ _ _
  -- the board
  | boardMode payload =>
    cases ran
    exact s.take_keepsRace _ _ (State.boardMode_keepsRace payload)
  | boardArea payload =>
    cases ran
    exact s.take_keepsRace _ _ (State.boardArea_keepsRace payload)
  | boardMask payload =>
    cases ran
    exact s.take_keepsRace _ _ (State.boardMask_keepsRace payload)
  | boardWrite payload =>
    cases ran
    exact s.take_keepsRace _ _ (State.boardWrite_keepsRace payload)
  | boardRead payload =>
    cases ran
    exact s.take_keepsRace _ _ (State.boardRead_keepsRace payload)
  | boardClear payload =>
    cases ran
    exact s.take_keepsRace _ _ (State.boardClear_keepsRace payload)
  | boardClearStop payload =>
    cases ran
    exact s.take_keepsRace _ _ fun u => (u.onBoard_keepsRace _ rfl rfl rfl).answer _ _ _
  | brightness value | blank value | selfTest value | moduleReset value | boardModule payload =>
    cases ran
    exact s.take_keepsRace _ _ (State.boardModule_keepsRace _ _)
  | clearRowFill =>
    cases ran
    exact s.unlessHeld_keepsRace fun u => .ite u.fillNextRow_keepsRace (.refl u)
  | boardFrameEnd =>
    cases ran
    exact s.unlessHeld_keepsRace fun u => .ite (.refl u) u.endChainFrame_keepsRace
  | clockRowDue =>
    cases ran
    exact s.unlessHeld_keepsRace fun u => .ite u.chooseFrame_frame.keepsRace (.refl u)
  | prestartClockLimit =>
    cases ran
    exact .refl s

/-! ### The rows of the race -/

/-- What a row of the race other than a reset does: the work of the command's owner, or that of the event. -/
def raceWork : Instr → State → State
  | .programLoad payload => State.programLoad payload
  | .raceArm _ => State.raceArm
  | .startManual _ => State.startManual
  | .raceRecall _ => State.raceRecall
  | .raceClose _ => State.raceClose
  | .resultsRelease _ => State.resultsRelease
  | .raceClear _ => State.raceClear
  | .amendDisqualify lane code _ => State.disqualify lane code
  | .amendDidNotStart lane _ _ => State.didNotStart lane
  | .amendRestore lane _ _ => State.restore lane
  | .amendTimeWall lane _ time => State.timeWall lane time.toNat
  | .amend payload => State.amendAny payload
  | .boardLayout payload => State.boardLayout payload
  | .padPress l side => fun s => s.secondPress (.pad l side)
  | .buttonPress l side b => fun s => s.secondPress (.button l side b)
  | .startLineEdge => fun s => s.secondPress .startLine
  | .contactLineSample line closed => fun s => s.sample line closed
  | .stuckTimerExpiry l side => fun s => s.raiseStuckIfDue l side
  | .takeoff side l => fun s => s.deliverTakeoff side l
  | .armTimerExpiry l => fun s => s.expireArm l
  | .closeTimerExpiry l => fun s => s.expireClose l
  | .clockSaturation => fun s => if s.saturated then s.saturate else s
  | .freezeEnd => fun s => if s.freezeOver then s.endFreeze else s
  | _ => id

/-- The resets: the rows that give every block its power-on state. -/
def isReset : Instr → Bool
  | .powerOn | .resetLineAssert | .resetLineRelease | .controllerResetTakesEffect => true
  | _ => false

/-- What taking a command does to the Console Link before its owner works: a frame leaves the buffer at most, and a reply
enters the slot at most. -/
def Link.OnlyTakes (f : Link → Link) : Prop :=
  ∀ k, (f k).queue = k.queue ∧ (f k).inbound.length ≤ k.inbound.length ∧ (f k).checkFail = k.checkFail
    ∧ (f k).overrunCount = k.overrunCount

/-- The state of a taken command that its owner works on differs in the Console Link alone. -/
theorem take_owned (s : State) (kind : Byte) (payload : Payload) (owner : State → State) :
    ∃ f, Link.OnlyTakes f ∧ (s.take kind payload owner = s.onLink f ∨ s.take kind payload owner = owner (s.onLink f)) := by
  have dropped (k : Link) : k.inbound.tail.length ≤ k.inbound.length := by simp
  obtain same | refused | owned := s.take_cases kind payload owner
  · exact ⟨id, fun _ => ⟨rfl, le_rfl, rfl, rfl⟩, .inl same⟩
  · exact ⟨fun k => k.answered kind .badLength [], fun k => ⟨rfl, dropped k, rfl, rfl⟩, .inl refused⟩
  · exact ⟨fun k => { k with inbound := k.inbound.tail }, fun k => ⟨rfl, dropped k, rfl, rfl⟩, .inr owned⟩

theorem unlessHeld_owned (s : State) (event : State → State) :
    ∃ f, Link.OnlyTakes f ∧ (s.unlessHeld event = s.onLink f ∨ s.unlessHeld event = event (s.onLink f)) := by
  refine ⟨id, fun _ => ⟨rfl, le_rfl, rfl, rfl⟩, ?_⟩
  unfold State.unlessHeld
  split
  · exact .inl rfl
  · exact .inr rfl

/-- A row of the race changes the Console Link alone, or does its work on a state that differs there alone. -/
theorem exec_raceWork {i : Instr} {s t : State} (ran : exec i s = .next t) (row : changesRace i = true)
    (noReset : isReset i = false) : ∃ f, Link.OnlyTakes f ∧ (t = s.onLink f ∨ t = raceWork i (s.onLink f)) := by
  cases i with
  | powerOn | resetLineAssert | resetLineRelease | controllerResetTakesEffect => cases noReset
  | programLoad _ | raceArm _ | startManual _ | raceRecall _ | raceClose _ | resultsRelease _ | raceClear _ =>
    cases ran
    exact take_owned s _ _ _
  | amendDisqualify _ _ _ | amendDidNotStart _ _ _ | amendRestore _ _ _ | amendTimeWall _ _ _ | amend _ | boardLayout _ =>
    cases ran
    exact take_owned s _ _ _
  | padPress _ _ | buttonPress _ _ _ | startLineEdge | contactLineSample _ _ =>
    cases ran
    exact unlessHeld_owned s _
  | stuckTimerExpiry _ _ | takeoff _ _ | armTimerExpiry _ | closeTimerExpiry _ | clockSaturation | freezeEnd =>
    cases ran
    exact unlessHeld_owned s _
  | _ => cases row

/-- What a reset leaves: the power-on state, with the reset line held or not, or what CONTROLLER_RESET keeps beside. -/
theorem exec_reset {i : Instr} {s t : State} (ran : exec i s = .next t) (row : isReset i = true) :
    t = s ∨ t = s.afterReset ∨ t = { s.afterReset with resetHeld := true } ∨ t = s.afterControllerReset := by
  cases i with
  | powerOn | resetLineRelease =>
    cases ran
    exact .inr (.inl rfl)
  | resetLineAssert =>
    cases ran
    exact .inr (.inr (.inl rfl))
  | controllerResetTakesEffect =>
    cases ran
    unfold State.unlessHeld
    split
    · exact .inl rfl
    · dsimp only
      split
      · exact .inr (.inr (.inr rfl))
      · exact .inl rfl
  | _ => cases row

end Sys2Proof.Machine


/-! ### What an event of the race stays within

Everything that happens to lanes, results and race state leaves the samplers but for their watches, the buffers within
their bounds, and the access area. -/

namespace Sys2Proof.Machine

/-! #### Samplers but for the watches -/

section
variable {s t u : State}

theorem State.SamplersKept.of_eq (h : t.samplers = s.samplers) : s.SamplersKept t := by
  intro side
  have same : t.sampler side = s.sampler side := congrArg (fun e : Ends Sampler => e.get side) h
  refine ⟨by rw [same], fun l => ?_⟩
  rw [State.channel, same]
  rfl

theorem State.SamplersKept.trans (h : s.SamplersKept t) (k : t.SamplersKept u) : s.SamplersKept u := by
  intro side
  obtain ⟨hs, hc⟩ := h side
  obtain ⟨ks, kc⟩ := k side
  exact ⟨by rw [ks, hs], fun l => by rw [kc l, hc l]⟩

theorem State.sampler_setChannel_same (s : State) (side : PoolEnd) (l : Lane) (c : Channel) :
    (s.setChannel side l c).sampler side = { s.sampler side with channels := (s.sampler side).channels.set l c } := by
  simp [State.sampler, State.setChannel]

theorem State.sampler_setChannel_other (s : State) {side other : PoolEnd} (l : Lane) (c : Channel) (h : side ≠ other) :
    (s.setChannel side l c).sampler other = s.sampler other := by
  simp [State.sampler, State.setChannel, Ends.get_set_other _ _ h]

/-- The other channels of a sampler, and the other sampler, are kept. -/
theorem State.channel_setChannel_other (s : State) {side other : PoolEnd} {l m : Lane} (c : Channel)
    (h : ¬ (other = side ∧ m = l)) : (s.setChannel side l c).channel other m = s.channel other m := by
  by_cases e : side = other
  · subst e
    have ne : (l : Nat) ≠ m := fun e => h ⟨rfl, Fin.ext e.symm⟩
    rw [State.channel, State.sampler_setChannel_same]
    simp [State.channel, ne]
  · rw [State.channel, State.sampler_setChannel_other _ _ _ e]
    rfl

theorem State.setWatch_samplersKept (s : State) (side : PoolEnd) (l : Lane) (leg : Option Nat) :
    s.SamplersKept (s.setWatch side l leg) := by
  intro other
  by_cases e : side = other
  · subst e
    refine ⟨by rw [State.setWatch, State.sampler_setChannel_same], fun m => ?_⟩
    by_cases same : m = l
    · subst same
      simp [State.setWatch]
    · rw [State.setWatch, State.channel_setChannel_other _ _ fun h => same h.2]
  · refine ⟨by rw [State.setWatch, State.sampler_setChannel_other _ _ _ e], fun m => ?_⟩
    rw [State.setWatch, State.channel_setChannel_other _ _ fun h => e h.1.symm]

theorem State.endWatches_channel (s : State) (side : PoolEnd) (l : Lane) :
    s.endWatches.channel side l = { s.channel side l with watch := none } := by
  cases side <;> simp [State.endWatches, State.channel, State.sampler, Ends.get, Sampler.mapChannels]

theorem State.endWatches_samplersKept (s : State) : s.SamplersKept s.endWatches := by
  intro side
  refine ⟨?_, fun l => by rw [State.endWatches_channel]⟩
  cases side <;> rfl

end

/-! #### The frame -/

/-- The log holds no more than its bounds. -/
def EventLog.Within (g : EventLog) : Prop := g.entries.length ≤ 512 ∧ g.counter < 65536 ∧ g.dropped ≤ 65535

/-- What an event of the race stays within. -/
structure State.Contained (s t : State) : Prop where
  samplers : s.SamplersKept t
  area : t.board.area = s.board.area
  cursor : t.board.cursor = s.board.cursor
  clear : t.board.clear = s.board.clear
  sinceRow1 : t.board.sinceRow1 ≤ s.board.sinceRow1
  queue : s.link.queue.length ≤ 32 → t.link.queue.length ≤ 32
  inbound : t.link.inbound = s.link.inbound
  checkFail : t.link.checkFail = s.link.checkFail
  overrunCount : t.link.overrunCount = s.link.overrunCount
  log : s.log.Within → t.log.Within
  blink : t.ports.blink = s.ports.blink

section
variable {s t u : State}

theorem State.Contained.trans (h : s.Contained t) (k : t.Contained u) : s.Contained u :=
  ⟨h.samplers.trans k.samplers, k.area.trans h.area, k.cursor.trans h.cursor, k.clear.trans h.clear,
    k.sinceRow1.trans h.sinceRow1, fun b => k.queue (h.queue b), k.inbound.trans h.inbound, k.checkFail.trans h.checkFail,
    k.overrunCount.trans h.overrunCount, fun b => k.log (h.log b), k.blink.trans h.blink⟩

/-- A change of what the frame does not speak of. -/
theorem State.contained_of_same (samplers : t.samplers = s.samplers) (area : t.board.area = s.board.area)
    (cursor : t.board.cursor = s.board.cursor) (clear : t.board.clear = s.board.clear)
    (sinceRow1 : t.board.sinceRow1 = s.board.sinceRow1) (link : t.link = s.link) (log : t.log = s.log)
    (blink : t.ports.blink = s.ports.blink) : s.Contained t :=
  ⟨.of_eq samplers, area, cursor, clear, sinceRow1.le, fun b => by rwa [link], by rw [link], by rw [link], by rw [link],
    fun b => by rwa [log], blink⟩

theorem State.Contained.refl (s : State) : s.Contained s := State.contained_of_same rfl rfl rfl rfl rfl rfl rfl rfl

theorem State.Contained.ite {c : Prop} [Decidable c] (h : s.Contained t) (k : s.Contained u) :
    s.Contained (if c then t else u) := by
  split
  · exact h
  · exact k

theorem State.Contained.foldl {α : Type} (f : State → α → State) (hf : ∀ (s : State) (a : α), s.Contained (f s a))
    (xs : List α) (s : State) : s.Contained (xs.foldl f s) := by
  induction xs generalizing s with
  | nil => exact .refl s
  | cons a xs ih => exact (hf s a).trans (ih (f s a))

end

/-! #### Reports, the log and the ports -/

theorem Link.report_queue_length {k : Link} (r : Report) (h : k.queue.length ≤ 32) : (k.report r).queue.length ≤ 32 := by
  unfold Link.report
  dsimp only
  split
  · next c =>
    have : k.queue.length < 32 := c.2
    rw [List.length_append]
    exact this
  · exact h

theorem State.report_contained (s : State) (r : Report) : s.Contained (s.report r) :=
  ⟨.of_eq rfl, rfl, rfl, rfl, le_rfl, Link.report_queue_length r, rfl, rfl, rfl, id, rfl⟩

theorem State.reportAll_contained (s : State) (rs : List Report) : s.Contained (s.reportAll rs) :=
  .foldl _ State.report_contained rs s

theorem countUp_le {n : Nat} (h : n ≤ 65535) : countUp n ≤ 65535 := by
  unfold countUp
  split
  · next lt => exact lt
  · exact h

theorem EventLog.add_within {g : EventLog} (stamp : Stamp) (source : LogSource) (wall : Option Nat) (d : Disposition)
    (h : g.Within) : (g.add stamp source wall d).Within := by
  obtain ⟨entries, counter, dropped⟩ := h
  refine ⟨?_, Nat.mod_lt _ (by decide), ?_⟩
  · simp only [EventLog.add, List.length_append, List.length_singleton]
    split
    · next full =>
      have : 512 ≤ g.entries.length := of_decide_eq_true full
      simp only [List.length_tail]
      omega
    · next room =>
      have : ¬ 512 ≤ g.entries.length := fun e => room (decide_eq_true e)
      omega
  · simp only [EventLog.add]
    split
    · exact countUp_le dropped
    · exact dropped

theorem State.logEntry_contained (s : State) (stamp : Stamp) (source : LogSource) (wall : Option Nat) (d : Disposition) :
    s.Contained (s.logEntry stamp source wall d) := by
  have added : s.Contained { s with log := s.log.add stamp source wall d } :=
    ⟨.of_eq rfl, rfl, rfl, rfl, le_rfl, id, rfl, rfl, rfl, EventLog.add_within _ _ _ _, rfl⟩
  exact .ite (added.trans (State.report_contained _ _)) added

theorem State.setLane_contained (s : State) (l : Lane) (c : LaneContext) : s.Contained (s.setLane l c) :=
  State.contained_of_same rfl rfl rfl rfl rfl rfl rfl rfl

theorem State.setLaneEnd_contained (s : State) (l : Lane) (side : PoolEnd) (e : LaneEnd) :
    s.Contained (s.setLaneEnd l side e) :=
  State.contained_of_same rfl rfl rfl rfl rfl rfl rfl rfl

theorem State.setWatch_contained (s : State) (side : PoolEnd) (l : Lane) (leg : Option Nat) :
    s.Contained (s.setWatch side l leg) :=
  ⟨s.setWatch_samplersKept side l leg, rfl, rfl, rfl, le_rfl, id, rfl, rfl, rfl, id, rfl⟩

theorem State.endWatches_contained (s : State) : s.Contained s.endWatches :=
  ⟨s.endWatches_samplersKept, rfl, rfl, rfl, le_rfl, id, rfl, rfl, rfl, id, rfl⟩

theorem State.setLine_contained (s : State) (line : Line) (x : LineState) : s.Contained (s.setLine line x) :=
  State.contained_of_same rfl rfl rfl rfl rfl rfl rfl (by cases line <;> rfl)

theorem State.engineLamp_contained (s : State) (l : Lane) (side : PoolEnd) (pattern : Lamp) :
    s.Contained (s.engineLamp l side pattern) := by
  unfold State.engineLamp
  split
  · exact s.setLaneEnd_contained _ _ _
  · exact .refl s

/-! #### The board -/

theorem State.markClockRow_contained (s : State) : s.Contained s.markClockRow :=
  State.contained_of_same rfl rfl rfl rfl rfl rfl rfl rfl

theorem State.changeRow_contained (before s : State) (d : Row) : s.Contained (before.changeRow s d) := by
  obtain h | ⟨_, _, _, _, h⟩ := State.changeRow_cases before s d <;> rw [h]
  · exact State.contained_of_same rfl rfl rfl rfl rfl rfl rfl rfl
  · refine ⟨.of_eq rfl, rfl, rfl, rfl, ?_, id, rfl, rfl, rfl, id, rfl⟩
    show (if d = 1 then 0 else s.board.sinceRow1) ≤ s.board.sinceRow1
    split
    · exact Nat.zero_le _
    · exact le_rfl

theorem State.writeRow_contained (s : State) (y : Row) (row : CellRow) : s.Contained (s.writeRow y row) := by
  have put : s.Contained (s.onBoard fun b => { b with cells := b.cells.set y row }) :=
    State.contained_of_same rfl rfl rfl rfl rfl rfl rfl rfl
  exact .ite (.refl s) (put.trans (.foldl _ (State.changeRow_contained s) _ _))

theorem State.writeAuto_contained (s : State) (l : Lane) : s.Contained (s.writeAuto l) :=
  .ite (s.writeRow_contained _ _) (.refl s)

theorem State.writeAllAuto_contained (s : State) : s.Contained s.writeAllAuto :=
  .foldl _ State.writeAuto_contained allLanes s

theorem State.recomputeMap_contained (s : State) : s.Contained s.recomputeMap := by
  have put : s.Contained (s.onBoard fun b => { b with map := s.mapNow }) :=
    State.contained_of_same rfl rfl rfl rfl rfl rfl rfl rfl
  exact put.trans (.foldl _ (State.changeRow_contained s) _ _)

theorem State.startFreeze_contained (s : State) (final : Nat) : s.Contained (s.startFreeze final) := by
  obtain ⟨_, h⟩ | ⟨_, h⟩ := s.startFreeze_cases final <;> rw [h]
  · exact State.contained_of_same rfl rfl rfl rfl rfl rfl rfl rfl
  · exact .refl s

theorem State.endFreeze_contained (s : State) : s.Contained s.endFreeze := by
  obtain ⟨_, h⟩ | ⟨_, h⟩ := s.endFreeze_cases <;> rw [h]
  · exact State.contained_of_same rfl rfl rfl rfl rfl rfl rfl rfl
  · exact .refl s

/-! #### Lanes, ranking and race state -/

theorem State.showPlace_contained (s : State) (l : Lane) : s.Contained (s.showPlace l) := by
  unfold State.showPlace
  refine State.Contained.trans ?_ (State.writeAuto_contained _ l)
  split
  · exact s.engineLamp_contained _ _ _
  · exact .refl s

theorem State.rerank_contained (s : State) : s.Contained s.rerank := by
  have ranked : s.Contained
      { s with results := { s.results with order := s.resultOrder, places := Vector.ofFn fun l => s.placeNow l } } :=
    State.contained_of_same rfl rfl rfl rfl rfl rfl rfl rfl
  have shown (xs : List Lane) (t : State) (h : s.Contained t) (r : Report) :
      s.Contained (xs.foldl State.showPlace (t.report r)).recomputeMap :=
    ((h.trans (t.report_contained r)).trans (.foldl _ State.showPlace_contained xs _)).trans
      (State.recomputeMap_contained _)
  exact .ite ((shown _ _ ranked _).trans (State.markClockRow_contained _)) (shown _ _ ranked _)

theorem State.commit_contained (s : State) (l : Lane) (w : LaneWork) : s.Contained (s.commit l w) := by
  have put := ((s.setLane_contained l w.ctx).trans (State.setWatch_contained _ .start l w.watch.start)).trans
    (State.setWatch_contained _ .turn l w.watch.turn)
  have shown : s.Contained (if needsAuto (s.context l) w.ctx then
      (((s.setLane l w.ctx).setWatch .start l w.watch.start).setWatch .turn l w.watch.turn).writeAuto l
    else ((s.setLane l w.ctx).setWatch .start l w.watch.start).setWatch .turn l w.watch.turn) :=
    .ite (put.trans (State.writeAuto_contained _ l)) put
  unfold State.commit
  dsimp only
  split
  · exact (shown.trans (State.startFreeze_contained _ _)).trans (State.reportAll_contained _ _)
  · exact shown.trans (State.reportAll_contained _ _)

theorem State.enter_contained (s : State) (race : RaceState) (clock : Clock) : s.Contained (s.enter race clock) := by
  have changed : s.Contained { s with race, clock } := State.contained_of_same rfl rfl rfl rfl rfl rfl rfl rfl
  have thawed : s.Contained (if race = .running then { s with race, clock } else State.endFreeze { s with race, clock }) :=
    .ite changed (changed.trans (State.endFreeze_contained _))
  exact State.Contained.trans (.ite thawed (thawed.trans (State.markClockRow_contained _))) (State.recomputeMap_contained _)

theorem State.raceNote_contained (s : State) (previous : RaceState) (cause : RaceCause) (eventId clock : Nat) :
    s.Contained (s.raceNote previous cause eventId clock) :=
  s.report_contained _

theorem State.checkCompletion_contained (s : State) : s.Contained s.checkCompletion :=
  .ite (((s.enter_contained _ _).trans (State.endWatches_contained _)).trans (State.raceNote_contained _ _ _ _ _)) (.refl s)

theorem State.laneEvent_contained (s : State) (l : Lane) (w : LaneWork) : s.Contained (s.laneEvent l w) :=
  State.Contained.trans (.ite ((s.commit_contained l w).trans (State.rerank_contained _)) (s.commit_contained l w))
    (State.checkCompletion_contained _)

theorem State.discardResults_contained (s : State) : s.Contained s.discardResults := by
  have emptied : s.Contained { s with results := Results.reset } :=
    State.contained_of_same rfl rfl rfl rfl rfl rfl rfl rfl
  exact .ite emptied (emptied.trans (State.report_contained _ _))

theorem State.discardRace_contained (s : State) (race : RaceState) : s.Contained (s.discardRace race) := by
  have cleared : s.Contained { s with source := none, startMark := none } :=
    State.contained_of_same rfl rfl rfl rfl rfl rfl rfl rfl
  have lanes (t : State) (f : Lane → LaneContext → LaneContext) : t.Contained (t.mapLanes f) :=
    State.contained_of_same rfl rfl rfl rfl rfl rfl rfl rfl
  have dark (t : State) : t.Contained (t.onPorts Ports.darkenTimed) :=
    State.contained_of_same rfl rfl rfl rfl rfl rfl rfl rfl
  exact (((((cleared.trans (State.enter_contained _ race _)).trans (lanes _ _)).trans (State.endWatches_contained _)).trans
    (State.discardResults_contained _)).trans (State.writeAllAuto_contained _)).trans (dark _)

theorem State.clearOverrun_contained (s : State) : s.Contained s.clearOverrun := by
  have cleared : s.Contained { s with overrun := false } := State.contained_of_same rfl rfl rfl rfl rfl rfl rfl rfl
  exact .ite (cleared.trans (State.report_contained _ _)) (.refl s)

theorem State.raiseStuck_contained (s : State) (l : Lane) (side : PoolEnd) : s.Contained (s.raiseStuck l side) := by
  have raised := (s.setLaneEnd_contained l side { s.ports.laneEnd l side with stuck := true }).trans
    (State.report_contained _ (.fault (.padStuck l side) true))
  exact .ite (raised.trans (State.commit_contained _ _ _)) raised

theorem State.raiseStuckIfDue_contained (s : State) (l : Lane) (side : PoolEnd) : s.Contained (s.raiseStuckIfDue l side) :=
  .ite (s.raiseStuck_contained l side) (.refl s)

theorem State.raiseAllStuck_contained (s : State) : s.Contained s.raiseAllStuck :=
  .foldl _ (fun t l => (t.raiseStuckIfDue_contained l .start).trans (State.raiseStuckIfDue_contained _ l .turn)) allLanes s

theorem State.startRace_contained (s : State) (mark first : Nat) (source : StartSource) (cause : RaceCause) :
    s.Contained (s.startRace mark first source cause) := by
  have begun : s.Contained (({ s with source := some source, startMark := some mark } : State).onBoard fun b =>
      { b with spent := false }) := State.contained_of_same rfl rfl rfl rfl rfl rfl rfl rfl
  have noted := (begun.trans (State.enter_contained _ .running ⟨.running, first⟩)).trans
    (State.raceNote_contained _ .armed cause s.eventId mark)
  have lane (p : Program) (t : State) (l : Lane) : t.Contained (State.startLane p mark source t l) :=
    .ite (t.commit_contained l _) (.refl t)
  unfold State.startRace
  dsimp only
  split
  · exact noted.trans (.foldl _ (lane _) allLanes _)
  · exact noted

theorem State.closeLane_contained (p : Program) (s : State) (l : Lane) : s.Contained (State.closeLane p s l) :=
  .ite (s.commit_contained l _) (.refl s)

theorem State.closeLaneStatus_contained (p : Program) (s : State) (l : Lane) : s.Contained (State.closeLaneStatus p s l) :=
  .ite (s.commit_contained l _) (.refl s)

theorem State.closeRace_contained (s : State) (cause : RaceCause) : s.Contained (s.closeRace cause) := by
  have finish (t : State) (h : s.Contained t) : s.Contained
      ((t.rerank.enter .complete { s.clock with phase := .held }).raceNote .running cause s.eventId s.clock.value) :=
    ((h.trans t.rerank_contained).trans (State.enter_contained _ _ _)).trans (State.raceNote_contained _ _ _ _ _)
  unfold State.closeRace
  dsimp only
  split
  · exact finish _ (((State.Contained.foldl _ (State.closeLane_contained _) allLanes s).trans
      (State.endWatches_contained _)).trans (.foldl _ (State.closeLaneStatus_contained _) allLanes _))
  · exact finish _ (.refl s)

/-! #### The work of the rows -/

theorem State.padEvent_contained (s : State) (l : Lane) (side : PoolEnd) (stamp : Stamp) :
    s.Contained (s.padEvent l side stamp) := by
  unfold State.padEvent
  split
  · exact s.logEntry_contained _ _ _ _
  · exact ((s.logEntry_contained _ _ _ _).trans (State.report_contained _ _)).trans (State.laneEvent_contained _ _ _)
  · exact ((s.logEntry_contained _ _ _ _).trans (State.report_contained _ _)).trans (State.laneEvent_contained _ _ _)
  · exact s.logEntry_contained _ _ _ _

theorem State.buttonEvent_contained (s : State) (l : Lane) (side : PoolEnd) (b : Fin 3) (stamp : Stamp) :
    s.Contained (s.buttonEvent l side b stamp) := by
  unfold State.buttonEvent
  split
  · exact s.logEntry_contained _ _ _ _
  · exact (s.logEntry_contained _ _ _ _).trans (State.setLane_contained _ _ _)
  · exact (s.logEntry_contained _ _ _ _).trans (State.setLane_contained _ _ _)
  · exact s.logEntry_contained _ _ _ _

theorem State.takeoffEvent_contained (s : State) (t : Takeoff) : s.Contained (s.takeoffEvent t) := by
  unfold State.takeoffEvent
  dsimp only
  split
  · exact s.logEntry_contained _ _ _ _
  · exact (s.logEntry_contained _ _ _ _).trans (State.setLane_contained _ _ _)
  · exact (s.logEntry_contained _ _ _ _).trans (State.commit_contained _ _ _)
  · exact (s.logEntry_contained _ _ _ _).trans (State.commit_contained _ _ _)
  · exact (s.logEntry_contained _ _ _ _).trans (State.setLane_contained _ _ _)
  · exact s.logEntry_contained _ _ _ _

theorem State.startEdgeEvent_contained (s : State) (stamp : Stamp) : s.Contained (s.startEdgeEvent stamp) := by
  unfold State.startEdgeEvent
  split
  · exact (s.logEntry_contained _ _ _ _).trans (State.startRace_contained _ _ _ _ _)
  · exact s.logEntry_contained _ _ _ _

theorem State.recognisePress_contained (s : State) (line : Line) (stamp : Stamp) :
    s.Contained (s.recognisePress line stamp) := by
  cases line with
  | pad l side =>
    have held := s.setLaneEnd_contained l side { s.ports.laneEnd l side with pad := .pressed, held := some 1 }
    exact .ite (held.trans (State.padEvent_contained _ _ _ _)) held
  | button l side b =>
    have pressed := s.setLine_contained (.button l side b) .pressed
    exact .ite (pressed.trans (State.buttonEvent_contained _ _ _ _ _)) pressed
  | startLine => exact (s.setLine_contained _ _).trans (State.startEdgeEvent_contained _ _)

theorem State.recogniseRelease_contained (s : State) (line : Line) : s.Contained (s.recogniseRelease line) := by
  cases line with
  | pad l side =>
    have freed := s.setLaneEnd_contained l side
      { s.ports.laneEnd l side with pad := .released, held := none, stuck := false }
    exact .ite (freed.trans (State.report_contained _ _)) freed
  | button l side b => exact s.setLine_contained _ _
  | startLine => exact s.setLine_contained _ _

theorem State.sample_contained (line : Line) (closed : Bool) (s : State) : s.Contained (s.sample line closed) := by
  unfold State.sample
  split
  · exact s.setLine_contained _ _
  · exact .refl s
  · exact s.recognisePress_contained _ _
  · exact s.setLine_contained _ _
  · exact .refl s
  · exact s.setLine_contained _ _
  · exact s.setLine_contained _ _
  · exact s.recogniseRelease_contained _

theorem State.secondPress_contained (line : Line) (s : State) : s.Contained (s.secondPress line) := by
  unfold State.secondPress
  split
  · exact s.recognisePress_contained _ _
  · exact .refl s

theorem State.secondRelease_contained (line : Line) (s : State) : s.Contained (s.secondRelease line) := by
  unfold State.secondRelease
  split
  · exact s.recogniseRelease_contained _
  · exact .refl s

theorem State.deliverTakeoff_contained (side : PoolEnd) (l : Lane) (s : State) :
    s.Contained (s.deliverTakeoff side l) := by
  unfold State.deliverTakeoff
  split
  · next k _ =>
    have landed : s.Contained { s with takeoffs := s.takeoffs.erase k } :=
      State.contained_of_same rfl rfl rfl rfl rfl rfl rfl rfl
    exact landed.trans (State.takeoffEvent_contained _ k)
  · exact .refl s

theorem State.expireArm_contained (s : State) (l : Lane) : s.Contained (s.expireArm l) := by
  unfold State.expireArm
  split
  · exact s.commit_contained _ _
  · exact .refl s

theorem State.expireClose_contained (s : State) (l : Lane) : s.Contained (s.expireClose l) := by
  unfold State.expireClose
  split
  · exact s.laneEvent_contained _ _
  · exact .refl s

theorem State.saturate_contained (s : State) : s.Contained s.saturate := by
  have raised : s.Contained { s with overrun := true } := State.contained_of_same rfl rfl rfl rfl rfl rfl rfl rfl
  exact (raised.trans (State.report_contained _ _)).trans (State.closeRace_contained _ _)

/-! #### The owners of the commands: what they leave of the reply slot is their own -/

theorem State.answer_contained (s : State) (kind : Byte) (code : ResultCode) (data : List Byte) :
    s.Contained (s.answer kind code data) :=
  ⟨.of_eq rfl, rfl, rfl, rfl, le_rfl, id, rfl, rfl, rfl, id, rfl⟩

theorem State.Contained.answer {s t : State} (h : s.Contained t) (kind : Byte) (code : ResultCode) (data : List Byte) :
    s.Contained (t.answer kind code data) :=
  h.trans (t.answer_contained kind code data)

theorem State.storeProgram_contained (s : State) (p : Program) : s.Contained (s.storeProgram p) := by
  have stored : s.Contained { s with program := some p } := State.contained_of_same rfl rfl rfl rfl rfl rfl rfl rfl
  exact ((((stored.trans (State.discardRace_contained _ _)).trans (State.clearOverrun_contained _)).trans
    (State.raiseAllStuck_contained _)).trans (State.raceNote_contained _ _ _ _ _))

theorem State.programLoad_contained (payload : Payload) (s : State) : s.Contained (s.programLoad payload) := by
  unfold State.programLoad
  refine .ite (s.answer_contained _ _ _) ?_
  split
  · exact s.answer_contained _ _ _
  · exact (s.storeProgram_contained _).answer _ _ _

theorem State.removeProgram_contained (s : State) : s.Contained s.removeProgram := by
  have removed : s.Contained { s with program := none } := State.contained_of_same rfl rfl rfl rfl rfl rfl rfl rfl
  exact ((((removed.trans (State.discardRace_contained _ _)).trans (State.clearOverrun_contained _)).trans
    (State.raiseAllStuck_contained _)).trans (State.raceNote_contained _ _ _ _ _))

theorem State.raceClear_contained (s : State) : s.Contained s.raceClear :=
  .ite (s.answer_contained _ _ _) (.ite (s.answer_contained _ _ _) (s.removeProgram_contained.answer _ _ _))

theorem State.arm_contained (s : State) : s.Contained s.arm := by
  have watched (p : Program) (t : State) (l : Lane) : t.Contained (State.setStartWatch p t l) :=
    .ite (t.setWatch_contained _ _ _) (.refl t)
  unfold State.arm
  dsimp only
  refine State.Contained.trans ?_ (State.raceNote_contained _ _ _ _ _)
  split
  · exact (s.enter_contained _ _).trans (.foldl _ (watched _) allLanes _)
  · exact s.enter_contained _ _

theorem State.raceArm_contained (s : State) : s.Contained s.raceArm :=
  .ite (.ite (s.arm_contained.answer _ _ _) (s.answer_contained _ _ _)) (s.answer_contained _ _ _)

theorem State.startManual_contained (s : State) : s.Contained s.startManual :=
  .ite ((s.startRace_contained _ _ _ _).answer _ _ _) (s.answer_contained _ _ _)

theorem State.raceRecall_contained (s : State) : s.Contained s.raceRecall :=
  .ite (((s.discardRace_contained _).trans (State.raceNote_contained _ _ _ _ _)).answer _ _ _) (s.answer_contained _ _ _)

theorem State.raceClose_contained (s : State) : s.Contained s.raceClose :=
  .ite ((s.closeRace_contained _).answer _ _ _) (s.answer_contained _ _ _)

theorem State.resultsRelease_contained (s : State) : s.Contained s.resultsRelease :=
  .ite (((s.enter_contained _ _).trans (State.raceNote_contained _ _ _ _ _)).answer _ _ _) (s.answer_contained _ _ _)

theorem State.setAmendment_contained (s : State) (l : Lane) (code : Option Nat) : s.Contained (s.setAmendment l code) :=
  State.contained_of_same rfl rfl rfl rfl rfl rfl rfl rfl

/-- The checks of an AMEND keep what its action keeps. -/
theorem State.amending_contained (s : State) (lane : Byte) {act : Program → Lane → State}
    (keeps : ∀ p l, s.Contained (act p l)) : s.Contained (s.amending lane act) := by
  unfold State.amending
  refine .ite ?_ (s.answer_contained _ _ _)
  split
  · split
    · exact .ite (keeps _ _) (s.answer_contained _ _ _)
    · exact s.answer_contained _ _ _
  · exact s.answer_contained _ _ _

theorem State.amended_contained {s t : State} (h : s.Contained t) (l : Lane) (action : Byte) (more : List Byte) :
    s.Contained (t.amended l action more) :=
  h.answer _ _ _

theorem State.strike_contained (s : State) (p : Program) (l : Lane) (status : LaneStatus) (code : Option Nat) :
    s.Contained (s.strike p l status code) :=
  (s.setAmendment_contained l code).trans (State.laneEvent_contained _ _ _)

theorem State.disqualify_contained (lane code : Byte) (s : State) : s.Contained (s.disqualify lane code) :=
  s.amending_contained lane fun p l =>
    .ite (s.answer_contained _ _ _) (State.amended_contained (s.strike_contained p l _ _) _ _ _)

theorem State.didNotStart_contained (lane : Byte) (s : State) : s.Contained (s.didNotStart lane) :=
  s.amending_contained lane fun p l => State.amended_contained (s.strike_contained p l _ _) _ _ _

theorem State.restore_contained (lane : Byte) (s : State) : s.Contained (s.restore lane) :=
  s.amending_contained lane fun _ l =>
    .ite (State.amended_contained ((s.setAmendment_contained l none).trans (State.laneEvent_contained _ _ _)) _ _ _)
      (s.answer_contained _ _ _)

theorem State.timeWall_contained (lane : Byte) (time : Nat) (s : State) : s.Contained (s.timeWall lane time) := by
  refine s.amending_contained lane fun p l => .ite (s.answer_contained _ _ _) ?_
  split
  · exact s.answer_contained _ _ _
  · exact .ite (State.amended_contained ((s.setAmendment_contained l _).trans (State.laneEvent_contained _ _ _)) _ _ _)
      (s.answer_contained _ _ _)

theorem State.amendAny_contained (payload : Payload) (s : State) : s.Contained (s.amendAny payload) := by
  unfold State.amendAny
  split
  · exact s.disqualify_contained _ _
  · exact s.didNotStart_contained _
  · exact s.restore_contained _
  · exact s.timeWall_contained _ _
  · exact .ite (s.answer_contained _ _ _) (s.answer_contained _ _ _)

theorem State.setLayout_contained (s : State) (y : Layout) : s.Contained (s.setLayout y) := by
  have set : s.Contained (s.onBoard fun b => { b with layout := y }) :=
    State.contained_of_same rfl rfl rfl rfl rfl rfl rfl rfl
  exact ((set.trans (State.writeAllAuto_contained _)).trans (State.recomputeMap_contained _)).trans
    (State.markClockRow_contained _)

theorem State.boardLayout_contained (payload : Payload) (s : State) : s.Contained (s.boardLayout payload) := by
  unfold State.boardLayout
  split
  · exact (s.setLayout_contained _).answer _ _ _
  · exact s.answer_contained _ _ _

/-- The work of every row of the race. -/
theorem raceWork_contained (i : Instr) (s : State) : s.Contained (raceWork i s) := by
  cases i with
  | programLoad payload => exact s.programLoad_contained payload
  | raceArm _ => exact s.raceArm_contained
  | startManual _ => exact s.startManual_contained
  | raceRecall _ => exact s.raceRecall_contained
  | raceClose _ => exact s.raceClose_contained
  | resultsRelease _ => exact s.resultsRelease_contained
  | raceClear _ => exact s.raceClear_contained
  | amendDisqualify lane code _ => exact s.disqualify_contained lane code
  | amendDidNotStart lane _ _ => exact s.didNotStart_contained lane
  | amendRestore lane _ _ => exact s.restore_contained lane
  | amendTimeWall lane _ time => exact s.timeWall_contained lane _
  | amend payload => exact s.amendAny_contained payload
  | boardLayout payload => exact s.boardLayout_contained payload
  | padPress _ _ | buttonPress _ _ _ | startLineEdge => exact s.secondPress_contained _
  | contactLineSample line closed => exact s.sample_contained line closed
  | stuckTimerExpiry l side => exact s.raiseStuckIfDue_contained l side
  | takeoff side l => exact s.deliverTakeoff_contained side l
  | armTimerExpiry l => exact s.expireArm_contained l
  | closeTimerExpiry l => exact s.expireClose_contained l
  | clockSaturation => exact .ite s.saturate_contained (.refl s)
  | freezeEnd => exact .ite s.endFreeze_contained (.refl s)
  | _ => exact .refl s

end Sys2Proof.Machine


/-! ### The race goes on: what an event of a lane does to race state, clock and freeze (R28, R168) -/

namespace Sys2Proof.Machine

/-- An event of a lane keeps program, start source and fault; it leaves race state and clock, or completes a running race; and
it starts a freeze in RUNNING alone. -/
structure State.GoesOn (completes : Bool) (s t : State) : Prop where
  program : t.program = s.program
  source : t.source = s.source
  overrun : t.overrun = s.overrun
  race : (t.race = s.race ∧ t.clock = s.clock)
    ∨ (completes = true ∧ s.race = .running ∧ t.race = .complete ∧ t.clock = { s.clock with phase := .held })
  freeze : t.board.freeze.isSome = true → t.race = .running ∨ (t.race = s.race ∧ s.board.freeze.isSome = true)

section
variable {s t u : State} {completes : Bool}

theorem State.goesOn_of_same (program : t.program = s.program) (source : t.source = s.source) (overrun : t.overrun = s.overrun)
    (race : t.race = s.race) (clock : t.clock = s.clock) (freeze : t.board.freeze = s.board.freeze) :
    s.GoesOn completes t :=
  ⟨program, source, overrun, .inl ⟨race, clock⟩, fun f => .inr ⟨race, freeze ▸ f⟩⟩

theorem State.GoesOn.refl (s : State) : s.GoesOn completes s := State.goesOn_of_same rfl rfl rfl rfl rfl rfl

theorem State.GoesOn.trans (h : s.GoesOn completes t) (k : t.GoesOn completes u) : s.GoesOn completes u := by
  refine ⟨k.program.trans h.program, k.source.trans h.source, k.overrun.trans h.overrun, ?_, fun f => ?_⟩
  · obtain ⟨r, c⟩ | ⟨e, r, d, c⟩ := h.race
    · obtain ⟨r', c'⟩ | ⟨e', r', d', c'⟩ := k.race
      · exact .inl ⟨r'.trans r, c'.trans c⟩
      · exact .inr ⟨e', r ▸ r', d', c ▸ c'⟩
    · obtain ⟨r', c'⟩ | ⟨_, r', _, _⟩ := k.race
      · exact .inr ⟨e, r, r'.trans d, c'.trans c⟩
      · cases d.symm.trans r'
  · obtain r | ⟨r, f⟩ := k.freeze f
    · exact .inl r
    · obtain r' | ⟨r', f⟩ := h.freeze f
      · exact .inl (r.trans r')
      · exact .inr ⟨r.trans r', f⟩

theorem State.GoesOn.ite {c : Prop} [Decidable c] (h : s.GoesOn completes t) (k : s.GoesOn completes u) :
    s.GoesOn completes (if c then t else u) := by
  split
  · exact h
  · exact k

theorem State.GoesOn.foldl {α : Type} (f : State → α → State) (hf : ∀ (s : State) (a : α), s.GoesOn completes (f s a))
    (xs : List α) (s : State) : s.GoesOn completes (xs.foldl f s) := by
  induction xs generalizing s with
  | nil => exact .refl s
  | cons a xs ih => exact (hf s a).trans (ih (f s a))

theorem State.OnlyRanking.goesOn (h : s.OnlyRanking t) : s.GoesOn completes t :=
  State.goesOn_of_same h.program h.source h.overrun h.race h.clock h.board_freeze

theorem State.OnlyReports.goesOn (h : s.OnlyReports t) : s.GoesOn completes t := h.toOnlyRanking.goesOn

/-- The frame that may not complete lies within the one that may. -/
theorem State.GoesOn.mayComplete (h : s.GoesOn false t) : s.GoesOn completes t :=
  ⟨h.program, h.source, h.overrun, h.race.imp_right fun e => (nomatch e.1), h.freeze⟩

/-- A row that may not complete the race leaves its state. -/
theorem State.GoesOn.race_eq (h : s.GoesOn false t) : t.race = s.race := by
  obtain ⟨r, _⟩ | ⟨e, _⟩ := h.race
  · exact r
  · cases e

end

/-! #### What a change of race state keeps -/

@[simp] theorem State.enter_pending (s : State) (race : RaceState) (clock : Clock) : (s.enter race clock).pending = s.pending := by
  rw [State.enter_frame]

@[simp] theorem State.enter_resetHeld (s : State) (race : RaceState) (clock : Clock) : (s.enter race clock).resetHeld = s.resetHeld := by
  rw [State.enter_frame]

@[simp] theorem State.enter_program (s : State) (race : RaceState) (clock : Clock) : (s.enter race clock).program = s.program := by
  rw [State.enter_frame]

@[simp] theorem State.enter_source (s : State) (race : RaceState) (clock : Clock) : (s.enter race clock).source = s.source := by
  rw [State.enter_frame]

@[simp] theorem State.enter_overrun (s : State) (race : RaceState) (clock : Clock) : (s.enter race clock).overrun = s.overrun := by
  rw [State.enter_frame]

@[simp] theorem State.enter_startMark (s : State) (race : RaceState) (clock : Clock) : (s.enter race clock).startMark = s.startMark := by
  rw [State.enter_frame]

@[simp] theorem State.enter_ports (s : State) (race : RaceState) (clock : Clock) : (s.enter race clock).ports = s.ports := by
  rw [State.enter_frame]

@[simp] theorem State.enter_samplers (s : State) (race : RaceState) (clock : Clock) : (s.enter race clock).samplers = s.samplers := by
  rw [State.enter_frame]

@[simp] theorem State.enter_zeroing (s : State) (race : RaceState) (clock : Clock) : (s.enter race clock).zeroing = s.zeroing := by
  rw [State.enter_frame]

@[simp] theorem State.enter_takeoffs (s : State) (race : RaceState) (clock : Clock) : (s.enter race clock).takeoffs = s.takeoffs := by
  rw [State.enter_frame]

@[simp] theorem State.enter_lanes (s : State) (race : RaceState) (clock : Clock) : (s.enter race clock).lanes = s.lanes := by
  rw [State.enter_frame]

@[simp] theorem State.enter_results (s : State) (race : RaceState) (clock : Clock) : (s.enter race clock).results = s.results := by
  rw [State.enter_frame]

@[simp] theorem State.enter_log (s : State) (race : RaceState) (clock : Clock) : (s.enter race clock).log = s.log := by
  rw [State.enter_frame]

@[simp] theorem State.enter_link (s : State) (race : RaceState) (clock : Clock) : (s.enter race clock).link = s.link := by
  rw [State.enter_frame]

/-! #### The operations -/

theorem State.logEntry_goesOn (s : State) (stamp : Stamp) (source : LogSource) (wall : Option Nat) (d : Disposition)
    {completes : Bool} : s.GoesOn completes (s.logEntry stamp source wall d) := by
  rw [State.logEntry_frame]
  exact State.goesOn_of_same rfl rfl rfl rfl rfl rfl

theorem State.setLane_goesOn (s : State) (l : Lane) (c : LaneContext) {completes : Bool} :
    s.GoesOn completes (s.setLane l c) :=
  State.goesOn_of_same rfl rfl rfl rfl rfl rfl

theorem State.onPorts_goesOn (s : State) (f : Ports → Ports) {completes : Bool} : s.GoesOn completes (s.onPorts f) :=
  State.goesOn_of_same rfl rfl rfl rfl rfl rfl

theorem State.answer_goesOn (s : State) (kind : Byte) (code : ResultCode) (data : List Byte) {completes : Bool} :
    s.GoesOn completes (s.answer kind code data) :=
  State.goesOn_of_same rfl rfl rfl rfl rfl rfl

theorem State.GoesOn.answer {s t : State} {completes : Bool} (h : s.GoesOn completes t) (kind : Byte) (code : ResultCode)
    (data : List Byte) : s.GoesOn completes (t.answer kind code data) :=
  h.trans (t.answer_goesOn kind code data)

/-- Reports leave the freeze; a first final starts it in RUNNING alone. -/
theorem State.startFreeze_goesOn (s : State) (final : Nat) {completes : Bool} : s.GoesOn completes (s.startFreeze final) := by
  obtain ⟨starts, h⟩ | ⟨_, h⟩ := s.startFreeze_cases final <;> rw [h]
  · exact ⟨rfl, rfl, rfl, .inl ⟨rfl, rfl⟩, fun _ => .inl starts.1⟩
  · exact .refl s

theorem State.commit_goesOn (s : State) (l : Lane) (w : LaneWork) {completes : Bool} :
    s.GoesOn completes (s.commit l w) := by
  have put : s.GoesOn completes (((s.setLane l w.ctx).setWatch .start l w.watch.start).setWatch .turn l w.watch.turn) :=
    State.goesOn_of_same rfl rfl rfl rfl rfl rfl
  have shown : s.GoesOn completes (if needsAuto (s.context l) w.ctx then
      (((s.setLane l w.ctx).setWatch .start l w.watch.start).setWatch .turn l w.watch.turn).writeAuto l
    else ((s.setLane l w.ctx).setWatch .start l w.watch.start).setWatch .turn l w.watch.turn) :=
    .ite (put.trans (State.writeAuto_frame _ l).toOnlyRanking.goesOn) put
  unfold State.commit
  dsimp only
  split
  · exact (shown.trans (State.startFreeze_goesOn _ _)).trans (State.reportAll_frame _ _).goesOn
  · exact shown.trans (State.reportAll_frame _ _).goesOn

/-- The freeze after a change of race state: kept in RUNNING, ended in any other. -/
theorem State.enter_freeze (s : State) (race : RaceState) (clock : Clock) :
    (s.enter race clock).board.freeze = if race = .running then s.board.freeze else none := by
  have ended (t : State) : t.endFreeze.board.freeze = none := by
    obtain ⟨_, h⟩ | ⟨free, h⟩ := t.endFreeze_cases <;> rw [h]
    exact free
  unfold State.enter
  dsimp only
  rw [(State.recomputeMap_frame _).board_freeze]
  by_cases running : race = .running
  · simp only [if_pos running]
    split <;> rfl
  · simp only [if_neg running]
    split <;> exact ended _

theorem State.complete_goesOn (s : State) (running : s.race = .running) :
    s.GoesOn true (s.enter .complete { s.clock with phase := .held }) := by
  have ended : (s.enter .complete { s.clock with phase := .held }).board.freeze = none := s.enter_freeze _ _
  refine ⟨by simp, by simp, by simp, .inr ⟨rfl, running, by simp, by simp⟩, fun f => ?_⟩
  rw [ended] at f
  cases f

theorem State.endWatches_goesOn (s : State) {completes : Bool} : s.GoesOn completes s.endWatches :=
  State.goesOn_of_same s.endWatches_program s.endWatches_source s.endWatches_overrun s.endWatches_race s.endWatches_clock
    (congrArg Board.freeze s.endWatches_board)

theorem State.checkCompletion_goesOn (s : State) : s.GoesOn true s.checkCompletion := by
  unfold State.checkCompletion
  split
  · next done =>
    exact ((s.complete_goesOn done.1).trans (State.endWatches_goesOn _)).trans (State.raceNote_frame _ _ _ _ _).goesOn
  · exact .refl s

theorem State.laneEvent_goesOn (s : State) (l : Lane) (w : LaneWork) : s.GoesOn true (s.laneEvent l w) :=
  State.GoesOn.trans (.ite ((s.commit_goesOn l w).trans (State.rerank_frame _).goesOn) (s.commit_goesOn l w))
    (State.checkCompletion_goesOn _)

theorem State.raiseStuck_goesOn (s : State) (l : Lane) (side : PoolEnd) : s.GoesOn false (s.raiseStuck l side) := by
  have raised : s.GoesOn false
      ((s.setLaneEnd l side { s.ports.laneEnd l side with stuck := true }).report (.fault (.padStuck l side) true)) :=
    State.goesOn_of_same rfl rfl rfl rfl rfl rfl
  exact .ite (raised.trans (State.commit_goesOn _ _ _)) raised

theorem State.raiseStuckIfDue_goesOn (s : State) (l : Lane) (side : PoolEnd) : s.GoesOn false (s.raiseStuckIfDue l side) :=
  .ite (s.raiseStuck_goesOn l side) (.refl s)

theorem State.raiseAllStuck_goesOn (s : State) : s.GoesOn false s.raiseAllStuck :=
  .foldl _ (fun t l => (t.raiseStuckIfDue_goesOn l .start).trans (State.raiseStuckIfDue_goesOn _ l .turn)) allLanes s

theorem State.padEvent_goesOn (s : State) (l : Lane) (side : PoolEnd) (stamp : Stamp) :
    s.GoesOn true (s.padEvent l side stamp) := by
  unfold State.padEvent
  split
  · exact s.logEntry_goesOn _ _ _ _
  · exact ((s.logEntry_goesOn _ _ _ _).trans (State.touchNote_frame _ _ _ _ _ _ _).goesOn).trans
      (State.laneEvent_goesOn _ _ _)
  · exact ((s.logEntry_goesOn _ _ _ _).trans (State.touchNote_frame _ _ _ _ _ _ _).goesOn).trans
      (State.laneEvent_goesOn _ _ _)
  · exact s.logEntry_goesOn _ _ _ _

theorem State.buttonEvent_goesOn (s : State) (l : Lane) (side : PoolEnd) (b : Fin 3) (stamp : Stamp) :
    s.GoesOn false (s.buttonEvent l side b stamp) := by
  unfold State.buttonEvent
  split
  · exact s.logEntry_goesOn _ _ _ _
  · exact (s.logEntry_goesOn _ _ _ _).trans (State.setLane_goesOn _ _ _)
  · exact (s.logEntry_goesOn _ _ _ _).trans (State.setLane_goesOn _ _ _)
  · exact s.logEntry_goesOn _ _ _ _

theorem State.takeoffEvent_goesOn (s : State) (t : Takeoff) : s.GoesOn false (s.takeoffEvent t) := by
  unfold State.takeoffEvent
  dsimp only
  split
  · exact s.logEntry_goesOn _ _ _ _
  · exact (s.logEntry_goesOn _ _ _ _).trans (State.setLane_goesOn _ _ _)
  · exact (s.logEntry_goesOn _ _ _ _).trans (State.commit_goesOn _ _ _)
  · exact (s.logEntry_goesOn _ _ _ _).trans (State.commit_goesOn _ _ _)
  · exact (s.logEntry_goesOn _ _ _ _).trans (State.setLane_goesOn _ _ _)
  · exact s.logEntry_goesOn _ _ _ _

theorem State.recognisePad_goesOn (s : State) (l : Lane) (side : PoolEnd) (stamp : Stamp) :
    s.GoesOn true (s.recognisePress (.pad l side) stamp) := by
  have held : s.GoesOn true (s.setLaneEnd l side { s.ports.laneEnd l side with pad := .pressed, held := some 1 }) :=
    s.onPorts_goesOn _
  exact .ite (held.trans (State.padEvent_goesOn _ _ _ _)) held

theorem State.recogniseButton_goesOn (s : State) (l : Lane) (side : PoolEnd) (b : Fin 3) (stamp : Stamp) :
    s.GoesOn false (s.recognisePress (.button l side b) stamp) := by
  have pressed : s.GoesOn false (s.setLine (.button l side b) .pressed) := s.onPorts_goesOn _
  exact .ite (pressed.trans (State.buttonEvent_goesOn _ _ _ _ _)) pressed

theorem State.recogniseRelease_goesOn (s : State) (line : Line) : s.GoesOn false (s.recogniseRelease line) := by
  cases line with
  | pad l side =>
    exact .ite (State.goesOn_of_same rfl rfl rfl rfl rfl rfl) (State.goesOn_of_same rfl rfl rfl rfl rfl rfl)
  | button l side b => exact State.goesOn_of_same rfl rfl rfl rfl rfl rfl
  | startLine => exact State.goesOn_of_same rfl rfl rfl rfl rfl rfl

/-- A sample of a line goes on as the press it may complete does. -/
theorem State.sample_goesOn {completes : Bool} {line : Line} (closed : Bool) (s : State)
    (press : ∀ stamp, s.GoesOn completes (s.recognisePress line stamp)) : s.GoesOn completes (s.sample line closed) := by
  unfold State.sample
  split
  · exact s.onPorts_goesOn _
  · exact .refl s
  · exact press _
  · exact s.onPorts_goesOn _
  · exact .refl s
  · exact s.onPorts_goesOn _
  · exact s.onPorts_goesOn _
  · exact (s.recogniseRelease_goesOn line).mayComplete

theorem State.secondPress_goesOn {completes : Bool} {line : Line} (s : State)
    (press : ∀ stamp, s.GoesOn completes (s.recognisePress line stamp)) : s.GoesOn completes (s.secondPress line) := by
  unfold State.secondPress
  split
  · exact press _
  · exact .refl s

theorem State.deliverTakeoff_goesOn (side : PoolEnd) (l : Lane) (s : State) : s.GoesOn false (s.deliverTakeoff side l) := by
  unfold State.deliverTakeoff
  split
  · next k _ =>
    have landed : s.GoesOn false { s with takeoffs := s.takeoffs.erase k } :=
      State.goesOn_of_same rfl rfl rfl rfl rfl rfl
    exact landed.trans (State.takeoffEvent_goesOn _ k)
  · exact .refl s

theorem State.expireArm_goesOn (s : State) (l : Lane) : s.GoesOn false (s.expireArm l) := by
  unfold State.expireArm
  split
  · exact s.commit_goesOn _ _
  · exact .refl s

theorem State.expireClose_goesOn (s : State) (l : Lane) : s.GoesOn true (s.expireClose l) := by
  unfold State.expireClose
  split
  · exact s.laneEvent_goesOn _ _
  · exact .refl s

theorem State.endFreeze_goesOn (s : State) : s.GoesOn false s.endFreeze := by
  obtain ⟨_, h⟩ | ⟨_, h⟩ := s.endFreeze_cases <;> rw [h]
  · exact ⟨rfl, rfl, rfl, .inl ⟨rfl, rfl⟩, nofun⟩
  · exact .refl s

/-- An AMEND goes on as its action does. -/
theorem State.amending_goesOn (s : State) (lane : Byte) {act : Program → Lane → State}
    (keeps : ∀ p l, s.GoesOn true (act p l)) : s.GoesOn true (s.amending lane act) := by
  unfold State.amending
  refine .ite ?_ (s.answer_goesOn _ _ _)
  split
  · split
    · exact .ite (keeps _ _) (s.answer_goesOn _ _ _)
    · exact s.answer_goesOn _ _ _
  · exact s.answer_goesOn _ _ _

/-- The work of a lane put back with its amendment record. -/
theorem State.amendedEvent_goesOn (s : State) (l : Lane) (code : Option Nat) (w : LaneWork) (action : Byte)
    (more : List Byte) : s.GoesOn true (((s.setAmendment l code).laneEvent l w).amended l action more) := by
  have set : s.GoesOn true (s.setAmendment l code) := State.goesOn_of_same rfl rfl rfl rfl rfl rfl
  exact (set.trans (State.laneEvent_goesOn _ _ _)).answer _ _ _

theorem State.disqualify_goesOn (lane code : Byte) (s : State) : s.GoesOn true (s.disqualify lane code) :=
  s.amending_goesOn lane fun _ l => .ite (s.answer_goesOn _ _ _) (s.amendedEvent_goesOn l _ _ _ _)

theorem State.didNotStart_goesOn (lane : Byte) (s : State) : s.GoesOn true (s.didNotStart lane) :=
  s.amending_goesOn lane fun _ l => s.amendedEvent_goesOn l _ _ _ _

theorem State.restore_goesOn (lane : Byte) (s : State) : s.GoesOn true (s.restore lane) :=
  s.amending_goesOn lane fun _ l => .ite (s.amendedEvent_goesOn l _ _ _ _) (s.answer_goesOn _ _ _)

theorem State.timeWall_goesOn (lane : Byte) (time : Nat) (s : State) : s.GoesOn true (s.timeWall lane time) := by
  refine s.amending_goesOn lane fun p l => .ite (s.answer_goesOn _ _ _) ?_
  split
  · exact s.answer_goesOn _ _ _
  · exact .ite (s.amendedEvent_goesOn l _ _ _ _) (s.answer_goesOn _ _ _)

theorem State.amendAny_goesOn (payload : Payload) (s : State) : s.GoesOn true (s.amendAny payload) := by
  unfold State.amendAny
  split
  · exact s.disqualify_goesOn _ _
  · exact s.didNotStart_goesOn _
  · exact s.restore_goesOn _
  · exact s.timeWall_goesOn _ _
  · exact .ite (s.answer_goesOn _ _ _) (s.answer_goesOn _ _ _)

theorem State.boardLayout_goesOn (payload : Payload) (s : State) : s.GoesOn false (s.boardLayout payload) := by
  unfold State.boardLayout
  split
  · next y _ =>
    have set : s.GoesOn false (s.onBoard fun b => { b with layout := y }) := State.goesOn_of_same rfl rfl rfl rfl rfl rfl
    have shown : s.GoesOn false (s.setLayout y) :=
      ((set.trans (State.writeAllAuto_frame _).toOnlyRanking.goesOn).trans
        (State.recomputeMap_frame _).toOnlyRanking.goesOn).trans (State.markClockRow_frame _).toOnlyRanking.goesOn
    exact shown.answer _ _ _
  · exact s.answer_goesOn _ _ _

/-! ### The rows that change the race state -/

/-- A start leaves a race in RUNNING with its clock from `first`. -/
theorem State.startRace_items (s : State) (mark first : Nat) (source : StartSource) (cause : RaceCause) :
    (s.startRace mark first source cause).race = .running
      ∧ (s.startRace mark first source cause).clock = ⟨.running, first⟩
      ∧ (s.startRace mark first source cause).source = some source
      ∧ (s.startRace mark first source cause).overrun = s.overrun := by
  have lane (p : Program) (t : State) (l : Lane) : t.GoesOn false (State.startLane p mark source t l) :=
    .ite (t.commit_goesOn l _) (.refl t)
  unfold State.startRace
  dsimp only
  generalize hb : State.enter _ .running ⟨.running, first⟩ = begun
  have items : begun.race = .running ∧ begun.clock = ⟨.running, first⟩ ∧ begun.source = some source
      ∧ begun.overrun = s.overrun := by
    subst hb
    exact ⟨State.enter_race _ _ _, State.enter_clock _ _ _, State.enter_source _ _ _, State.enter_overrun _ _ _⟩
  obtain ⟨race, clock, src, fault⟩ := items
  split
  · have on := State.GoesOn.foldl _ (lane ‹Program›) allLanes (begun.raceNote .armed cause s.eventId mark)
    obtain ⟨r, c⟩ | ⟨e, _⟩ := on.race
    · exact ⟨r.trans race, c.trans clock, on.source.trans src, on.overrun.trans fault⟩
    · cases e
  · exact ⟨race, clock, src, fault⟩

/-- A discarded race leaves no start source and no freeze, and the fault as it was. -/
theorem State.discardRace_items (s : State) {race : RaceState} (leaves : race ≠ .running) :
    (s.discardRace race).source = none ∧ (s.discardRace race).overrun = s.overrun
      ∧ (s.discardRace race).board.freeze = none := by
  have emptied (t : State) (f : Lane → LaneContext → LaneContext) : t.GoesOn false (t.mapLanes f) :=
    State.goesOn_of_same (t.mapLanes_program f) (t.mapLanes_source f) (t.mapLanes_overrun f) (t.mapLanes_race f)
      (t.mapLanes_clock f) (congrArg Board.freeze (t.mapLanes_board f))
  have rest (t : State) (f : Lane → LaneContext → LaneContext) :
      t.GoesOn false ((t.mapLanes f).endWatches.discardResults.writeAllAuto.onPorts Ports.darkenTimed) :=
    ((((emptied t f).trans (State.endWatches_goesOn _)).trans (State.discardResults_frame _).goesOn).trans
      (State.writeAllAuto_frame _).toOnlyRanking.goesOn).trans (State.onPorts_goesOn _ _)
  have on := rest (({ s with source := none, startMark := none } : State).enter race ⟨.stopped, 0⟩)
    fun l _ => emptyContext s.program l
  refine ⟨on.source.trans (State.enter_source _ _ _), on.overrun.trans (State.enter_overrun _ _ _), ?_⟩
  refine Option.not_isSome_iff_eq_none.1 fun f => ?_
  obtain running | ⟨_, f⟩ := on.freeze f
  · exact leaves (((State.enter_race _ _ _).symm.trans on.race_eq.symm).trans running)
  · rw [State.enter_freeze, if_neg leaves] at f
    cases f

/-- A close keeps program, source and fault, and leaves no freeze. -/
theorem State.closeRace_items (s : State) (cause : RaceCause) :
    (s.closeRace cause).program = s.program ∧ (s.closeRace cause).source = s.source
      ∧ (s.closeRace cause).overrun = s.overrun ∧ (s.closeRace cause).board.freeze = none := by
  have items (t : State) (h : s.OnlyLane t) (clock : Clock) (previous : RaceState) (event value : Nat) :
      ((t.rerank.enter .complete clock).raceNote previous cause event value).program = s.program
        ∧ ((t.rerank.enter .complete clock).raceNote previous cause event value).source = s.source
        ∧ ((t.rerank.enter .complete clock).raceNote previous cause event value).overrun = s.overrun
        ∧ ((t.rerank.enter .complete clock).raceNote previous cause event value).board.freeze = none := by
    have ranked := t.rerank_frame
    simp [State.raceNote, State.enter_freeze, ranked.program, ranked.source, ranked.overrun, h.program, h.source, h.overrun]
  have settled (p : Program) : s.OnlyLane
      (((s.forLanes (State.closeLane p)).endWatches).forLanes (State.closeLaneStatus p)) :=
    ((State.OnlyLane.foldl _ (State.closeLane_frame p) allLanes s).trans (State.endWatches_frame _)).trans
      (State.OnlyLane.foldl _ (State.closeLaneStatus_frame p) allLanes _)
  unfold State.closeRace
  dsimp only
  split
  · exact items _ (settled _) _ _ _ _
  · exact items _ (.refl s) _ _ _ _

/-- The start watches change the START sampler alone. -/
theorem State.setStartWatch_frame (p : Program) (s : State) (l : Lane) :
    State.setStartWatch p s l = { s with samplers := (State.setStartWatch p s l).samplers } := by
  unfold State.setStartWatch
  split <;> rfl

theorem State.setStartWatches_frame (p : Program) (xs : List Lane) (s : State) :
    xs.foldl (State.setStartWatch p) s = { s with samplers := (xs.foldl (State.setStartWatch p) s).samplers } := by
  induction xs generalizing s with
  | nil => rfl
  | cons l xs ih =>
    rw [List.foldl_cons, ih, State.setStartWatch_frame]

/-- An arm changes race state and clock, the watches, and sends its report. -/
theorem State.arm_frame (s : State) :
    s.arm = ({ s.enter .armed ⟨.prestart, 0⟩ with samplers := s.arm.samplers } : State).raceNote .loaded .arm s.eventId 0 := by
  unfold State.arm
  dsimp only
  split
  · next p _ =>
    have frame := State.setStartWatches_frame p allLanes (s.enter .armed ⟨.prestart, 0⟩)
    exact congrArg (fun t => State.raceNote t .loaded .arm s.eventId 0) frame
  · rfl

/-- An arm leaves the race ARMED with its clock in PRESTART from 0. -/
theorem State.arm_items (s : State) :
    s.arm.program = s.program ∧ s.arm.race = .armed ∧ s.arm.clock = ⟨.prestart, 0⟩ ∧ s.arm.source = s.source
      ∧ s.arm.overrun = s.overrun ∧ s.arm.board.freeze = none := by
  have freeze : (s.enter .armed ⟨.prestart, 0⟩).board.freeze = none := s.enter_freeze _ _
  rw [State.arm_frame]
  exact ⟨s.enter_program _ _, s.enter_race _ _, s.enter_clock _ _, s.enter_source _ _, s.enter_overrun _ _, freeze⟩

end Sys2Proof.Machine


/-! ### The moves of the race state (O26) -/

namespace Sys2Proof.Machine

/-- A row whose moves are those of a completion makes them at an event of a lane. -/
theorem State.GoesOn.moves {i : Instr} {s t : State} (h : s.GoesOn true t)
    (row : ∀ before after, raceMove i before after = (before == .running && after == .complete)) :
    t.race = s.race ∨ raceMove i s.race t.race = true := by
  obtain same | ⟨_, running, complete, _⟩ := h.race
  · exact .inl same.1
  · exact .inr (by rw [row, running, complete]; rfl)

/-- A recognised press of the start line starts an ARMED race or leaves the race state. -/
theorem State.recogniseStart_race (s : State) (stamp : Stamp) :
    (s.recognisePress .startLine stamp).race = s.race
      ∨ s.race = .armed ∧ (s.recognisePress .startLine stamp).race = .running := by
  simp only [State.recognisePress, State.recogniseStart, State.startEdgeEvent]
  split
  · next armed => exact .inr ⟨armed, (State.startRace_items _ _ _ _ _).1⟩
  · exact .inl (State.logEntry_goesOn _ _ _ _ _ (completes := false)).race_eq

/-- A row whose move is the start makes it when it recognises a press of the start line. -/
theorem starts_moves {i : Instr} {s t : State}
    (row : ∀ before after, raceMove i before after = (before == .armed && after == .running))
    (h : t.race = s.race ∨ s.race = .armed ∧ t.race = .running) : t.race = s.race ∨ raceMove i s.race t.race = true := by
  obtain same | ⟨armed, running⟩ := h
  · exact .inl same
  · exact .inr (by rw [row, armed, running]; rfl)

theorem State.programLoad_moves (s : State) (payload : Payload) :
    (s.programLoad payload).race = s.race
      ∨ s.race.isUnderWay = false ∧ (s.programLoad payload).race = .loaded := by
  unfold State.programLoad
  split
  · exact .inl rfl
  · next free =>
    split
    · exact .inl rfl
    · exact .inr ⟨Bool.eq_false_iff.2 free, (State.answer_race _ _ _ _).trans (s.storeProgram_race _)⟩

theorem State.raceArm_moves (s : State) :
    s.raceArm.race = s.race ∨ s.race = .loaded ∧ s.raceArm.race = .armed := by
  unfold State.raceArm
  split
  · next loaded =>
    split
    · exact .inr ⟨loaded, (State.answer_race _ _ _ _).trans s.arm_items.2.1⟩
    · exact .inl rfl
  · exact .inl rfl

theorem State.startManual_moves (s : State) :
    s.startManual.race = s.race ∨ s.race = .armed ∧ s.startManual.race = .running := by
  unfold State.startManual
  split
  · next armed => exact .inr ⟨armed, (State.answer_race _ _ _ _).trans (s.startRace_items _ _ _ _).1⟩
  · exact .inl rfl

theorem State.recall_race (s : State) : s.recall.race = .loaded := by
  rw [State.recall, (State.raceNote_frame _ _ _ _ _).race, State.discardRace_race]

theorem State.saturate_race (s : State) : s.saturate.race = .complete := by
  rw [State.saturate, State.closeRace_race]

theorem State.raceRecall_moves (s : State) :
    s.raceRecall.race = s.race ∨ s.race.isUnderWay = true ∧ s.raceRecall.race = .loaded := by
  unfold State.raceRecall
  split
  · next underWay => exact .inr ⟨underWay, (State.answer_race _ _ _ _).trans s.recall_race⟩
  · exact .inl rfl

theorem State.raceClose_moves (s : State) :
    s.raceClose.race = s.race ∨ s.race = .running ∧ s.raceClose.race = .complete := by
  unfold State.raceClose
  split
  · next running => exact .inr ⟨running, (State.answer_race _ _ _ _).trans (s.closeRace_race .close)⟩
  · exact .inl rfl

theorem State.resultsRelease_moves (s : State) :
    s.resultsRelease.race = s.race ∨ s.race = .complete ∧ s.resultsRelease.race = .official := by
  unfold State.resultsRelease
  split
  · next complete => exact .inr ⟨complete, (State.answer_race _ _ _ _).trans s.release_race⟩
  · exact .inl rfl

theorem State.raceClear_moves (s : State) :
    s.raceClear.race = s.race ∨ s.race.isUnderWay = false ∧ s.raceClear.race = .empty := by
  unfold State.raceClear
  split
  · exact .inl rfl
  · next free =>
    split
    · exact .inl rfl
    · exact .inr ⟨Bool.eq_false_iff.2 free, (State.answer_race _ _ _ _).trans s.removeProgram_race⟩

theorem State.saturated_running {s : State} (h : s.saturated = true) : s.race = .running := by
  simp only [State.saturated, Bool.and_eq_true, decide_eq_true_eq] at h
  exact h.1

theorem State.saturation_moves (s : State) :
    (if s.saturated then s.saturate else s).race = s.race
      ∨ s.race = .running ∧ (if s.saturated then s.saturate else s).race = .complete := by
  split
  · next full => exact .inr ⟨State.saturated_running full, s.saturate_race⟩
  · exact .inl rfl

theorem State.startPress_moves (s : State) :
    (s.secondPress .startLine).race = s.race ∨ s.race = .armed ∧ (s.secondPress .startLine).race = .running := by
  unfold State.secondPress
  split
  · exact s.recogniseStart_race _
  · exact .inl rfl

theorem State.startSample_moves (s : State) (closed : Bool) :
    (s.sample .startLine closed).race = s.race ∨ s.race = .armed ∧ (s.sample .startLine closed).race = .running := by
  unfold State.sample
  split
  case h_3 => exact s.recogniseStart_race _
  all_goals exact .inl rfl

/-- A move under a test of the state before and a state after. -/
theorem moves_of {i : Instr} {s t : State} {before : Prop} {after : RaceState}
    (h : t.race = s.race ∨ before ∧ t.race = after) (row : before → raceMove i s.race after = true) :
    t.race = s.race ∨ raceMove i s.race t.race = true :=
  h.imp_right fun ⟨b, a⟩ => a ▸ row b

/-- A commanded or timed row of the race makes only its own moves. -/
theorem raceWork_moves (i : Instr) (s : State) :
    (raceWork i s).race = s.race ∨ raceMove i s.race (raceWork i s).race = true := by
  cases i with
  | programLoad payload =>
    have row (b : RaceState) : raceMove (.programLoad payload) b .loaded = !b.isUnderWay := by cases b <;> rfl
    exact moves_of (s.programLoad_moves payload) fun free => by rw [row, free]; rfl
  | raceArm _ => exact moves_of s.raceArm_moves fun loaded => by rw [loaded]; rfl
  | startManual _ => exact starts_moves (fun _ _ => rfl) s.startManual_moves
  | raceRecall payload =>
    have row (b : RaceState) : raceMove (.raceRecall payload) b .loaded = b.isUnderWay := by cases b <;> rfl
    exact moves_of s.raceRecall_moves fun underWay => by rw [row, underWay]
  | raceClose _ => exact moves_of s.raceClose_moves fun running => by rw [running]; rfl
  | resultsRelease _ => exact moves_of s.resultsRelease_moves fun complete => by rw [complete]; rfl
  | raceClear payload =>
    have row (b : RaceState) : raceMove (.raceClear payload) b .empty = !b.isUnderWay := by cases b <;> rfl
    exact moves_of s.raceClear_moves fun free => by rw [row, free]; rfl
  | clockSaturation =>
    exact moves_of s.saturation_moves fun running => by rw [running]; rfl
  | startLineEdge =>
    exact starts_moves (fun _ _ => rfl) s.startPress_moves
  | contactLineSample line closed =>
    cases line with
    | pad l side => exact (s.sample_goesOn closed (s.recognisePad_goesOn l side)).moves fun _ _ => rfl
    | button l side b => exact .inl (s.sample_goesOn closed (s.recogniseButton_goesOn l side b)).race_eq
    | startLine =>
      exact starts_moves (fun _ _ => rfl) (s.startSample_moves closed)
  | padPress l side => exact (s.secondPress_goesOn (s.recognisePad_goesOn l side)).moves fun _ _ => rfl
  | closeTimerExpiry l => exact (s.expireClose_goesOn l).moves fun _ _ => rfl
  | amendDisqualify lane code time => exact (s.disqualify_goesOn lane code).moves fun _ _ => rfl
  | amendDidNotStart lane code time => exact (s.didNotStart_goesOn lane).moves fun _ _ => rfl
  | amendRestore lane code time => exact (s.restore_goesOn lane).moves fun _ _ => rfl
  | amendTimeWall lane code time => exact (s.timeWall_goesOn lane time.toNat).moves fun _ _ => rfl
  | amend payload => exact (s.amendAny_goesOn payload).moves fun _ _ => rfl
  | boardLayout payload => exact .inl (s.boardLayout_goesOn payload).race_eq
  | buttonPress l side b => exact .inl (s.secondPress_goesOn (s.recogniseButton_goesOn l side b)).race_eq
  | stuckTimerExpiry l side => exact .inl (s.raiseStuckIfDue_goesOn l side).race_eq
  | takeoff side l => exact .inl (s.deliverTakeoff_goesOn side l).race_eq
  | armTimerExpiry l => exact .inl (s.expireArm_goesOn l).race_eq
  | freezeEnd => exact .inl (State.GoesOn.ite s.endFreeze_goesOn (.refl s)).race_eq
  | _ => exact .inl rfl

/-- A reset leaves the race or makes it EMPTY. -/
theorem reset_moves {i : Instr} {s t : State} (ran : exec i s = .next t) (row : isReset i = true) :
    t.race = s.race ∨ raceMove i s.race t.race = true := by
  have empties (h : t.race = .empty) : raceMove i s.race t.race = true := by
    rw [h]
    cases i with
    | powerOn | resetLineAssert | resetLineRelease | controllerResetTakesEffect => rfl
    | _ => cases row
  obtain same | reset | held | kept := exec_reset ran row
  · exact .inl (congrArg State.race same)
  · exact .inr (empties (congrArg State.race reset))
  · exact .inr (empties (congrArg State.race held))
  · exact .inr (empties (congrArg State.race kept))

/-- Settles O26: a row aside from the race leaves its state, a reset makes it EMPTY, and each other row makes the moves of its
own work. -/
theorem raceStateMoves : Obligations.RaceStateMoves := by
  unfold Obligations.RaceStateMoves
  intro i s t ran
  by_cases row : changesRace i = true
  · by_cases reset : isReset i = true
    · exact reset_moves ran reset
    · obtain ⟨f, _, rfl | rfl⟩ := exec_raceWork ran row (Bool.eq_false_iff.2 reset)
      · exact .inl rfl
      · exact raceWork_moves i (s.onLink f)
  · exact .inl (exec_aside ran (Bool.eq_false_iff.2 row)).race

/-! ### Race state, program, clock, source, fault and freeze fit each other (O56) -/

section
variable {s t : State}

/-- The fit goes over the items it speaks of. -/
theorem State.RaceFits.of_items (h : s.RaceFits) (program : t.program = s.program) (race : t.race = s.race)
    (clock : t.clock = s.clock) (source : t.source = s.source) (overrun : t.overrun = s.overrun)
    (freeze : t.board.freeze = s.board.freeze) : t.RaceFits := by
  unfold State.RaceFits
  rw [program, race, clock, source, overrun, freeze]
  exact h

theorem State.KeepsRace.raceFits {sampling : Bool} (k : s.KeepsRace sampling t) (h : s.RaceFits) : t.RaceFits :=
  h.of_items k.program k.race k.clock k.source k.overrun k.freeze

/-- An event of a lane keeps the fit: completion holds the clock of a running race and leaves no freeze. -/
theorem State.GoesOn.raceFits {completes : Bool} (k : s.GoesOn completes t) (h : s.RaceFits) : t.RaceFits := by
  obtain ⟨program, phase, bound, zero, source, fault, freeze⟩ := h
  obtain ⟨r, c⟩ | ⟨_, running, r, c⟩ := k.race
  · refine ⟨?_, ?_, ?_, ?_, ?_, ?_, fun f => ?_⟩
    · rw [k.program, r]; exact program
    · rw [c, r]; exact phase
    · rw [c]; exact bound
    · rw [c]; exact zero
    · rw [k.source, r]; exact source
    · rw [k.overrun, r]; exact fault
    · obtain now | ⟨same, f⟩ := k.freeze f
      · exact now
      · exact same.trans (freeze f)
  · refine ⟨?_, ?_, ?_, ?_, ?_, ?_, fun f => ?_⟩
    · rw [k.program, program, running, r]; simp
    · rw [c, r]; rfl
    · rw [c]; exact bound
    · rw [c]; exact nofun
    · rw [k.source, source, running, r]; rfl
    · rw [r]; exact fun _ => rfl
    · obtain now | ⟨same, _⟩ := k.freeze f
      · exact now
      · exact same.trans running

end

/-- A race taken off fits: LOADED with a program, EMPTY without one. -/
theorem State.discardRace_raceFits (s : State) {race : RaceState} (loaded : race = .loaded ∨ race = .empty)
    (program : s.program = none ↔ race = .empty) (overrun : s.overrun = false) : (s.discardRace race).RaceFits := by
  have leaves : race ≠ .running := by rintro rfl; simp at loaded
  obtain ⟨source, fault, freeze⟩ := s.discardRace_items leaves
  have kept := (s.discardRace_frame race).program
  unfold State.RaceFits
  rw [kept, State.discardRace_race, State.discardRace_clock, source, fault, freeze, overrun]
  refine ⟨program, ?_, Nat.zero_le _, fun _ => rfl, ?_, nofun, nofun⟩ <;> obtain rfl | rfl := loaded <;> rfl

/-- Clearing the fault leaves the rest of the fit. -/
theorem State.clearOverrun_items (s : State) :
    s.clearOverrun.program = s.program ∧ s.clearOverrun.race = s.race ∧ s.clearOverrun.clock = s.clock
      ∧ s.clearOverrun.source = s.source ∧ s.clearOverrun.board = s.board ∧ s.clearOverrun.overrun = false := by
  unfold State.clearOverrun
  split
  · exact ⟨rfl, rfl, rfl, rfl, rfl, rfl⟩
  · next calm => exact ⟨rfl, rfl, rfl, rfl, rfl, Bool.eq_false_iff.2 calm⟩

theorem State.clearOverrun_raceFits (s : State) {race : RaceState} (loaded : race = .loaded ∨ race = .empty)
    (program : s.program = none ↔ race = .empty) : (s.discardRace race).clearOverrun.RaceFits := by
  have leaves : race ≠ .running := by rintro rfl; simp at loaded
  obtain ⟨source, _, freeze⟩ := s.discardRace_items leaves
  have kept := (s.discardRace_frame race).program
  obtain ⟨p, r, c, src, b, calm⟩ := (s.discardRace race).clearOverrun_items
  unfold State.RaceFits
  rw [p, r, c, src, b, calm, kept, State.discardRace_race, State.discardRace_clock, source, freeze]
  refine ⟨program, ?_, Nat.zero_le _, fun _ => rfl, ?_, nofun, nofun⟩ <;> obtain rfl | rfl := loaded <;> rfl

theorem State.storeProgram_raceFits (s : State) (p : Program) : (s.storeProgram p).RaceFits :=
  (State.raceNote_frame _ _ _ _ _).goesOn (completes := false) |>.raceFits
    ((State.raiseAllStuck_goesOn _).raceFits (State.clearOverrun_raceFits _ (.inl rfl) (by simp)))

theorem State.removeProgram_raceFits (s : State) : s.removeProgram.RaceFits :=
  (State.raceNote_frame _ _ _ _ _).goesOn (completes := false) |>.raceFits
    ((State.raiseAllStuck_goesOn _).raceFits (State.clearOverrun_raceFits _ (.inr rfl) (by simp)))

theorem State.answer_raceFits {s : State} (h : s.RaceFits) (kind : Byte) (code : ResultCode) (data : List Byte) :
    (s.answer kind code data).RaceFits := h

section
variable {s : State}

/-- A start from ARMED. -/
theorem State.startRace_raceFits (h : s.RaceFits) (armed : s.race = .armed) (mark : Nat) {first : Nat}
    (source : StartSource) (cause : RaceCause) (bound : first ≤ Config.maxCount) :
    (s.startRace mark first source cause).RaceFits := by
  obtain ⟨program, -, -, -, -, fault, -⟩ := h
  obtain ⟨race, clock, src, overrun⟩ := s.startRace_items mark first source cause
  have kept := (s.startRace_frame mark first source cause).program
  unfold State.RaceFits
  rw [kept, race, clock, src, overrun]
  rw [armed] at program fault
  have calm : s.overrun = false := Bool.eq_false_iff.2 fun f => nomatch fault f
  exact ⟨⟨fun e => (nomatch program.1 e), nofun⟩, rfl, bound, nofun, rfl, fun f => (nomatch calm.symm.trans f), fun _ => rfl⟩

/-- A close of a running race, with or without the clock-overrun fault. -/
theorem State.closeRace_raceFits (program : s.program ≠ none) (source : s.source.isSome = true)
    (bound : s.clock.value ≤ Config.maxCount) (cause : RaceCause) : (s.closeRace cause).RaceFits := by
  obtain ⟨kept, src, -, freeze⟩ := s.closeRace_items cause
  unfold State.RaceFits
  rw [kept, src, freeze, State.closeRace_race, State.closeRace_clock]
  exact ⟨⟨fun e => absurd e program, nofun⟩, rfl, bound, nofun, source, fun _ => rfl, nofun⟩

theorem State.arm_raceFits (h : s.RaceFits) (loaded : s.race = .loaded) : s.arm.RaceFits := by
  obtain ⟨program, -, -, -, source, fault, -⟩ := h
  obtain ⟨kept, race, clock, src, overrun, freeze⟩ := s.arm_items
  rw [loaded] at program source fault
  have calm : s.overrun = false := Bool.eq_false_iff.2 fun f => nomatch fault f
  unfold State.RaceFits
  rw [kept, race, clock, src, overrun, freeze, calm, source]
  exact ⟨⟨fun e => (nomatch program.1 e), nofun⟩, rfl, Nat.zero_le _, nofun, rfl, nofun, nofun⟩

theorem State.release_raceFits (h : s.RaceFits) (complete : s.race = .complete) : s.release.RaceFits := by
  obtain ⟨program, phase, bound, -, source, -, -⟩ := h
  rw [complete] at program phase source
  refine ((State.raceNote_frame _ _ _ _ _).goesOn (completes := false)).raceFits ?_
  unfold State.RaceFits
  simp only [State.enter_program, State.enter_race, State.enter_clock, State.enter_source, State.enter_freeze, phase, source]
  exact ⟨⟨fun e => (nomatch program.1 e), nofun⟩, rfl, bound, nofun, rfl, fun _ => rfl, nofun⟩

/-- A recall of a race that is under way. -/
theorem State.recall_raceFits (h : s.RaceFits) (underWay : s.race.isUnderWay = true) : s.recall.RaceFits := by
  obtain ⟨program, -, -, -, -, fault, -⟩ := h
  have held : s.program ≠ none := fun e => by rw [program.1 e] at underWay; cases underWay
  have calm : s.overrun = false := Bool.eq_false_iff.2 fun f => by
    have := fault f
    revert this underWay
    cases s.race <;> decide
  refine ((State.raceNote_frame _ _ _ _ _).goesOn (completes := false)).raceFits ?_
  exact s.discardRace_raceFits (.inl rfl) ⟨fun e => absurd e held, nofun⟩ calm

theorem State.saturate_raceFits (h : s.RaceFits) (running : s.race = .running) : s.saturate.RaceFits := by
  obtain ⟨program, -, bound, -, source, -, -⟩ := h
  rw [running] at program source
  exact State.closeRace_raceFits (s := ({ s with overrun := true } : State).report (.fault .clockOverrun true))
    (fun e => nomatch program.1 e) source bound .overrun

/-- A recognised press of the start line. -/
theorem State.recogniseStart_raceFits (h : s.RaceFits) (stamp : Stamp) : (s.recognisePress .startLine stamp).RaceFits := by
  have pressed : (s.setLine .startLine .pressed).RaceFits := h
  simp only [State.recognisePress, State.recogniseStart, State.startEdgeEvent]
  split
  · next armed =>
    refine State.startRace_raceFits ((State.logEntry_goesOn _ _ _ _ _ (completes := false)).raceFits pressed) ?_ _ _ _
      (by decide)
    exact (State.logEntry_goesOn _ _ _ _ _ (completes := false)).race_eq.trans armed
  · exact (State.logEntry_goesOn _ _ _ _ _ (completes := false)).raceFits pressed

theorem State.recognisePress_raceFits (h : s.RaceFits) (line : Line) (stamp : Stamp) :
    (s.recognisePress line stamp).RaceFits := by
  cases line with
  | pad l side => exact (s.recognisePad_goesOn l side stamp).raceFits h
  | button l side b => exact (s.recogniseButton_goesOn l side b stamp).raceFits h
  | startLine => exact State.recogniseStart_raceFits h stamp

theorem State.secondPress_raceFits (h : s.RaceFits) (line : Line) : (s.secondPress line).RaceFits := by
  unfold State.secondPress
  split
  · exact State.recognisePress_raceFits h line _
  · exact h

theorem State.sample_raceFits (h : s.RaceFits) (line : Line) (closed : Bool) : (s.sample line closed).RaceFits := by
  unfold State.sample
  split
  case h_3 => exact State.recognisePress_raceFits h line _
  case h_8 => exact (s.recogniseRelease_goesOn line).raceFits h
  all_goals exact h

theorem State.programLoad_raceFits (h : s.RaceFits) (payload : Payload) : (s.programLoad payload).RaceFits := by
  unfold State.programLoad
  split
  · exact h
  · split
    · exact h
    · exact State.answer_raceFits (s.storeProgram_raceFits _) _ _ _

theorem State.raceArm_raceFits (h : s.RaceFits) : s.raceArm.RaceFits := by
  unfold State.raceArm
  split
  · next loaded =>
    split
    · exact State.answer_raceFits (State.arm_raceFits h loaded) _ _ _
    · exact h
  · exact h

theorem State.startManual_raceFits (h : s.RaceFits) : s.startManual.RaceFits := by
  unfold State.startManual
  split
  · next armed => exact State.answer_raceFits (State.startRace_raceFits h armed _ _ _ (Nat.zero_le _)) _ _ _
  · exact h

theorem State.raceRecall_raceFits (h : s.RaceFits) : s.raceRecall.RaceFits := by
  unfold State.raceRecall
  split
  · next underWay => exact State.answer_raceFits (State.recall_raceFits h underWay) _ _ _
  · exact h

theorem State.raceClose_raceFits (h : s.RaceFits) : s.raceClose.RaceFits := by
  unfold State.raceClose
  split
  · next running =>
    obtain ⟨program, -, bound, -, source, -, -⟩ := h
    rw [running] at program source
    exact State.answer_raceFits (State.closeRace_raceFits (fun e => nomatch program.1 e) source bound _) _ _ _
  · exact h

theorem State.resultsRelease_raceFits (h : s.RaceFits) : s.resultsRelease.RaceFits := by
  unfold State.resultsRelease
  split
  · next complete => exact State.answer_raceFits (State.release_raceFits h complete) _ _ _
  · exact h

theorem State.raceClear_raceFits (h : s.RaceFits) : s.raceClear.RaceFits := by
  unfold State.raceClear
  split
  · exact h
  · split
    · exact h
    · exact State.answer_raceFits s.removeProgram_raceFits _ _ _

end

theorem State.saturation_raceFits {s : State} (h : s.RaceFits) : (if s.saturated then s.saturate else s).RaceFits := by
  split
  · next full => exact State.saturate_raceFits h (State.saturated_running full)
  · exact h

theorem raceWork_raceFits (i : Instr) {s : State} (h : s.RaceFits) : (raceWork i s).RaceFits := by
  cases i with
  | programLoad payload => exact State.programLoad_raceFits h payload
  | raceArm _ => exact State.raceArm_raceFits h
  | startManual _ => exact State.startManual_raceFits h
  | raceRecall _ => exact State.raceRecall_raceFits h
  | raceClose _ => exact State.raceClose_raceFits h
  | resultsRelease _ => exact State.resultsRelease_raceFits h
  | raceClear _ => exact State.raceClear_raceFits h
  | clockSaturation => exact State.saturation_raceFits h
  | padPress _ _ | buttonPress _ _ _ | startLineEdge => exact State.secondPress_raceFits h _
  | contactLineSample line closed => exact State.sample_raceFits h line closed
  | amendDisqualify lane code _ => exact (s.disqualify_goesOn lane code).raceFits h
  | amendDidNotStart lane _ _ => exact (s.didNotStart_goesOn lane).raceFits h
  | amendRestore lane _ _ => exact (s.restore_goesOn lane).raceFits h
  | amendTimeWall lane _ time => exact (s.timeWall_goesOn lane time.toNat).raceFits h
  | amend payload => exact (s.amendAny_goesOn payload).raceFits h
  | boardLayout payload => exact (s.boardLayout_goesOn payload).raceFits h
  | stuckTimerExpiry l side => exact (s.raiseStuckIfDue_goesOn l side).raceFits h
  | takeoff side l => exact (s.deliverTakeoff_goesOn side l).raceFits h
  | armTimerExpiry l => exact (s.expireArm_goesOn l).raceFits h
  | closeTimerExpiry l => exact (s.expireClose_goesOn l).raceFits h
  | freezeEnd => exact (State.GoesOn.ite s.endFreeze_goesOn (.refl s)).raceFits h
  | _ => exact h

/-- The power-on values fit each other. -/
theorem State.afterReset_raceFits (s : State) : s.afterReset.RaceFits := by
  simp [State.RaceFits, State.afterReset, State.reset, RaceState.clockPhase, RaceState.started, Board.reset]

theorem exec_raceFits {i : Instr} {s t : State} (h : s.RaceFits) (ran : exec i s = .next t) : t.RaceFits := by
  by_cases row : changesRace i = true
  · by_cases reset : isReset i = true
    · obtain rfl | rfl | rfl | rfl := exec_reset ran reset
      · exact h
      · exact s.afterReset_raceFits
      · exact s.afterReset_raceFits
      · exact s.afterReset_raceFits
    · obtain ⟨f, _, rfl | rfl⟩ := exec_raceWork ran row (Bool.eq_false_iff.2 reset)
      · exact h
      · exact raceWork_raceFits i (s := s.onLink f) h
  · exact (exec_aside ran (Bool.eq_false_iff.2 row)).raceFits h

/-- What a count leaves of the board's layout, map and freeze. -/
theorem State.tick_keeps (s : State) :
    s.tick.board.layout = s.board.layout ∧ s.tick.board.map = s.board.map ∧ s.tick.board.freeze = s.board.freeze := by
  have frame := State.chooseFrame_frame (s.onLink Link.choose)
  exact ⟨frame.board_layout, frame.board_map, frame.board_freeze⟩

/-- A count moves the clock of a race on and no further than its maximum. -/
theorem State.tick_raceFits {s : State} (h : s.RaceFits) : s.tick.RaceFits := by
  obtain ⟨program, phase, bound, zero, source, fault, freeze⟩ := h
  obtain ⟨-, -, frozen⟩ := s.tick_keeps
  unfold State.RaceFits
  rw [State.tick_program, State.tick_race, State.tick_clock, State.tick_source, State.tick_overrun, frozen]
  obtain same | ⟨counts, room, moved⟩ := s.clock.tick_cases
  · rw [same]
    exact ⟨program, phase, bound, zero, source, fault, freeze⟩
  · rw [moved]
    refine ⟨program, phase, room, fun stopped => ?_, source, fault, freeze⟩
    rw [show s.clock.phase = .stopped from stopped] at counts
    cases counts

theorem step_raceFits {s t : State} (h : s.RaceFits) (ran : step s = .next t) : t.RaceFits := by
  obtain ⟨_, rfl⟩ | ⟨i, rest, _, ran⟩ := step_cases ran
  · obtain ⟨_, idle⟩ | ⟨_, _, idle⟩ | ⟨_, _, idle⟩ := s.idle_cases <;> rw [idle]
    · exact h
    · exact h
    · exact State.tick_raceFits h
  · exact exec_raceFits (s := { s with pending := rest }) h ran

/-- Settles O56: every row and every count keeps the fit of race state, program, clock, source, fault and freeze. -/
theorem raceFitsIsKept : Obligations.RaceFitsIsKept := by
  unfold Obligations.RaceFitsIsKept
  exact fun _ _ h ran => step_raceFits h ran

end Sys2Proof.Machine


/-! ### Queues, buffers and counters keep their bounds (O57) -/

namespace Sys2Proof.Machine

/-- The Console Link's part of the bounds. -/
def Link.Bounded (k : Link) : Prop :=
  k.queue.length ≤ 32 ∧ k.inbound.length ≤ 2 ∧ k.checkFail ≤ 65535 ∧ k.overrunCount ≤ 65535

/-- The Board Controller's part of the bounds. -/
def Board.Bounded (b : Board) : Prop := b.sinceRow1 ≤ 1000 ∧ b.AreaFits

theorem State.bounded_iff (s : State) :
    s.Bounded ↔ s.link.Bounded ∧ s.log.Within ∧ s.ports.blink < 10000 ∧ s.board.Bounded := by
  unfold State.Bounded Link.Bounded EventLog.Within Board.Bounded
  tauto

section
variable {s t : State}

theorem State.Bounded.onLink (h : s.Bounded) {f : Link → Link} (keeps : s.link.Bounded → (f s.link).Bounded) :
    (s.onLink f).Bounded := by
  rw [State.bounded_iff] at h ⊢
  exact ⟨keeps h.1, h.2⟩

theorem State.Bounded.onBoard (h : s.Bounded) {f : Board → Board} (keeps : s.board.Bounded → (f s.board).Bounded) :
    (s.onBoard f).Bounded := by
  rw [State.bounded_iff] at h ⊢
  obtain ⟨link, log, blink, board⟩ := h
  exact ⟨link, log, blink, keeps board⟩

theorem State.Bounded.onPorts (h : s.Bounded) {f : Ports → Ports} (keeps : (f s.ports).blink = s.ports.blink) :
    (s.onPorts f).Bounded := by
  rw [State.bounded_iff] at h ⊢
  obtain ⟨link, log, blink, board⟩ := h
  exact ⟨link, log, keeps.trans_lt blink, board⟩

theorem State.Bounded.answer (h : s.Bounded) (kind : Byte) (code : ResultCode) (data : List Byte) :
    (s.answer kind code data).Bounded := h

theorem State.Bounded.dropInbound (h : s.Bounded) : s.dropInbound.Bounded := by
  refine h.onLink fun ⟨queue, inbound, checkFail, overrun⟩ => ⟨queue, ?_, checkFail, overrun⟩
  show s.link.inbound.tail.length ≤ 2
  rw [List.length_tail]
  omega

theorem State.Bounded.take (h : s.Bounded) (kind : Byte) (payload : Payload) {owner : State → State}
    (keeps : ∀ u : State, u.Bounded → (owner u).Bounded) : (s.take kind payload owner).Bounded := by
  obtain same | refused | owned := s.take_cases kind payload owner
  · rwa [same]
  · rw [refused]
    exact h.dropInbound.answer _ _ _
  · rw [owned]
    exact keeps _ h.dropInbound

theorem State.Bounded.unlessHeld (h : s.Bounded) {event : State → State} (keeps : s.Bounded → (event s).Bounded) :
    (s.unlessHeld event).Bounded := by
  unfold State.unlessHeld
  split
  · exact h
  · exact keeps h

/-- An event of the race keeps the bounds. -/
theorem State.Contained.bounded (k : s.Contained t) (h : s.Bounded) : t.Bounded := by
  rw [State.bounded_iff] at h ⊢
  obtain ⟨⟨queue, inbound, checkFail, overrun⟩, log, blink, since, area⟩ := h
  refine ⟨⟨k.queue queue, ?_, ?_, ?_⟩, k.log log, k.blink.trans_lt blink, k.sinceRow1.trans since, ?_⟩
  · rwa [k.inbound]
  · rwa [k.checkFail]
  · rwa [k.overrunCount]
  · unfold Board.AreaFits
    rw [k.area, k.cursor, k.clear]
    exact area

/-- A sampler's work sends reports at most. -/
theorem State.Bounded.sampling (h : s.Bounded) (samplers : Ends Sampler) (zeroing : Option Zeroing)
    (takeoffs : List Takeoff) : ({ s with samplers, zeroing, takeoffs } : State).Bounded := h

end

/-! #### The link's own work -/

theorem Link.failCheck_bounded {k : Link} (h : k.Bounded) : k.failCheck.Bounded := by
  obtain ⟨queue, inbound, checkFail, overrun⟩ := h
  exact ⟨queue, inbound, countUp_le checkFail, overrun⟩

theorem Link.handOn_bounded {k : Link} (h : k.Bounded) (f : Frame) : (k.handOn f).Bounded := by
  obtain ⟨queue, inbound, checkFail, overrun⟩ := h
  unfold Link.handOn
  split
  · next room =>
    refine ⟨queue, ?_, checkFail, overrun⟩
    have : k.inbound.length < 2 := room
    show (k.inbound ++ [f]).length ≤ 2
    rw [List.length_append]
    exact this
  · exact ⟨queue, inbound, checkFail, countUp_le overrun⟩

theorem Link.completeFrame_bounded {k : Link} (h : k.Bounded) (length : Byte) (rest : List Byte) :
    (k.completeFrame length rest).Bounded := by
  unfold Link.completeFrame
  split
  · split
    · exact Link.handOn_bounded (k := { k with rx := .hunting }) h _
    · exact Link.failCheck_bounded h
  · exact Link.failCheck_bounded h

theorem Link.receiveByte_bounded {k : Link} (h : k.Bounded) (b : Byte) : (k.receiveByte b).Bounded := by
  unfold Link.receiveByte
  split
  · split
    · exact h
    · exact h
  · split
    · exact Link.failCheck_bounded h
    · exact h
  · dsimp only
    split
    · exact h
    · exact Link.completeFrame_bounded h _ _

theorem Link.receive_bounded {k : Link} (h : k.Bounded) (bytes : List Byte) : (k.receive bytes).Bounded := by
  unfold Link.receive
  induction bytes generalizing k with
  | nil => exact h
  | cons b bytes ih => exact ih (Link.receiveByte_bounded h b)

theorem Link.dropPartial_bounded {k : Link} (h : k.Bounded) : k.dropPartial.Bounded := by
  unfold Link.dropPartial
  split
  · exact h
  · exact Link.failCheck_bounded h

theorem Link.choose_bounded {k : Link} (h : k.Bounded) : k.choose.Bounded := by
  obtain e | ⟨r, _, _, _, e⟩ | ⟨r, rs, _, _, _, queued, e⟩ := k.choose_cases <;> rw [e]
  · exact h
  · exact h
  · obtain ⟨queue, inbound, checkFail, overrun⟩ := h
    rw [queued] at queue
    exact ⟨Nat.le_of_succ_le queue, inbound, checkFail, overrun⟩

theorem Link.endLine_bounded {k : Link} (h : k.Bounded) : k.endLine.Bounded := by
  obtain ⟨_, _, _, e | e⟩ | ⟨_, e | e⟩ := k.endLine_cases <;> rw [e]
  · exact h
  · exact Link.choose_bounded (k := k.endReply) h
  · exact h
  · exact Link.choose_bounded (k := { k with line := none }) h

/-! #### The board's own work -/

theorem Board.setMode_bounded {b : Board} (h : b.Bounded) (m : BoardMode) : (b.setMode m).Bounded := by
  unfold Board.setMode
  dsimp only
  split
  · exact h
  · split <;> exact h

/-- The cursor moves on within the area. -/
theorem Cursor.next_within {c : Cursor} {a : Rect}
    (h : a.x0 ≤ a.x1 ∧ a.y0 ≤ a.y1 ∧ a.x0 ≤ c.x ∧ c.x ≤ a.x1 ∧ a.y0 ≤ c.y ∧ c.y ≤ a.y1) :
    a.x0 ≤ (c.next a).x ∧ (c.next a).x ≤ a.x1 ∧ a.y0 ≤ (c.next a).y ∧ (c.next a).y ≤ a.y1 := by
  unfold Cursor.next
  split
  · dsimp only
    omega
  · split
    · dsimp only
      omega
    · dsimp only
      omega

/-- A cursor stands in the area of a board. -/
def Board.holdsCursor (b : Board) (c : Cursor) : Prop :=
  b.area.x0 ≤ c.x ∧ c.x ≤ b.area.x1 ∧ b.area.y0 ≤ c.y ∧ c.y ≤ b.area.y1

theorem Board.holdsCursor_next {b : Board} (h : b.AreaFits) {c : Cursor} (k : b.holdsCursor c) :
    b.holdsCursor (c.next b.area) := by
  obtain ⟨x, _, y, _⟩ := h
  exact Cursor.next_within ⟨x, y, k⟩

theorem Board.writeCells_cursor {b : Board} (h : b.AreaFits) (cells : List Cell) : b.holdsCursor (b.writeCells cells).cursor := by
  have step (w : WriteProgress) (k : b.holdsCursor w.cursor) (c : Cell) : b.holdsCursor (b.writeCell w c).cursor := by
    unfold Board.writeCell
    dsimp only
    split <;> exact Board.holdsCursor_next h k
  have all (w : WriteProgress) (k : b.holdsCursor w.cursor) : b.holdsCursor (cells.foldl b.writeCell w).cursor := by
    induction cells generalizing w with
    | nil => exact k
    | cons c cells ih => exact ih _ (step w k c)
  obtain ⟨_, _, _, _, x0, x1, y0, y1, _⟩ := h
  exact all ⟨b.cells, b.cursor, 0, 0⟩ ⟨x0, x1, y0, y1⟩

theorem Board.readCells_cursor {b : Board} (h : b.AreaFits) (n : Nat) {c : Cursor} (k : b.holdsCursor c) :
    b.holdsCursor (b.readCells c n).2 := by
  induction n generalizing c with
  | zero => exact k
  | succ n ih => exact ih (Board.holdsCursor_next h k)

/-- The board with its cursor moved within the area. -/
theorem Board.moveCursor_bounded {b : Board} (h : b.Bounded) {c : Cursor} (k : b.holdsCursor c) :
    ({ b with cursor := c } : Board).Bounded := by
  obtain ⟨since, x, xb, y, yb, _, _, _, _, clear⟩ := h
  exact ⟨since, x, xb, y, yb, k.1, k.2.1, k.2.2.1, k.2.2.2, clear⟩

theorem cornersOf_within {p : Payload} {i : Nat} {r : Rect} (h : cornersOf p i = some r) :
    r.x0 ≤ r.x1 ∧ r.x1 ≤ 31 ∧ r.y0 ≤ r.y1 ∧ r.y1 ≤ 11 := by
  unfold cornersOf at h
  dsimp only at h
  split at h
  · cases h
    assumption
  · cases h

theorem areaOf_within {p : Payload} {r : Rect} (h : areaOf p = some r) :
    r.x0 ≤ r.x1 ∧ r.x1 ≤ 31 ∧ r.y0 ≤ r.y1 ∧ r.y1 ≤ 11 := by
  unfold areaOf at h
  split at h
  · exact cornersOf_within h
  · dsimp only at h
    split at h
    · cases h
      dsimp only
      omega
    · cases h
  · cases h

theorem Board.setArea_bounded {b : Board} (h : b.Bounded) (idle : b.clear = none) {r : Rect}
    (k : r.x0 ≤ r.x1 ∧ r.x1 ≤ 31 ∧ r.y0 ≤ r.y1 ∧ r.y1 ≤ 11) : (b.setArea r).Bounded := by
  obtain ⟨x, xb, y, yb⟩ := k
  refine ⟨h.1, x, xb, y, yb, le_rfl, x, le_rfl, y, fun c running => ?_⟩
  exact nomatch idle.symm.trans running

theorem State.boardArea_bounded (payload : Payload) (s : State) (h : s.Bounded) : (s.boardArea payload).Bounded := by
  unfold State.boardArea
  split
  · exact h
  · next free =>
    have idle : s.board.clear = none := by simpa [Board.busy] using free
    split
    · next r area => exact State.Bounded.answer (h.onBoard fun b => Board.setArea_bounded b idle (areaOf_within area)) _ _ _
    · exact h

theorem State.boardMask_bounded (payload : Payload) (s : State) (h : s.Bounded) : (s.boardMask payload).Bounded := by
  unfold State.boardMask
  split
  · exact State.Bounded.answer (h.onBoard fun b => b) _ _ _
  · exact h

theorem State.putRows_contained (s : State) (cells : Vector CellRow 12) : s.Contained (s.putRows cells) :=
  .foldl _ (fun t _ => t.writeRow_contained _ _) allRows s

theorem State.Bounded.board {s : State} (h : s.Bounded) : s.board.Bounded := ((State.bounded_iff s).1 h).2.2.2

theorem State.moveCursor_bounded {s : State} (h : s.Bounded) {c : Cursor} (k : s.board.holdsCursor c) :
    (s.onBoard fun b => { b with cursor := c }).Bounded :=
  h.onBoard fun b => Board.moveCursor_bounded b k

theorem State.writeBoard_bounded {s : State} (h : s.Bounded) {w : WriteProgress} (k : s.board.holdsCursor w.cursor) :
    (s.writeBoard w).Bounded := by
  have rows := s.putRows_contained w.cells
  refine State.moveCursor_bounded (rows.bounded h) ?_
  unfold Board.holdsCursor
  rwa [rows.area]

theorem State.boardWrite_bounded (payload : Payload) (s : State) (h : s.Bounded) : (s.boardWrite payload).Bounded := by
  unfold State.boardWrite
  split
  · exact h
  · split
    · exact State.Bounded.answer (State.writeBoard_bounded h (Board.writeCells_cursor h.board.2 _)) _ _ _
    · exact h

theorem State.boardRead_bounded (payload : Payload) (s : State) (h : s.Bounded) : (s.boardRead payload).Bounded := by
  unfold State.boardRead
  split
  · refine State.Bounded.answer (h.onBoard fun b => Board.moveCursor_bounded b ?_) _ _ _
    obtain ⟨_, _, _, _, x0, x1, y0, y1, _⟩ := h.board.2
    exact Board.readCells_cursor h.board.2 _ ⟨x0, x1, y0, y1⟩
  · exact h

theorem State.boardClear_bounded (payload : Payload) (s : State) (h : s.Bounded) : (s.boardClear payload).Bounded := by
  unfold State.boardClear
  split
  · exact h
  · split
    · refine State.Bounded.answer (h.onBoard ?_) _ _ _
      rintro ⟨since, x, xb, y, yb, x0, x1, y0, y1, -⟩
      exact ⟨since, x, xb, y, yb, x0, x1, y0, y1, fun c e => by cases e; exact ⟨le_rfl, y⟩⟩
    · exact h

theorem Board.stopClear_bounded {b : Board} (h : b.Bounded) : ({ b with clear := none } : Board).Bounded := by
  obtain ⟨since, x, xb, y, yb, x0, x1, y0, y1, -⟩ := h
  exact ⟨since, x, xb, y, yb, x0, x1, y0, y1, nofun⟩

theorem Board.advanceClear_bounded {b : Board} (h : b.Bounded) {c : Clear} (running : b.clear = some c) :
    (b.advanceClear c).Bounded := by
  obtain ⟨since, x, xb, y, yb, x0, x1, y0, y1, clear⟩ := h
  refine ⟨since, x, xb, y, yb, x0, x1, y0, y1, fun d e => ?_⟩
  obtain ⟨low, _⟩ := clear c running
  simp only [Board.advanceClear] at e
  split at e
  · next below =>
    cases e
    exact ⟨Nat.le_succ_of_le low, below⟩
  · cases e

theorem State.fillNextRow_bounded (s : State) (h : s.Bounded) : s.fillNextRow.Bounded := by
  unfold State.fillNextRow
  split
  · next c running =>
    split
    · have row := s.writeRow_contained ⟨c.nextRow, ‹_›⟩ (s.board.filledRow c.fill ⟨c.nextRow, ‹_›⟩)
      exact State.Bounded.onBoard (row.bounded h) fun b => Board.advanceClear_bounded b (row.clear.trans running)
    · exact h.onBoard Board.stopClear_bounded
  · exact h

theorem State.boardModule_bounded (index value : Byte) (s : State) (h : s.Bounded) : (s.boardModule index value).Bounded := by
  unfold State.boardModule
  split
  · exact h
  · split
    · exact h
    · split
      · exact h
      · exact State.Bounded.answer (h.onBoard fun b => b) _ _ _

theorem State.boardMode_bounded (payload : Payload) (s : State) (h : s.Bounded) : (s.boardMode payload).Bounded := by
  unfold State.boardMode
  split
  · exact State.Bounded.answer (h.onBoard fun b => Board.setMode_bounded b _) _ _ _
  · exact h

theorem Board.beginDisplay_bounded {b : Board} (h : b.Bounded) (content : ChainContent) (d : Row) :
    (b.beginDisplay content d).Bounded := by
  refine ⟨?_, h.2⟩
  show (if d = 1 then 0 else b.sinceRow1) ≤ 1000
  split
  · exact Nat.zero_le _
  · exact h.1

theorem State.chooseRow_bounded (s : State) (h : s.Bounded) : s.chooseRow.Bounded := by
  unfold State.chooseRow
  split
  · exact h.onBoard fun b => Board.beginDisplay_bounded b _ _
  · split
    · exact h.onBoard fun b => Board.beginDisplay_bounded b _ _
    · split
      · next d _ =>
        have moved : (s.onBoard fun b => { b with rotation := d }).Bounded := h.onBoard fun b => b
        exact moved.onBoard fun b => Board.beginDisplay_bounded b _ _
      · exact h

theorem State.chooseFrame_bounded (s : State) (h : s.Bounded) : s.chooseFrame.Bounded := by
  unfold State.chooseFrame
  split
  · exact h
  · exact h.onBoard fun b => b
  · exact h.onBoard fun b => b
  · exact h
  · exact h.onBoard fun b => Board.beginDisplay_bounded (b := { s.board with rotation := s.board.rotation + 1 }) b _ _
  · exact s.chooseRow_bounded h
  · exact s.chooseRow_bounded h

theorem Board.endFrame_bounded {b : Board} (h : b.Bounded) (content : ChainContent) : (b.endFrame content).Bounded := by
  unfold Board.endFrame
  split <;> exact h

theorem State.endChainFrame_bounded (s : State) (h : s.Bounded) : s.endChainFrame.Bounded := by
  unfold State.endChainFrame
  split
  · next f _ =>
    refine State.chooseFrame_bounded _ (h.onBoard fun b => ?_)
    exact Board.endFrame_bounded (b := { s.board with chain := none }) b f.content
  · exact s.chooseFrame_bounded h

/-! #### The other rows aside -/

theorem State.linkSet_bounded (payload : Payload) (s : State) (h : s.Bounded) : (s.linkSet payload).Bounded := by
  unfold State.linkSet
  split
  · exact State.Bounded.answer (h.onLink fun k => k) _ _ _
  · exact h

theorem Ports.takeGroupMode_blink (p : Ports) (g : Group) (m : GroupMode) : (p.takeGroupMode g m).blink = p.blink := by
  cases g <;> rfl

theorem State.setGroupMode_bounded (payload : Payload) (s : State) (h : s.Bounded) : (s.setGroupMode payload).Bounded := by
  unfold State.setGroupMode
  split
  · split
    · exact h
    · exact State.Bounded.answer (h.onPorts (Ports.takeGroupMode_blink _ _ _)) _ _ _
  · exact h

theorem State.writeLine_bounded (payload : Payload) (s : State) (h : s.Bounded) : (s.writeLine payload).Bounded := by
  unfold State.writeLine
  split <;> exact h

theorem State.platformZero_bounded (s : State) (h : s.Bounded) : s.platformZero.Bounded := by
  unfold State.platformZero
  split
  · exact h
  · split
    · exact h
    · exact (h.sampling s.samplers (some s.newZeroing) s.takeoffs).onLink fun k => k

theorem State.platformLimits_bounded (payload : Payload) (s : State) (h : s.Bounded) :
    (s.platformLimits payload).Bounded := by
  unfold State.platformLimits
  split <;> exact h

theorem State.report_bounded (s : State) (r : Report) (h : s.Bounded) : (s.report r).Bounded :=
  (s.report_contained r).bounded h

theorem State.reportAll_bounded (s : State) (rs : List Report) (h : s.Bounded) : (s.reportAll rs).Bounded :=
  (s.reportAll_contained rs).bounded h

theorem State.samplerSet_bounded (payload : Payload) (s : State) (h : s.Bounded) : (s.samplerSet payload).Bounded := by
  have set (side : PoolEnd) (enabled : Bool) : (s.setSampler side enabled).Bounded := by
    unfold State.setSampler
    dsimp only
    split
    · exact State.reportAll_bounded _ _ (h.sampling _ s.zeroing s.takeoffs)
    · exact h.sampling _ s.zeroing s.takeoffs
    · exact h
  unfold State.samplerSet
  split
  · exact State.Bounded.answer (set _ _) _ _ _
  · exact h

theorem State.zeroChannel_bounded (s : State) (side : PoolEnd) (l : Lane) (reading : Nat) (h : s.Bounded) :
    (s.zeroChannel side l reading).Bounded := by
  unfold State.zeroChannel
  split
  · dsimp only
    split
    · split <;> exact h
    · exact h
  · exact h

theorem State.putConversion_bounded (s : State) (side : PoolEnd) (l : Lane) (r : Conversion) (h : s.Bounded) :
    (s.putConversion side l r).Bounded := by
  have put : (s.setChannel side l r.channel).Bounded := h
  have noted (raised : Bool) : ((s.setChannel side l r.channel).report (.fault (.platform l side) raised)).Bounded :=
    State.report_bounded _ _ put
  unfold State.putConversion
  dsimp only
  split <;> split
  · exact (noted _).sampling _ _ _
  · exact put.sampling _ _ _
  · exact noted _
  · exact put

theorem State.convert_bounded (s : State) (side : PoolEnd) (reading : Nat) (h : s.Bounded) :
    (s.convert side reading).Bounded := by
  unfold State.convert
  split
  · exact State.putConversion_bounded _ _ _ _ (s.zeroChannel_bounded _ _ _ h)
  · exact h

theorem EventLog.removeOldest_within {g : EventLog} (h : g.Within) (count : Nat) : (g.removeOldest count).Within := by
  obtain ⟨entries, counter, dropped⟩ := h
  refine ⟨?_, counter, dropped⟩
  simp only [EventLog.removeOldest, List.length_drop]
  omega

theorem State.logRead_bounded (payload : Payload) (s : State) (h : s.Bounded) : (s.logRead payload).Bounded := by
  unfold State.logRead
  split
  · rw [State.bounded_iff] at h ⊢
    obtain ⟨link, log, rest⟩ := h
    exact ⟨link, EventLog.removeOldest_within log _, rest⟩
  · exact h

theorem State.logClear_bounded (s : State) (h : s.Bounded) : ({ s with log := s.log.cleared } : State).Bounded := by
  rw [State.bounded_iff] at h ⊢
  obtain ⟨link, ⟨_, counter, _⟩, rest⟩ := h
  exact ⟨link, ⟨Nat.zero_le _, counter, Nat.zero_le _⟩, rest⟩

theorem State.zeroingComplete_bounded (s : State) (h : s.Bounded) :
    (match s.zeroing with
      | some z =>
        if z.finished then ({ s with zeroing := none } : State).answer kindPlatformZero .done z.reply else s
      | none => s).Bounded := by
  split
  · split <;> exact h
  · exact h

/-! #### Every row -/

theorem State.afterReset_bounded (s : State) : s.afterReset.Bounded := by
  rw [State.bounded_iff]
  refine ⟨?_, ?_, ?_, ?_, ?_⟩
  all_goals simp [State.afterReset, State.reset, Link.Bounded, Link.reset, EventLog.Within, EventLog.reset, Ports.reset,
    Board.reset, Config.clockRowCounts, Board.AreaFits, Rect.whole]

theorem State.afterControllerReset_bounded (s : State) : s.afterControllerReset.Bounded := s.afterReset_bounded

theorem State.Bounded.taken {s : State} (h : s.Bounded) {f : Link → Link} (takes : Link.OnlyTakes f) : (s.onLink f).Bounded := by
  obtain ⟨queue, inbound, checkFail, overrun⟩ := takes s.link
  refine h.onLink fun ⟨q, i, c, o⟩ => ⟨?_, inbound.trans i, ?_, ?_⟩
  · rwa [queue]
  · rwa [checkFail]
  · rwa [overrun]

/-- A row aside from the race keeps the bounds. -/
theorem exec_aside_bounded {i : Instr} {s t : State} (h : s.Bounded) (ran : exec i s = .next t)
    (aside : changesRace i = false) : t.Bounded := by
  cases i with
  | powerOn | resetLineAssert | resetLineRelease | controllerResetTakesEffect => cases aside
  | programLoad _ | raceArm _ | startManual _ | raceRecall _ | raceClose _ | resultsRelease _ | raceClear _ => cases aside
  | amendDisqualify _ _ _ | amendDidNotStart _ _ _ | amendRestore _ _ _ | amendTimeWall _ _ _ | amend _ => cases aside
  | boardLayout _ | padPress _ _ | buttonPress _ _ _ | startLineEdge | contactLineSample _ _ => cases aside
  | stuckTimerExpiry _ _ | takeoff _ _ | armTimerExpiry _ | closeTimerExpiry _ | clockSaturation | freezeEnd => cases aside
  -- the console link
  | frameReceived bytes =>
    cases ran
    exact h.unlessHeld fun u => u.onLink fun k => Link.receive_bounded k bytes
  | frameGapTimeout =>
    cases ran
    refine h.unlessHeld fun u => ?_
    split
    · exact u.onLink Link.dropPartial_bounded
    · exact u
  | unknownKind kind payload =>
    cases ran
    split
    · exact h.dropInbound.answer _ _ _
    · exact h
  | lineFrameEnd =>
    cases ran
    refine h.unlessHeld fun u => ?_
    split
    · exact u
    · exact u.onLink Link.endLine_bounded
  | linkSpeedChange =>
    cases ran
    refine h.unlessHeld fun u => ?_
    split
    · exact u.onLink fun k =>
        Link.dropPartial_bounded (k := { s.link with speed := _, effect := none, effectDue := false }) k
    · exact u
  | identAsk payload | statusAsk payload | controllerReset payload =>
    cases ran
    exact h.take _ _ fun u b => b
  | linkSet payload =>
    cases ran
    exact h.take _ _ (State.linkSet_bounded payload)
  | programAsk payload =>
    cases ran
    refine h.take _ _ fun u b => ?_
    split <;> exact b
  -- ports and platforms
  | groupMode payload =>
    cases ran
    exact h.take _ _ (State.setGroupMode_bounded payload)
  | lamp l side pattern | padEnable l side on | buttonEnable l side on =>
    cases ran
    exact h.take _ _ fun u b => b
  | lineSet payload =>
    cases ran
    exact h.take _ _ (State.writeLine_bounded payload)
  | linesAsk payload =>
    cases ran
    refine h.take _ _ fun u b => ?_
    split <;> exact b
  | lineRelease line =>
    cases ran
    exact h.unlessHeld fun u => (s.secondRelease_contained line).bounded u
  | platformZero payload =>
    cases ran
    exact h.take _ _ State.platformZero_bounded
  | zeroingComplete =>
    cases ran
    exact h.unlessHeld fun u => s.zeroingComplete_bounded u
  | platformLimits payload =>
    cases ran
    exact h.take _ _ (State.platformLimits_bounded payload)
  | platformAsk payload =>
    cases ran
    refine h.take _ _ fun u b => ?_
    split <;> exact b
  | samplerSet payload =>
    cases ran
    exact h.take _ _ (State.samplerSet_bounded payload)
  | platformConversion side reading =>
    cases ran
    exact h.unlessHeld fun u => s.convert_bounded side reading.val u
  -- queries of lanes and results, the log
  | laneAsk payload =>
    cases ran
    refine h.take _ _ fun u b => ?_
    split <;> exact b
  | wallsAsk payload =>
    cases ran
    refine h.take _ _ fun u b => ?_
    split
    · split <;> exact b
    · exact b
  | resultsAsk payload =>
    cases ran
    refine h.take _ _ fun u b => ?_
    split
    · exact b
    · split <;> exact b
  | logRead payload =>
    cases ran
    exact h.take _ _ (State.logRead_bounded payload)
  | logClear payload =>
    cases ran
    exact h.take _ _ State.logClear_bounded
  -- the board
  | boardMode payload =>
    cases ran
    exact h.take _ _ (State.boardMode_bounded payload)
  | boardArea payload =>
    cases ran
    exact h.take _ _ (State.boardArea_bounded payload)
  | boardMask payload =>
    cases ran
    exact h.take _ _ (State.boardMask_bounded payload)
  | boardWrite payload =>
    cases ran
    exact h.take _ _ (State.boardWrite_bounded payload)
  | boardRead payload =>
    cases ran
    exact h.take _ _ (State.boardRead_bounded payload)
  | boardClear payload =>
    cases ran
    exact h.take _ _ (State.boardClear_bounded payload)
  | boardClearStop payload =>
    cases ran
    exact h.take _ _ fun u b => b.onBoard Board.stopClear_bounded
  | brightness value | blank value | selfTest value | moduleReset value | boardModule payload =>
    cases ran
    exact h.take _ _ (State.boardModule_bounded _ _)
  | clearRowFill =>
    cases ran
    refine h.unlessHeld fun u => ?_
    split
    · exact s.fillNextRow_bounded u
    · exact u
  | boardFrameEnd =>
    cases ran
    refine h.unlessHeld fun u => ?_
    split
    · exact u
    · exact s.endChainFrame_bounded u
  | clockRowDue =>
    cases ran
    refine h.unlessHeld fun u => ?_
    split
    · exact s.chooseFrame_bounded u
    · exact u
  | prestartClockLimit =>
    cases ran
    exact h

theorem exec_bounded {i : Instr} {s t : State} (h : s.Bounded) (ran : exec i s = .next t) : t.Bounded := by
  by_cases row : changesRace i = true
  · by_cases reset : isReset i = true
    · obtain rfl | rfl | rfl | rfl := exec_reset ran reset
      · exact h
      · exact s.afterReset_bounded
      · exact s.afterReset_bounded
      · exact s.afterControllerReset_bounded
    · obtain ⟨f, takes, rfl | rfl⟩ := exec_raceWork ran row (Bool.eq_false_iff.2 reset)
      · exact h.taken takes
      · exact (raceWork_contained i _).bounded (h.taken takes)
  · exact exec_aside_bounded h ran (Bool.eq_false_iff.2 row)

/-- A count moves the blink base on modulo 10,000 and the time since row 1 up to 1,000. -/
theorem State.tick_bounded {s : State} (h : s.Bounded) : s.tick.Bounded := by
  have chosen : s.chooseFrames.Bounded := State.chooseFrame_bounded _ (h.onLink Link.choose_bounded)
  rw [State.bounded_iff] at chosen ⊢
  obtain ⟨link, log, _, board⟩ := chosen
  refine ⟨link, log, ?_, ?_, ?_⟩
  · rw [State.tick_ports]
    exact Nat.mod_lt _ (by decide)
  · exact Nat.min_le_left _ _
  · obtain ⟨_, x, xb, y, yb, x0, x1, y0, y1, clear⟩ := board
    refine ⟨x, xb, y, yb, x0, x1, y0, y1, fun c e => ?_⟩
    obtain ⟨d, running, rfl⟩ := Option.map_eq_some_iff.1 e
    exact clear d running

/-- Settles O57: every row and every count keeps the bounds. -/
theorem boundsAreKept : Obligations.BoundsAreKept := by
  unfold Obligations.BoundsAreKept
  intro s t h ran
  obtain ⟨_, rfl⟩ | ⟨i, rest, _, ran⟩ := step_cases ran
  · obtain ⟨_, idle⟩ | ⟨_, _, idle⟩ | ⟨_, _, idle⟩ := s.idle_cases <;> rw [idle]
    · exact h
    · exact h
    · exact State.tick_bounded h
  · exact exec_bounded (s := { s with pending := rest }) h ran

end Sys2Proof.Machine


/-! ### What a conversion changes (R53, R54, R57) -/

namespace Sys2Proof.Machine

/-- Nothing of the samplers differs but one channel. -/
def State.OneChannel (side : PoolEnd) (l : Lane) (s t : State) : Prop :=
  (∀ other, t.sampler other = { s.sampler other with channels := (t.sampler other).channels })
    ∧ ∀ other m, ¬ (other = side ∧ m = l) → t.channel other m = s.channel other m

section
variable {side : PoolEnd} {l : Lane} {s t u : State}

theorem State.OneChannel.trans (h : State.OneChannel side l s t) (k : State.OneChannel side l t u) :
    State.OneChannel side l s u :=
  ⟨fun other => by rw [k.1 other, h.1 other], fun other m ne => (k.2 other m ne).trans (h.2 other m ne)⟩

theorem State.oneChannel_of_eq (h : t.samplers = s.samplers) : State.OneChannel side l s t := by
  have same (other : PoolEnd) : t.sampler other = s.sampler other := congrArg (fun e : Ends Sampler => e.get other) h
  exact ⟨fun other => by rw [same], fun other m _ => by rw [State.channel, same]; rfl⟩

theorem State.setChannel_oneChannel (s : State) (side : PoolEnd) (l : Lane) (c : Channel) :
    State.OneChannel side l s (s.setChannel side l c) := by
  refine ⟨fun other => ?_, fun other m ne => s.channel_setChannel_other c ne⟩
  by_cases e : side = other
  · subst e
    rw [s.sampler_setChannel_same]
  · rw [s.sampler_setChannel_other l c e]

end

/-! #### Zeroing a channel -/

/-- A zeroing waits for the conversion of this channel. -/
def State.zeroes (s : State) (side : PoolEnd) (l : Lane) : Bool := s.zeroing.any fun z => z.waits side l

theorem State.zeroChannel_oneChannel (s : State) (side : PoolEnd) (l : Lane) (reading : Nat) :
    State.OneChannel side l s (s.zeroChannel side l reading) := by
  unfold State.zeroChannel
  split
  · dsimp only
    split
    · split
      · next z _ _ _ =>
        exact (State.oneChannel_of_eq (s := s) rfl).trans (State.setChannel_oneChannel _ side l _)
      · exact State.oneChannel_of_eq rfl
    · exact State.oneChannel_of_eq rfl
  · exact State.oneChannel_of_eq rfl

/-- The channel after its zeroing part: the reading is its offset when a zeroing waits for it and can take it. -/
theorem State.zeroChannel_channel (s : State) (side : PoolEnd) (l : Lane) (reading : Nat) :
    (s.zeroChannel side l reading).channel side l =
      if s.zeroes side l = true ∧ (s.channel side l).zeroable reading = true then
        { s.channel side l with offset := reading }
      else s.channel side l := by
  unfold State.zeroChannel State.zeroes
  split
  · next z zeroing =>
    dsimp only
    rw [zeroing, Option.any_some]
    by_cases waits : z.waits side l = true
    · rw [if_pos waits]
      by_cases fits : (s.channel side l).zeroable reading = true
      · rw [if_pos fits, if_pos ⟨waits, fits⟩]
        exact State.channel_setChannel_same _ side l _
      · rw [if_neg fits, if_neg fun h => fits h.2]
        rfl
    · rw [if_neg waits, if_neg fun h => waits h.1]
  · next zeroing =>
    rw [zeroing, Option.any_none, if_neg fun h => nomatch h.1]

/-! #### Putting a conversion back -/

theorem State.putConversion_samplers (s : State) (side : PoolEnd) (l : Lane) (r : Conversion) :
    (s.putConversion side l r).samplers = (s.setChannel side l r.channel).samplers := by
  unfold State.putConversion
  dsimp only
  split <;> split <;> rfl

theorem State.putConversion_oneChannel (s : State) (side : PoolEnd) (l : Lane) (r : Conversion) :
    State.OneChannel side l s (s.putConversion side l r) :=
  (s.setChannel_oneChannel side l r.channel).trans (State.oneChannel_of_eq (s.putConversion_samplers side l r))

theorem State.channel_of_samplers {s t : State} (h : t.samplers = s.samplers) (side : PoolEnd) (l : Lane) :
    t.channel side l = s.channel side l := by
  rw [State.channel, State.sampler, h]
  rfl

@[simp] theorem State.putConversion_channel (s : State) (side : PoolEnd) (l : Lane) (r : Conversion) :
    (s.putConversion side l r).channel side l = r.channel :=
  (State.channel_of_samplers (s.putConversion_samplers side l r) side l).trans (s.channel_setChannel_same side l _)

/-- The channel a conversion works on: as it stands after its zeroing part. -/
def State.zeroedChannel (s : State) (side : PoolEnd) (l : Lane) (reading : Nat) : Channel :=
  if s.zeroes side l = true ∧ (s.channel side l).zeroable reading = true then
    { s.channel side l with offset := reading }
  else s.channel side l

theorem State.convertChannel_oneChannel (s : State) (side : PoolEnd) (l : Lane) (reading : Nat) :
    State.OneChannel side l s (s.convertChannel side l reading) :=
  (s.zeroChannel_oneChannel side l reading).trans (State.putConversion_oneChannel _ side l _)

/-- The channel after its conversion. -/
theorem State.convertChannel_channel (s : State) (side : PoolEnd) (l : Lane) (reading : Nat) :
    (s.convertChannel side l reading).channel side l =
      ((s.zeroedChannel side l reading).convert (s.sampler side).load (s.sampler side).release reading).channel := by
  unfold State.convertChannel
  dsimp only
  rw [State.putConversion_channel, State.zeroChannel_channel]
  rfl

theorem State.spendConversion_channel (s : State) (side other : PoolEnd) (l : Lane) :
    (s.spendConversion side).channel other l = s.channel other l := by
  cases side <;> cases other <;> rfl

theorem State.spendConversion_sampler (s : State) (side other : PoolEnd) :
    (s.spendConversion side).sampler other =
      { s.sampler other with spent := decide (other = side) || (s.sampler other).spent } := by
  cases side <;> cases other <;> simp [State.spendConversion, State.sampler, State.onSampler, Ends.get, Ends.set]

/-- A conversion that is due: one channel, and the sampler's spent flag. -/
theorem State.convert_of_due {s : State} {side : PoolEnd} {l : Lane} (due : (s.sampler side).due side = some l)
    (reading : Nat) : s.convert side reading = (s.convertChannel side l reading).spendConversion side := by
  simp only [State.convert, due]

theorem State.convert_of_idle {s : State} {side : PoolEnd} (idle : (s.sampler side).due side = none) (reading : Nat) :
    s.convert side reading = s := by
  simp only [State.convert, idle]

/-! ### Samplers keep their ranges (O58) -/

/-- A conversion changes raw and corrected value by the reading, and keeps the offset. -/
theorem Channel.convert_inRange {c : Channel} (h : c.InRange) (load release : Nat) {reading : Nat} (bound : reading ≤ 1023) :
    (c.convert load release reading).channel.InRange := by
  obtain ⟨-, -, offset, full, good⟩ := h
  have corrected : reading - c.offset ≤ 1023 := by omega
  have test (d : Channel) (k : d.InRange) : (d.testState load release).channel.InRange := by
    unfold Channel.testState
    split
    · split <;> exact k
    · exact k
  unfold Channel.convert Channel.convertFaulted Channel.convertGood
  dsimp only
  split
  · split
    · exact ⟨bound, corrected, offset, full, Nat.zero_le _⟩
    · split
      · exact ⟨bound, corrected, offset, full, Nat.zero_le _⟩
      · next few =>
        have : ¬ 9 ≤ c.goodRun := few
        exact ⟨bound, corrected, offset, full, show c.goodRun + 1 ≤ 10 by omega⟩
  · split
    · split
      · exact ⟨bound, corrected, offset, Nat.zero_le _, Nat.zero_le _⟩
      · next few =>
        have : ¬ 2 ≤ c.fullRun := few
        exact ⟨bound, corrected, offset, show c.fullRun + 1 ≤ 3 by omega, good⟩
    · exact test _ ⟨bound, corrected, offset, Nat.zero_le _, good⟩

theorem Channel.convert_offset (c : Channel) (load release reading : Nat) :
    (c.convert load release reading).channel.offset = c.offset := by
  have test (d : Channel) : (d.testState load release).channel.offset = d.offset := by
    unfold Channel.testState
    split
    · split <;> rfl
    · rfl
  unfold Channel.convert Channel.convertFaulted Channel.convertGood
  dsimp only
  split
  · split
    · rfl
    · split <;> rfl
  · split
    · split <;> rfl
    · exact test _

theorem State.samplersInRange_iff (s : State) :
    s.SamplersInRange ↔ ∀ side, 1 ≤ (s.sampler side).load ∧ (s.sampler side).load ≤ 1022 ∧ 1 ≤ (s.sampler side).release
      ∧ (s.sampler side).release ≤ (s.sampler side).load ∧ ∀ l, (s.channel side l).InRange := by
  constructor
  · rintro ⟨start, turn⟩ side
    cases side
    · exact start
    · exact turn
  · intro h
    exact ⟨h .start, h .turn⟩

section
variable {s t : State}

theorem State.samplersInRange_of_eq (same : t.samplers = s.samplers) (h : s.SamplersInRange) : t.SamplersInRange := by
  unfold State.SamplersInRange
  rwa [same]

/-- Watches are no part of the ranges. -/
theorem State.SamplersKept.inRange (k : s.SamplersKept t) (h : s.SamplersInRange) : t.SamplersInRange := by
  rw [State.samplersInRange_iff] at h ⊢
  intro side
  obtain ⟨load, most, release, below, channels⟩ := h side
  obtain ⟨sampler, channel⟩ := k side
  rw [sampler]
  refine ⟨load, most, release, below, fun l => ?_⟩
  rw [channel l]
  exact channels l

/-- The zeroing part takes a reading below full scale. -/
theorem State.zeroedChannel_inRange (side : PoolEnd) (l : Lane) (reading : Nat) (h : (s.channel side l).InRange) :
    (s.zeroedChannel side l reading).InRange := by
  unfold State.zeroedChannel
  split
  · next taken =>
    have below : reading < 1023 := by
      have fits := taken.2
      simp only [Channel.zeroable, Bool.and_eq_true, decide_eq_true_eq] at fits
      exact fits.1
    obtain ⟨raw, corrected, -, full, good⟩ := h
    exact ⟨raw, corrected, Nat.le_of_lt_succ below, full, good⟩
  · exact h

theorem State.convert_inRange (side : PoolEnd) {reading : Nat} (bound : reading ≤ 1023) (h : s.SamplersInRange) :
    (s.convert side reading).SamplersInRange := by
  cases due : (s.sampler side).due side with
  | none => rwa [State.convert_of_idle due]
  | some l =>
    rw [State.convert_of_due due]
    rw [State.samplersInRange_iff] at h ⊢
    obtain ⟨samplers, others⟩ := s.convertChannel_oneChannel side l reading
    intro other
    obtain ⟨load, most, release, below, channels⟩ := h other
    rw [State.spendConversion_sampler, samplers other]
    refine ⟨load, most, release, below, fun m => ?_⟩
    rw [State.spendConversion_channel]
    by_cases here : other = side ∧ m = l
    · obtain ⟨rfl, rfl⟩ := here
      rw [State.convertChannel_channel]
      exact Channel.convert_inRange (State.zeroedChannel_inRange _ _ _ (channels m)) _ _ bound
    · rw [others other m here]
      exact channels m

theorem State.sampler_onSampler_same (s : State) (side : PoolEnd) (f : Sampler → Sampler) :
    (s.onSampler side f).sampler side = f (s.sampler side) := by
  cases side <;> rfl

theorem State.sampler_onSampler_other (s : State) {side other : PoolEnd} (f : Sampler → Sampler) (h : side ≠ other) :
    (s.onSampler side f).sampler other = s.sampler other := by
  cases side <;> cases other
  · exact absurd rfl h
  · rfl
  · rfl
  · exact absurd rfl h

theorem State.sampler_inRange (h : s.SamplersInRange) (side : PoolEnd) : (s.sampler side).InRange := by
  cases side
  · exact h.1
  · exact h.2

/-- A change of one sampler that keeps its ranges. -/
theorem State.onSampler_inRange (h : s.SamplersInRange) {side : PoolEnd} {f : Sampler → Sampler}
    (keeps : (f (s.sampler side)).InRange) : (s.onSampler side f).SamplersInRange := by
  obtain ⟨start, turn⟩ := h
  cases side
  · exact ⟨keeps, turn⟩
  · exact ⟨start, keeps⟩

theorem limitsOf_load_le (payload : Payload) : (limitsOf payload).1 ≤ 1022 := by
  have := limitsOf_load payload
  split at this
  · omega
  · split at this <;> omega

theorem limitsOf_release_bounds (payload : Payload) : 1 ≤ (limitsOf payload).2 ∧ (limitsOf payload).2 ≤ (limitsOf payload).1 := by
  have pos := limitsOf_load_pos payload
  have := limitsOf_release payload
  split at this
  · omega
  · split at this <;> omega

theorem State.platformLimits_inRange (payload : Payload) (h : s.SamplersInRange) :
    (s.platformLimits payload).SamplersInRange := by
  unfold State.platformLimits
  split
  · next side _ =>
    obtain ⟨-, -, -, -, channels⟩ := State.sampler_inRange h side
    have set : (s.onSampler side fun m =>
        { m with load := (limitsOf payload).1, release := (limitsOf payload).2 }).SamplersInRange :=
      State.onSampler_inRange h ⟨limitsOf_load_pos payload, limitsOf_load_le payload, (limitsOf_release_bounds payload).1,
        (limitsOf_release_bounds payload).2, channels⟩
    exact set
  · exact h

theorem Sampler.mapChannels_getElem (m : Sampler) (f : Channel → Channel) (l : Lane) :
    (m.mapChannels f).channels[l] = f m.channels[l] := by
  simp [Sampler.mapChannels]

/-- What an enable does to the samplers. -/
theorem State.setSampler_samplers (s : State) (side : PoolEnd) (enabled : Bool) :
    (s.setSampler side enabled).samplers = s.samplers
      ∨ (s.setSampler side enabled).samplers
          = (s.onSampler side fun m => { m.mapChannels Channel.disabled with enabled := false }).samplers
      ∨ (s.setSampler side enabled).samplers = (s.onSampler side fun m => { m with enabled := true, spent := true }).samplers := by
  unfold State.setSampler
  dsimp only
  split
  · exact .inr (.inl (State.reportAll_frame _ _).samplers)
  · exact .inr (.inr rfl)
  · exact .inl rfl

theorem State.setSampler_inRange (side : PoolEnd) (enabled : Bool) (h : s.SamplersInRange) :
    (s.setSampler side enabled).SamplersInRange := by
  obtain ⟨load, most, release, below, channels⟩ := State.sampler_inRange h side
  obtain same | off | on := s.setSampler_samplers side enabled
  · exact State.samplersInRange_of_eq same h
  · refine State.samplersInRange_of_eq off (State.onSampler_inRange h ⟨load, most, release, below, fun l => ?_⟩)
    obtain ⟨-, -, offset, -, -⟩ := channels l
    have disabled := (s.sampler side).mapChannels_getElem Channel.disabled l
    show ((s.sampler side).mapChannels Channel.disabled).channels[l].InRange
    rw [disabled]
    exact ⟨Nat.zero_le _, Nat.zero_le _, offset, Nat.zero_le _, Nat.zero_le _⟩
  · exact State.samplersInRange_of_eq on (State.onSampler_inRange h ⟨load, most, release, below, channels⟩)

theorem Sampler.reset_inRange : Sampler.reset.InRange := by
  refine ⟨by decide, by decide, by decide, by decide, fun l => ?_⟩
  simp [Sampler.reset, Channel.reset, Channel.InRange]

theorem Sampler.controllerReset_channel (m : Sampler) (l : Lane) :
    m.controllerReset.channels[l] = { Channel.reset with offset := m.channels[l].offset } := by
  simp [Sampler.controllerReset, Channel.controllerReset]

theorem Sampler.controllerReset_inRange {m : Sampler} (h : m.InRange) : m.controllerReset.InRange := by
  obtain ⟨load, most, release, below, channels⟩ := h
  refine ⟨load, most, release, below, fun l => ?_⟩
  obtain ⟨-, -, offset, -, -⟩ := channels l
  rw [Sampler.controllerReset_channel]
  exact ⟨Nat.zero_le _, Nat.zero_le _, offset, Nat.zero_le _, Nat.zero_le _⟩

end

/-- What any row but those of a sampler's own work and the resets does to the samplers: watches at most. -/
theorem exec_samplersKept {i : Instr} {s t : State} (ran : exec i s = .next t) (noReset : isReset i = false)
    (noSampling : worksOnSampler i = false) : s.SamplersKept t := by
  by_cases row : changesRace i = true
  · obtain ⟨f, _, rfl | rfl⟩ := exec_raceWork ran row noReset
    · exact .of_eq rfl
    · exact (raceWork_contained i (s.onLink f)).samplers
  · exact .of_eq ((exec_aside ran (Bool.eq_false_iff.2 row)).samplers noSampling)

/-- What a row of a sampler's own work does to the samplers. -/
theorem exec_sampling {i : Instr} {s t : State} (ran : exec i s = .next t) (sampling : worksOnSampler i = true) :
    t.samplers = s.samplers
      ∨ (∃ side reading, i = .platformConversion side reading ∧ t = s.convert side reading.val)
      ∨ (∃ payload, ∃ u : State, u.samplers = s.samplers ∧ i = .platformLimits payload ∧ t = u.platformLimits payload)
      ∨ ∃ payload, ∃ u : State, u.samplers = s.samplers ∧ i = .samplerSet payload ∧ t = u.samplerSet payload := by
  cases i with
  | platformConversion side reading =>
    cases ran
    unfold State.unlessHeld
    split
    · exact .inl rfl
    · exact .inr (.inl ⟨side, reading, rfl, rfl⟩)
  | platformLimits payload =>
    cases ran
    obtain same | refused | owned := s.take_cases kindPlatformLimits payload (State.platformLimits payload)
    · exact .inl (congrArg State.samplers same)
    · exact .inl ((congrArg State.samplers refused).trans rfl)
    · exact .inr (.inr (.inl ⟨payload, s.dropInbound, rfl, rfl, owned⟩))
  | samplerSet payload =>
    cases ran
    obtain same | refused | owned := s.take_cases kindSamplerSet payload (State.samplerSet payload)
    · exact .inl (congrArg State.samplers same)
    · exact .inl ((congrArg State.samplers refused).trans rfl)
    · exact .inr (.inr (.inr ⟨payload, s.dropInbound, rfl, rfl, owned⟩))
  | _ => cases sampling

/-- The samplers after SAMPLER_SET. -/
theorem State.samplerSet_samplers (payload : Payload) (s : State) :
    (s.samplerSet payload).samplers = s.samplers
      ∨ ∃ side enabled, (s.samplerSet payload).samplers = (s.setSampler side enabled).samplers := by
  unfold State.samplerSet
  split
  · exact .inr ⟨_, _, rfl⟩
  · exact .inl rfl

theorem exec_inRange {i : Instr} {s t : State} (h : s.SamplersInRange) (ran : exec i s = .next t) : t.SamplersInRange := by
  by_cases reset : isReset i = true
  · obtain rfl | rfl | rfl | rfl := exec_reset ran reset
    · exact h
    · exact ⟨Sampler.reset_inRange, Sampler.reset_inRange⟩
    · exact ⟨Sampler.reset_inRange, Sampler.reset_inRange⟩
    · exact ⟨Sampler.controllerReset_inRange h.1, Sampler.controllerReset_inRange h.2⟩
  · by_cases sampling : worksOnSampler i = true
    · obtain same | ⟨side, reading, -, rfl⟩ | ⟨payload, u, same, -, rfl⟩ | ⟨payload, u, same, -, rfl⟩ :=
        exec_sampling ran sampling
      · exact State.samplersInRange_of_eq same h
      · exact State.convert_inRange side (Nat.le_of_lt_succ reading.isLt) h
      · exact State.platformLimits_inRange payload (State.samplersInRange_of_eq same h)
      · have range := State.samplersInRange_of_eq same h
        obtain kept | ⟨side, enabled, set⟩ := u.samplerSet_samplers payload
        · exact State.samplersInRange_of_eq kept range
        · exact State.samplersInRange_of_eq set (State.setSampler_inRange side enabled range)
    · exact (exec_samplersKept ran (Bool.eq_false_iff.2 reset) (Bool.eq_false_iff.2 sampling)).inRange h

/-! #### The rotations -/

/-- A row but a reset keeps the rotation position of each sampler. -/
theorem exec_rotation {i : Instr} {s t : State} (ran : exec i s = .next t) (noReset : isReset i = false) (side : PoolEnd) :
    (t.sampler side).rotation = (s.sampler side).rotation := by
  have of_samplers {u v : State} (same : v.samplers = u.samplers) : (v.sampler side).rotation = (u.sampler side).rotation := by
    rw [State.sampler, same]
    rfl
  by_cases sampling : worksOnSampler i = true
  · obtain same | ⟨place, reading, -, rfl⟩ | ⟨payload, u, same, -, rfl⟩ | ⟨payload, u, same, -, rfl⟩ :=
      exec_sampling ran sampling
    · exact of_samplers same
    · cases due : (s.sampler place).due place with
      | none => rw [State.convert_of_idle due]
      | some l =>
        rw [State.convert_of_due due, State.spendConversion_sampler,
          (s.convertChannel_oneChannel place l reading.val).1 side]
    · refine Eq.trans ?_ (of_samplers same)
      unfold State.platformLimits
      split
      · next place _ => cases place <;> cases side <;> rfl
      · rfl
    · refine Eq.trans ?_ (of_samplers same)
      obtain kept | ⟨place, enabled, set⟩ := u.samplerSet_samplers payload
      · exact of_samplers kept
      · refine (of_samplers set).trans ?_
        obtain same | off | on := u.setSampler_samplers place enabled
        · exact of_samplers same
        · exact (of_samplers off).trans (by cases place <;> cases side <;> rfl)
        · exact (of_samplers on).trans (by cases place <;> cases side <;> rfl)
  · have kept := exec_samplersKept ran noReset (Bool.eq_false_iff.2 sampling)
    rw [(kept side).1]

theorem exec_rotations {i : Instr} {s t : State} (h : (s.sampler .start).rotation = (s.sampler .turn).rotation)
    (ran : exec i s = .next t) : (t.sampler .start).rotation = (t.sampler .turn).rotation := by
  by_cases reset : isReset i = true
  · obtain rfl | rfl | rfl | rfl := exec_reset ran reset
    · exact h
    · rfl
    · rfl
    · rfl
  · have free := Bool.eq_false_iff.2 reset
    rw [exec_rotation ran free, exec_rotation ran free, h]

/-! #### The offsets -/

/-- A conversion changes an offset during a zeroing alone, to its reading below full scale. -/
theorem State.convert_offset (s : State) (place : PoolEnd) (reading : Nat) (side : PoolEnd) (l : Lane) :
    ((s.convert place reading).channel side l).offset = (s.channel side l).offset
      ∨ side = place ∧ s.zeroing ≠ none ∧ ((s.convert place reading).channel side l).offset = reading ∧ reading < 1023 := by
  cases due : (s.sampler place).due place with
  | none => exact .inl (by rw [State.convert_of_idle due])
  | some m =>
    rw [State.convert_of_due due, State.spendConversion_channel]
    by_cases here : side = place ∧ l = m
    · obtain ⟨rfl, rfl⟩ := here
      rw [State.convertChannel_channel, Channel.convert_offset, State.zeroedChannel]
      split
      · next taken =>
        obtain ⟨zeroes, fits⟩ := taken
        refine .inr ⟨rfl, fun none => ?_, rfl, ?_⟩
        · rw [State.zeroes, none] at zeroes
          cases zeroes
        · simp only [Channel.zeroable, Bool.and_eq_true, decide_eq_true_eq] at fits
          exact fits.1
      · exact .inl rfl
    · rw [(s.convertChannel_oneChannel place m reading).2 side l here]
      exact .inl rfl

theorem State.afterControllerReset_offset (s : State) (side : PoolEnd) (l : Lane) :
    (s.afterControllerReset.channel side l).offset = (s.channel side l).offset := by
  rw [State.channel, State.afterControllerReset_sampler, Sampler.controllerReset_channel]
  rfl

theorem State.afterReset_offset (s : State) (side : PoolEnd) (l : Lane) : (s.afterReset.channel side l).offset = 0 := by
  rw [State.channel, State.afterReset_sampler]
  simp [Sampler.reset, Channel.reset]

/-- A reset clears every offset, CONTROLLER_RESET none. -/
theorem reset_offset {i : Instr} {s t : State} (ran : exec i s = .next t) (reset : isReset i = true) (side : PoolEnd)
    (l : Lane) : (t.channel side l).offset = (s.channel side l).offset
      ∨ (t.channel side l).offset = 0 ∧ (i = .powerOn ∨ i = .resetLineAssert ∨ i = .resetLineRelease) := by
  cases i with
  | powerOn =>
    cases ran
    exact .inr ⟨s.afterReset_offset side l, .inl rfl⟩
  | resetLineAssert =>
    cases ran
    exact .inr ⟨s.afterReset_offset side l, .inr (.inl rfl)⟩
  | resetLineRelease =>
    cases ran
    exact .inr ⟨s.afterReset_offset side l, .inr (.inr rfl)⟩
  | controllerResetTakesEffect =>
    obtain e | e := exec_controllerResetTakesEffect_cases s <;> rw [e] at ran <;> cases ran
    · exact .inl (s.afterControllerReset_offset side l)
    · exact .inl rfl
  | _ => cases reset

/-- A row keeps every offset, but for a conversion during a zeroing and the resets. -/
theorem exec_offset {i : Instr} {s t : State} (ran : exec i s = .next t) (noReset : isReset i = false) (side : PoolEnd)
    (l : Lane) : (t.channel side l).offset = (s.channel side l).offset
      ∨ ∃ reading, i = .platformConversion side reading ∧ s.zeroing ≠ none
          ∧ (t.channel side l).offset = reading.val ∧ reading.val < 1023 := by
  have of_samplers {u v : State} (same : v.samplers = u.samplers) : (v.channel side l).offset = (u.channel side l).offset := by
    rw [State.channel_of_samplers same]
  by_cases sampling : worksOnSampler i = true
  · obtain same | ⟨place, reading, rfl, rfl⟩ | ⟨payload, u, same, -, rfl⟩ | ⟨payload, u, same, -, rfl⟩ :=
      exec_sampling ran sampling
    · exact .inl (of_samplers same)
    · obtain kept | ⟨rfl, zeroing, taken, below⟩ := s.convert_offset place reading.val side l
      · exact .inl kept
      · exact .inr ⟨reading, rfl, zeroing, taken, below⟩
    · refine .inl (Eq.trans ?_ (of_samplers same))
      unfold State.platformLimits
      split
      · next place _ => cases place <;> cases side <;> rfl
      · rfl
    · refine .inl (Eq.trans ?_ (of_samplers same))
      obtain kept | ⟨place, enabled, set⟩ := u.samplerSet_samplers payload
      · exact of_samplers kept
      · refine (of_samplers set).trans ?_
        obtain same | off | on := u.setSampler_samplers place enabled
        · exact of_samplers same
        · refine (of_samplers off).trans ?_
          by_cases here : place = side
          · subst here
            rw [State.channel, State.sampler_onSampler_same]
            exact (congrArg Channel.offset ((u.sampler place).mapChannels_getElem Channel.disabled l)).trans rfl
          · rw [State.channel, State.sampler_onSampler_other _ _ here]
            rfl
        · exact (of_samplers on).trans (by cases place <;> cases side <;> rfl)
  · have kept := exec_samplersKept ran noReset (Bool.eq_false_iff.2 sampling)
    exact .inl (by rw [(kept side).2 l])

/-! #### The obligation -/

/-- A count moves both rotations on together and no value of a channel. -/
theorem State.tick_inRange {s : State} (h : s.SamplersInRange) : s.tick.SamplersInRange := by
  unfold State.SamplersInRange
  rw [State.tick_samplers]
  exact h

theorem State.tick_rotations {s : State} (h : (s.sampler .start).rotation = (s.sampler .turn).rotation) :
    (s.tick.sampler .start).rotation = (s.tick.sampler .turn).rotation := by
  rw [State.sampler, State.sampler, State.tick_samplers]
  exact congrArg (· + 1) h

theorem step_inRange {s t : State} (h : s.SamplersInRange) (ran : step s = .next t) : t.SamplersInRange := by
  obtain ⟨_, rfl⟩ | ⟨i, rest, _, ran⟩ := step_cases ran
  · obtain ⟨_, idle⟩ | ⟨_, _, idle⟩ | ⟨_, _, idle⟩ := s.idle_cases <;> rw [idle]
    · exact h
    · exact h
    · exact State.tick_inRange h
  · exact exec_inRange (s := { s with pending := rest }) h ran

theorem step_rotations {s t : State} (h : (s.sampler .start).rotation = (s.sampler .turn).rotation)
    (ran : step s = .next t) : (t.sampler .start).rotation = (t.sampler .turn).rotation := by
  obtain ⟨_, rfl⟩ | ⟨i, rest, _, ran⟩ := step_cases ran
  · obtain ⟨_, idle⟩ | ⟨_, _, idle⟩ | ⟨_, _, idle⟩ := s.idle_cases <;> rw [idle]
    · exact h
    · exact h
    · exact State.tick_rotations h
  · exact exec_rotations (s := { s with pending := rest }) h ran

/-- Settles O58: ranges and rotations are kept by every step, and offsets by every row but a conversion during a zeroing and
the resets. -/
theorem samplerRangesAreKept : Obligations.SamplerRangesAreKept := by
  unfold Obligations.SamplerRangesAreKept
  refine ⟨fun _ _ h ran => step_inRange h ran, ⟨fun _ _ h ran => step_rotations h ran, by decide⟩, ?_⟩
  intro i s t side l ran
  by_cases reset : isReset i = true
  · exact (reset_offset ran reset side l).imp_right .inl
  · exact (exec_offset ran (Bool.eq_false_iff.2 reset) side l).imp_right .inr

end Sys2Proof.Machine


/-! ### The step, the resets and the checks of the Console Link (chapters 03, 11)

A row is a command that a frame carries or an event. `exec_command` and `exec_event` say once that a command goes through
`State.take` and an event through `State.unlessHeld`. -/

namespace Sys2Proof.Machine

/-! ### Commands and events -/

/-- A command whose kind 11.6 lists is taken and carried out by its owner. -/
theorem exec_command {i : Instr} {f : Frame} (framed : frameOf i = some f)
    (known : ∀ kind payload, i ≠ .unknownKind kind payload) :
    ∃ owner, ∀ s, exec i s = .next (s.take f.kind f.payload owner) := by
  cases i <;> cases framed
  case unknownKind kind payload => exact absurd rfl (known kind payload)
  all_goals exact ⟨_, fun s => rfl⟩

/-- An event other than a reset does its work unless the reset line is held. -/
theorem exec_event {i : Instr} (event : frameOf i = none) (powerOn : i ≠ .powerOn) (assert : i ≠ .resetLineAssert)
    (release : i ≠ .resetLineRelease) : ∃ work, ∀ s, exec i s = .next (s.unlessHeld work) := by
  cases i <;> cases event
  case powerOn => exact absurd rfl powerOn
  case resetLineAssert => exact absurd rfl assert
  case resetLineRelease => exact absurd rfl release
  case prestartClockLimit =>
    refine ⟨id, fun s => ?_⟩
    have same : s.unlessHeld id = s := ite_self s
    rw [same]
    rfl
  all_goals exact ⟨_, fun s => rfl⟩

/-- A command that the link cannot take changes nothing. -/
theorem exec_of_not_takes {s : State} {i : Instr} {f : Frame} (framed : frameOf i = some f) (waits : ¬ s.Takes f) :
    exec i s = .next s := by
  by_cases unknown : ∃ kind payload, i = .unknownKind kind payload
  · obtain ⟨kind, payload, rfl⟩ := unknown
    cases framed
    have closed : s.canTake ⟨kind, payload⟩ = false := by rwa [← Bool.not_eq_true, State.canTake_iff]
    change Host.Outcome.next (if s.canTake ⟨kind, payload⟩ = true ∧ _ then _ else s) = _
    rw [if_neg (fun taken => by simp [closed] at taken)]
  · obtain ⟨owner, ran⟩ := exec_command framed fun kind payload same => unknown ⟨kind, payload, same⟩
    rw [ran, State.take_of_not_takes owner waits]

/-! ### The obligations -/

/-- Settles O1, by the definition of the step. -/
theorem stepRunsFront : Obligations.StepRunsFront := by
  intro s i rest front
  rw [step, front]

/-- Settles O4: each reset row is the power-on state with the queue kept. -/
theorem powerOnAndResetLine : Obligations.PowerOnAndResetLine :=
  fun s => ⟨rfl, rfl, { s.afterReset with resetHeld := true }, rfl, rfl, fun _ _ => rfl, rfl⟩

/-- Settles O5: no command is taken and no event happens while the reset line is held. -/
theorem resetLineHeldTakesNothing : Obligations.ResetLineHeldTakesNothing := by
  intro s i held powerOn assert release
  cases framed : frameOf i with
  | some f => exact exec_of_not_takes framed fun ⟨free, _⟩ => by simp [held] at free
  | none =>
    obtain ⟨work, ran⟩ := exec_event framed powerOn assert release
    rw [ran, State.unlessHeld_of_held work held]

/-- Settles O6: the reply waits in the slot, and the reset keeps speed, enables, thresholds and offsets. -/
theorem controllerResetInTwoSteps : Obligations.ControllerResetInTwoSteps := by
  refine ⟨fun s taken => ?_, fun s free due effect => ?_, fun s early => ?_⟩
  · exact congrArg Host.Outcome.next (State.take_owner _ taken rfl)
  · refine ⟨s.afterControllerReset, ?_, rfl, fun side => ?_⟩
    · change Host.Outcome.next (s.unlessHeld _) = _
      rw [State.unlessHeld_of_free _ free, if_pos ⟨due, effect⟩]
    · rw [State.afterControllerReset_sampler]
      refine ⟨rfl, rfl, rfl, rfl, rfl, fun l => ?_⟩
      unfold State.channel
      rw [State.afterControllerReset_sampler]
      exact Sampler.controllerReset_channel _ l
  · change Host.Outcome.next (if s.resetHeld then s else if _ then _ else s) = _
    rw [if_neg early, ite_self]

/-- Settles O9: the link looks at kind and length before it hands a command to its owner. -/
theorem linkChecksComeFirst : Obligations.LinkChecksComeFirst := by
  refine ⟨⟨fun s kind payload taken unknown => ?_, fun s i f n known framed taken length misfit => ?_⟩,
    fun s i f => exec_of_not_takes⟩
  · change Host.Outcome.next (if s.canTake ⟨kind, payload⟩ = true ∧ _ then _ else s) = _
    rw [if_pos ⟨(State.canTake_iff s _).2 taken, by rw [unknown]; rfl⟩]
    rfl
  · obtain ⟨owner, ran⟩ := exec_command framed known
    have wrong : payloadLength f.kind f.payload ≠ some f.payload.length := by
      rw [length]
      exact fun same => misfit (Option.some.inj same)
    rw [ran, State.take_badLength owner taken wrong, State.dropInbound_answer]
    rfl

/-- Settles O14: the data are read before the summary set is cleared. -/
theorem statusIsReported : Obligations.StatusIsReported :=
  fun _ taken => congrArg Host.Outcome.next (State.take_owner _ taken rfl)

end Sys2Proof.Machine


/-! ### Frames received (11.2, R177, R178) -/

namespace Sys2Proof.Machine

/-- FRAME_RECEIVED with the reset line free: the receiver takes the bytes. -/
theorem exec_frameReceived {s : State} (free : s.resetHeld = false) (bytes : List Byte) :
    exec (.frameReceived bytes) s = .next { s with link := s.link.receive bytes } :=
  congrArg Host.Outcome.next (State.unlessHeld_of_free _ free)

/-! ### The receiver -/

section
variable (k : Link)

theorem Link.receive_append (front back : List Byte) : k.receive (front ++ back) = (k.receive front).receive back :=
  List.foldl_append

/-- A receiver in a frame does not look at the gap so far (R177). -/
theorem Link.receive_gap (bytes : List Byte) (gap other : Nat) {back : List Byte} (some : back ≠ []) :
    ({ k with rx := .inFrame bytes gap } : Link).receive back = ({ k with rx := .inFrame bytes other } : Link).receive back := by
  cases back with
  | nil => exact absurd rfl some
  | cons b rest =>
    have first : ({ k with rx := .inFrame bytes gap } : Link).receiveByte b =
        ({ k with rx := .inFrame bytes other } : Link).receiveByte b := by cases bytes <;> rfl
    exact congrArg (fun j : Link => j.receive rest) first

/-- A hunting receiver skips every byte but the sync byte. -/
theorem Link.receive_noise {noise : List Byte} (hunting : k.rx = .hunting) (silent : ∀ b ∈ noise, b ≠ 0xA5) :
    k.receive noise = k := by
  induction noise with
  | nil => rfl
  | cons b rest ih =>
    have skipped : k.receiveByte b = k := by
      have other : b ≠ syncByte := silent b (List.mem_cons_self ..)
      simp [Link.receiveByte, hunting, other]
    have stays : k.receive rest = k := ih fun c later => silent c (List.mem_cons_of_mem _ later)
    change (k.receiveByte b).receive rest = k
    rw [skipped, stays]

theorem Link.receive_sync (hunting : k.rx = .hunting) : k.receive [0xA5] = { k with rx := .inFrame [] 0 } := by
  change k.receiveByte 0xA5 = _
  simp [Link.receiveByte, hunting, syncByte]

/-- A length byte from 1 to 250 begins the frame. -/
theorem Link.receiveByte_length {length : Byte} (gap : Nat) (pos : length ≠ 0) (fits : length.toNat ≤ 250) :
    ({ k with rx := .inFrame [] gap } : Link).receiveByte length = { k with rx := .inFrame [length] 0 } := by
  have legal : ¬ (length = 0 ∨ maxFrameLength < length.toNat) := by
    rintro (zero | long)
    · exact pos zero
    · exact absurd fits (Nat.not_le.2 long)
  exact if_neg legal

/-- While kind and payload are not whole the receiver gathers. -/
theorem Link.receive_gathered {length : Byte} (bytes gathered : List Byte)
    (fits : gathered.length + bytes.length ≤ length.toNat) :
    ({ k with rx := .inFrame (length :: gathered) 0 } : Link).receive bytes =
      { k with rx := .inFrame (length :: gathered ++ bytes) 0 } := by
  induction bytes generalizing gathered with
  | nil => rw [List.append_nil]; rfl
  | cons b rest ih =>
    rw [List.length_cons] at fits
    have room : (gathered ++ [b]).length ≤ length.toNat := by rw [List.length_append, List.length_singleton]; omega
    have gathers : ({ k with rx := .inFrame (length :: gathered) 0 } : Link).receiveByte b =
        { k with rx := .inFrame (length :: (gathered ++ [b])) 0 } := if_pos room
    have rest' := ih (gathered ++ [b]) (by rw [List.length_append, List.length_singleton]; omega)
    change (Link.receiveByte _ b).receive rest = _
    rw [gathers, rest']
    simp

/-- The byte after kind and payload completes the frame. -/
theorem Link.receiveByte_last {length : Byte} {gathered : List Byte} (check : Byte) (whole : gathered.length = length.toNat) :
    ({ k with rx := .inFrame (length :: gathered) 0 } : Link).receiveByte check =
      ({ k with rx := .inFrame (length :: gathered) 0 } : Link).completeFrame length (gathered ++ [check]) := by
  have over' : ¬ (gathered ++ [check]).length ≤ length.toNat := by
    rw [List.length_append, List.length_singleton]
    omega
  exact if_neg over'

end

/-! ### A whole frame -/

section
variable (kind : Byte) (payload : Payload)

/-- The length byte of a payload that fits the line. -/
theorem lengthByte_of_fits {payload : Payload} (fits : payload.length ≤ 249) :
    lengthByte (payload.length + 1) = BitVec.ofNat 8 (payload.length + 1)
      ∧ (BitVec.ofNat 8 (payload.length + 1)).toNat = payload.length + 1 := by
  refine ⟨if_pos (show payload.length + 1 ≤ 250 by omega), ?_⟩
  rw [BitVec.toNat_ofNat]
  omega

/-- What a hunting receiver makes of sync, length, kind, payload and a check byte. -/
theorem Link.receive_frame (k : Link) (hunting : k.rx = .hunting) {payload : Payload} (fits : payload.length ≤ 249)
    (check : Byte) :
    k.receive (0xA5 :: BitVec.ofNat 8 (payload.length + 1) :: kind :: payload ++ [check]) =
      if (BitVec.ofNat 8 (payload.length + 1) :: kind :: payload ++ [check]).sum = 0 then k.handOn ⟨kind, payload⟩
      else k.failCheck := by
  obtain ⟨-, length⟩ := lengthByte_of_fits fits
  have pos : BitVec.ofNat 8 (payload.length + 1) ≠ 0 := by
    intro zero
    rw [zero] at length
    simp at length
  generalize BitVec.ofNat 8 (payload.length + 1) = n at length pos ⊢
  have begun : k.receive [0xA5, n] = { k with rx := .inFrame [n] 0 } := by
    have parts : k.receive [0xA5, n] = (k.receive [0xA5]).receiveByte n := rfl
    rw [parts, k.receive_sync hunting, Link.receiveByte_length k 0 pos (by omega)]
  have gathered : k.receive ([0xA5, n] ++ kind :: payload) = { k with rx := .inFrame (n :: kind :: payload) 0 } := by
    rw [Link.receive_append, begun, Link.receive_gathered k (kind :: payload) [] (by simp; omega)]
    rfl
  have whole : k.receive (0xA5 :: n :: kind :: payload ++ [check]) =
      ({ k with rx := .inFrame (n :: kind :: payload) 0 } : Link).completeFrame n (kind :: payload ++ [check]) := by
    change k.receive (([0xA5, n] ++ kind :: payload) ++ [check]) = _
    rw [Link.receive_append, gathered]
    exact Link.receiveByte_last k check (by simp; omega)
  have stays : ({ k with rx := .hunting } : Link) = k := by rw [← hunting]
  rw [whole]
  simp only [Link.completeFrame, List.cons_append, List.dropLast_append_cons, List.dropLast_singleton, List.append_nil]
  rw [stays]
  rfl

/-- A frame with its own check byte is handed on. -/
theorem Link.receive_frameBytes (k : Link) (hunting : k.rx = .hunting) {payload : Payload} (fits : payload.length ≤ 249) :
    k.receive (frameBytes kind payload) = k.handOn ⟨kind, payload⟩ := by
  obtain ⟨length, -⟩ := lengthByte_of_fits fits
  have spelled : frameBytes kind payload =
      0xA5 :: BitVec.ofNat 8 (payload.length + 1) :: kind :: payload
        ++ [checkByte (BitVec.ofNat 8 (payload.length + 1) :: kind :: payload)] := by
    rw [frameBytes, length]
    rfl
  rw [spelled, Link.receive_frame kind k hunting fits, if_pos]
  rw [List.sum_append, List.sum_singleton, checkByte, zero_sub, add_neg_cancel]

/-- A frame cut in two is received as one. -/
theorem Link.receive_front (k : Link) (hunting : k.rx = .hunting) {payload : Payload} (fits : payload.length ≤ 249)
    {front back : List Byte} (cut : frameBytes kind payload = front ++ back) (begun : front ≠ []) (more : back ≠ []) :
    k.receive front = { k with rx := .inFrame front.tail 0 } := by
  obtain ⟨length, value⟩ := lengthByte_of_fits fits
  have pos : BitVec.ofNat 8 (payload.length + 1) ≠ 0 := by
    intro zero
    rw [zero] at value
    simp at value
  rw [frameBytes, length] at cut
  cases front with
  | nil => exact absurd rfl begun
  | cons sync rest =>
    obtain ⟨first, cut⟩ := List.cons.inj cut
    rw [← first]
    change (k.receive [0xA5]).receive rest = { k with rx := .inFrame rest 0 }
    rw [k.receive_sync hunting]
    cases rest with
    | nil => rfl
    | cons n rest =>
      obtain ⟨rfl, cut⟩ := List.cons.inj cut
      change (Link.receiveByte _ _).receive rest = _
      rw [Link.receiveByte_length k 0 pos (by omega)]
      have short : rest.length ≤ payload.length + 1 := by
        have total := congrArg List.length cut
        have left := List.length_pos_iff.2 more
        simp at total
        omega
      rw [Link.receive_gathered k rest [] (by simp; omega)]
      rfl

end

/-! ### Handing on and counting -/

theorem countUp_of_lt {n : Nat} (below : n < 65535) : countUp n = n + 1 := if_pos below

theorem countUp_max : countUp 65535 = 65535 := rfl

theorem Link.handOn_of_room {k : Link} (f : Frame) (room : k.inbound.length < 2) :
    k.handOn f = { k with inbound := k.inbound ++ [f] } := if_pos room

theorem Link.handOn_of_full {k : Link} (f : Frame) (full : 2 ≤ k.inbound.length) :
    k.handOn f = { k with overrunCount := countUp k.overrunCount } := if_neg (Nat.not_lt.2 full)

theorem Link.failCheck_of_hunting {k : Link} (hunting : k.rx = .hunting) (below : k.checkFail < 65535) :
    k.failCheck = { k with checkFail := k.checkFail + 1 } := by
  rw [Link.failCheck, countUp_of_lt below, ← hunting]

/-! ### The obligations -/

/-- Settles O7, from `Link.receive_frameBytes`, `Link.receive_front` and `Link.receive_gap`. -/
theorem frameRoundTrip : Obligations.FrameRoundTrip := by
  refine ⟨fun s kind payload free hunting fits => ⟨fun room => ?_, fun full below => ?_, fun full most => ?_,
    fun front back gap cut begun more => ⟨?_, ?_⟩⟩, fun s noise bytes free hunting silent => ⟨?_, ?_⟩⟩
  · rw [exec_frameReceived free, Link.receive_frameBytes kind _ hunting fits, Link.handOn_of_room _ room]
  · rw [exec_frameReceived free, Link.receive_frameBytes kind _ hunting fits, Link.handOn_of_full _ full,
      countUp_of_lt below]
  · rw [exec_frameReceived free, Link.receive_frameBytes kind _ hunting fits, Link.handOn_of_full _ full,
      most, countUp_max, ← most]
  · rw [exec_frameReceived free, Link.receive_front kind _ hunting fits cut begun more]
  · have held : ({ s with link := { s.link with rx := .inFrame front.tail gap } } : State).resetHeld = false := free
    rw [exec_frameReceived free, cut, exec_frameReceived held, Link.receive_append,
      Link.receive_front kind _ hunting fits cut begun more, Link.receive_gap _ _ 0 gap more]
  · rw [exec_frameReceived free, Link.receive_noise _ hunting silent]
  · rw [exec_frameReceived free, exec_frameReceived free, Link.receive_append, Link.receive_noise _ hunting silent]

/-- FRAME_GAP_TIMEOUT before 20 ms have passed, or without a frame, is no event. -/
theorem exec_frameGapTimeout_early {s : State} (early : s.link.rx.gapOver = false) :
    exec .frameGapTimeout s = .next s := by
  change Host.Outcome.next (if s.resetHeld then s else if s.link.rx.gapOver then _ else s) = _
  rw [early]
  simp

/-- Settles O8: each damaged frame ends in `Link.failCheck`, which counts and hunts. -/
theorem damagedFrameDiscarded : Obligations.DamagedFrameDiscarded := by
  refine ⟨fun s kind check payload free hunting fits below wrong => ?_, fun s length free hunting below illegal => ?_,
    fun s bytes gap free gathering long below => ?_, fun s early => ?_, fun k most => ?_⟩
  · have sum : (BitVec.ofNat 8 (payload.length + 1) :: kind :: payload ++ [check]).sum ≠ 0 := by
      rw [List.sum_append, List.sum_singleton]
      intro zero
      exact wrong (by rw [checkByte, zero_sub]; exact (neg_eq_of_add_eq_zero_right zero).symm)
    rw [exec_frameReceived free, Link.receive_frame kind _ hunting fits, if_neg sum,
      Link.failCheck_of_hunting hunting below]
  · have parts : s.link.receive [0xA5, length] = (s.link.receive [0xA5]).receiveByte length := rfl
    have failed : ({ s.link with rx := .inFrame [] 0 } : Link).receiveByte length =
        ({ s.link with rx := .inFrame [] 0 } : Link).failCheck := if_pos illegal
    have same : ({ s.link with rx := .inFrame [] 0 } : Link).failCheck = s.link.failCheck := rfl
    rw [exec_frameReceived free, parts, s.link.receive_sync hunting, failed, same,
      Link.failCheck_of_hunting hunting below]
  · change Host.Outcome.next (s.unlessHeld _) = _
    rw [State.unlessHeld_of_free _ free]
    have passed : s.link.rx.gapOver = true := by
      rw [gathering]
      exact decide_eq_true long
    rw [if_pos passed]
    simp only [State.onLink, Link.dropPartial, gathering, Link.failCheck, countUp_of_lt below]
  · refine exec_frameGapTimeout_early ?_
    cases gathering : s.link.rx with
    | hunting => rfl
    | inFrame bytes gap => exact decide_eq_false (Nat.not_le.2 (early bytes gap gathering))
  · rw [Link.failCheck, most, countUp_max]

/-- The speed that takes effect discards a frame being gathered, and counts it (R184). -/
theorem exec_linkSpeedChange {s : State} {code : Fin 4} (free : s.resetHeld = false) (due : s.link.effectDue = true)
    (effect : s.link.effect = some (.speed code)) :
    exec .linkSpeedChange s = .next { s with link := s.link.changeSpeed code } := by
  change Host.Outcome.next (s.unlessHeld _) = _
  rw [State.unlessHeld_of_free _ free]
  simp only [due, effect]
  rfl

/-- A speed code of two bits names itself. -/
theorem speedOfCode_of_lt {b : Byte} (legal : b.toNat < 4) : speedOfCode b = some ⟨b.toNat, legal⟩ := dif_pos legal

theorem speedOfCode_code (code : Fin 4) : speedOfCode (BitVec.ofNat 8 code.val) = some code := by
  have value : (BitVec.ofNat 8 code.val).toNat = code.val := by
    rw [BitVec.toNat_ofNat]
    omega
  rw [speedOfCode_of_lt (by omega)]
  exact congrArg some (Fin.ext value)

/-- LINK_SET taken with its two bytes. -/
theorem exec_linkSet {s : State} {a b : Byte} (taken : s.Takes ⟨kindLinkSet, [a, b]⟩) :
    exec (.linkSet [a, b]) s = .next (s.dropInbound.linkSet [a, b]) :=
  congrArg Host.Outcome.next (State.take_owner _ taken rfl)

/-- Settles O15: the enables are stored at once, the speed waits in the link until the reply has been sent. -/
theorem linkSettings : Obligations.LinkSettings := by
  refine ⟨fun s code enables taken => ?_, fun s b enables above taken => ?_, fun s code free due effect => ⟨fun hunting => ?_,
    fun bytes gap gathering below => ?_⟩⟩
  · rw [exec_linkSet taken]
    simp only [State.linkSet, byteAt, List.getD_cons_zero, speedOfCode_code]
    rfl
  · have unknown : speedOfCode b = none := dif_neg (Nat.not_lt.2 above)
    rw [exec_linkSet taken]
    simp only [State.linkSet, byteAt, List.getD_cons_zero, unknown]
    rfl
  · rw [exec_linkSpeedChange free due effect]
    simp only [Link.changeSpeed, Link.dropPartial, hunting]
  · rw [exec_linkSpeedChange free due effect]
    simp only [Link.changeSpeed, Link.dropPartial, gathering, Link.failCheck, countUp_of_lt below]

end Sys2Proof.Machine


/-! ### Rows and the frames that carry them (11.6, 11.7) -/

namespace Sys2Proof

/-! ### Codes name what they are codes of -/

theorem byte_of_toNat {b : Byte} {n : Nat} (value : b.toNat = n) : b = BitVec.ofNat 8 n := by
  rw [← value, BitVec.ofNat_toNat, BitVec.setWidth_eq]

theorem laneOfCode_code (l : Lane) : laneOfCode (laneCode l) = some l := by
  have value : (laneCode l).toNat = l.val := by
    rw [laneCode, BitVec.toNat_ofNat]
    omega
  have legal : (laneCode l).toNat < 10 := value ▸ l.isLt
  exact (dif_pos legal).trans (congrArg some (Fin.ext value))

theorem lampOfCode_code (v : Lamp) : lampOfCode v.code = some v := by cases v <;> rfl

theorem boolOfCode_code (v : Bool) : boolOfCode (boolCode v) = some v := by cases v <;> rfl

theorem laneCode_of_laneOfCode {b : Byte} {l : Lane} (named : laneOfCode b = some l) : laneCode l = b := by
  unfold laneOfCode at named
  split at named
  · cases named
    exact BitVec.ofNat_toNat ..
  · cases named

theorem sideCode_of_sideOfCode {b : Byte} {side : PoolEnd} (named : sideOfCode b = some side) : side.code = b := by
  unfold sideOfCode at named
  split at named <;> cases named <;> exact (byte_of_toNat ‹_›).symm

theorem lampCode_of_lampOfCode {b : Byte} {v : Lamp} (named : lampOfCode b = some v) : v.code = b := by
  unfold lampOfCode at named
  split at named <;> cases named <;> exact (byte_of_toNat ‹_›).symm

theorem boolCode_of_boolOfCode {b : Byte} {v : Bool} (named : boolOfCode b = some v) : boolCode v = b := by
  unfold boolOfCode at named
  split at named <;> cases named <;> exact (byte_of_toNat ‹_›).symm

theorem joinBytes_split (w : BitVec 32) :
    joinBytes (w.extractLsb' 24 8) (w.extractLsb' 16 8) (w.extractLsb' 8 8) (w.extractLsb' 0 8) = w := by
  ext i bound
  simp only [joinBytes]
  grind

theorem splitBytes_join (a b c d : Byte) : splitBytes (joinBytes a b c d) = [a, b, c, d] := by
  have first : (joinBytes a b c d).extractLsb' 24 8 = a := by
    ext i bound
    simp only [joinBytes, BitVec.getElem_extractLsb', BitVec.getLsbD_append]
    grind
  have second : (joinBytes a b c d).extractLsb' 16 8 = b := by
    ext i bound
    simp only [joinBytes, BitVec.getElem_extractLsb', BitVec.getLsbD_append]
    grind
  have third : (joinBytes a b c d).extractLsb' 8 8 = c := by
    ext i bound
    simp only [joinBytes, BitVec.getElem_extractLsb', BitVec.getLsbD_append]
    grind
  have last : (joinBytes a b c d).extractLsb' 0 8 = d := by
    ext i bound
    simp only [joinBytes, BitVec.getElem_extractLsb', BitVec.getLsbD_append]
    grind
  rw [splitBytes, first, second, third, last]

/-! ### The three kinds whose payload chooses the row (R45, R138, R174) -/

/-- A row is spelled by the frame of a kind with this payload. -/
def SpelledBy (kind : Byte) (payload : Payload) (i : Instr) : Prop := i.wf = true ∧ frameOf i = some ⟨kind, payload⟩

theorem lineSetRow_spelled {payload : Payload} {i : Instr} (row : lineSetRow payload = some i) :
    SpelledBy kindLineSet payload i := by
  unfold lineSetRow at row
  split at row
  next lb eb tb vb =>
    split at row
    next lane side hl hs ht =>
      obtain ⟨v, named, rfl⟩ := Option.map_eq_some_iff.1 row
      obtain rfl : tb = 0 := BitVec.eq_of_toNat_eq ht
      exact ⟨rfl, by rw [frameOf, laneCode_of_laneOfCode hl, sideCode_of_sideOfCode hs, lampCode_of_lampOfCode named]⟩
    next lane side hl hs ht =>
      obtain ⟨v, named, rfl⟩ := Option.map_eq_some_iff.1 row
      obtain rfl : tb = 1 := BitVec.eq_of_toNat_eq ht
      exact ⟨rfl, by rw [frameOf, laneCode_of_laneOfCode hl, sideCode_of_sideOfCode hs, boolCode_of_boolOfCode named]⟩
    next lane side hl hs ht =>
      obtain ⟨v, named, rfl⟩ := Option.map_eq_some_iff.1 row
      obtain rfl : tb = 2 := BitVec.eq_of_toNat_eq ht
      exact ⟨rfl, by rw [frameOf, laneCode_of_laneOfCode hl, sideCode_of_sideOfCode hs, boolCode_of_boolOfCode named]⟩
    next => cases row
  next => cases row

theorem amendRow_spelled {payload : Payload} {i : Instr} (row : amendRow payload = some i) :
    SpelledBy kindAmend payload i := by
  unfold amendRow at row
  split at row
  next l action code a b c d =>
    split at row <;> cases row <;> obtain rfl := byte_of_toNat ‹action.toNat = _›
    all_goals exact ⟨rfl, by rw [frameOf, splitBytes_join]; rfl⟩
  next => cases row

theorem boardModuleRow_spelled {payload : Payload} {i : Instr} (row : boardModuleRow payload = some i) :
    SpelledBy kindBoardModule payload i := by
  unfold boardModuleRow at row
  split at row
  next index value =>
    split at row <;> cases row <;> obtain rfl := byte_of_toNat ‹index.toNat = _›
    all_goals exact ⟨rfl, rfl⟩
  next => cases row

theorem lineSetRow_lamp (l : Lane) (side : PoolEnd) (v : Lamp) :
    lineSetRow [laneCode l, side.code, 0, v.code] = some (.lamp l side v) := by
  simp [lineSetRow, laneOfCode_code, Machine.sideOfCode_code, lampOfCode_code]

theorem lineSetRow_pad (l : Lane) (side : PoolEnd) (v : Bool) :
    lineSetRow [laneCode l, side.code, 1, boolCode v] = some (.padEnable l side v) := by
  simp [lineSetRow, laneOfCode_code, Machine.sideOfCode_code, boolOfCode_code]

theorem lineSetRow_buttons (l : Lane) (side : PoolEnd) (v : Bool) :
    lineSetRow [laneCode l, side.code, 2, boolCode v] = some (.buttonEnable l side v) := by
  simp [lineSetRow, laneOfCode_code, Machine.sideOfCode_code, boolOfCode_code]

/-! ### Kinds without a row -/

/-- The command kinds of 11.6. -/
def commandKinds : List Byte :=
  [kindIdentAsk, kindStatusAsk, kindLinkSet, kindControllerReset, kindProgramLoad, kindProgramAsk, kindRaceArm,
    kindStartManual, kindRaceRecall, kindRaceClose, kindResultsRelease, kindRaceClear, kindGroupMode, kindLineSet,
    kindLinesAsk, kindPlatformZero, kindPlatformLimits, kindPlatformAsk, kindSamplerSet, kindLaneAsk, kindWallsAsk,
    kindResultsAsk, kindAmend, kindLogRead, kindLogClear, kindBoardMode, kindBoardArea, kindBoardMask, kindBoardWrite,
    kindBoardRead, kindBoardClear, kindBoardClearStop, kindBoardLayout, kindBoardModule]

/-- A kind that 11.6 does not list is read as UNKNOWN_KIND. -/
theorem commandOf_of_unlisted {f : Frame} (unlisted : f.kind ∉ commandKinds) :
    commandOf f = .unknownKind f.kind f.payload := by
  unfold commandOf
  split
  case h_35 => rfl
  all_goals exact absurd (by rw [byte_of_toNat ‹f.kind.toNat = _›]; decide) unlisted

/-- Exactly the kinds that 11.6 does not list have no length. -/
theorem payloadLength_of_unlisted {kind : Byte} (payload : Payload) (unlisted : kind ∉ commandKinds) :
    payloadLength kind payload = none := by
  unfold payloadLength
  split
  case h_35 => rfl
  all_goals exact absurd (by rw [byte_of_toNat ‹kind.toNat = _›]; decide) unlisted

theorem payloadLength_of_listed {kind : Byte} (payload : Payload) (listed : kind ∈ commandKinds) :
    payloadLength kind payload ≠ none := by
  simp only [commandKinds, List.mem_cons, List.not_mem_nil, or_false] at listed
  obtain rfl | rfl | rfl | rfl | rfl | rfl | rfl | rfl | rfl | rfl | rfl | rfl | rfl | rfl | rfl | rfl | rfl | rfl | rfl
    | rfl | rfl | rfl | rfl | rfl | rfl | rfl | rfl | rfl | rfl | rfl | rfl | rfl | rfl | rfl := listed
  all_goals exact Option.some_ne_none _

/-! ### The obligation -/

/-- A refused form, or the row that its payload chooses, is spelled by the frame. -/
theorem spelled_getD {kind : Byte} {payload : Payload} {row : Option Instr} {refused : Instr}
    (chosen : ∀ i, row = some i → SpelledBy kind payload i) (left : row = none → SpelledBy kind payload refused) :
    SpelledBy kind payload (row.getD refused) := by
  cases row with
  | some i => exact chosen i rfl
  | none => exact left rfl

theorem commandOf_spelled {f : Frame} (fits : f.payload.length ≤ 249) :
    SpelledBy f.kind f.payload (commandOf f) := by
  have short : fitsFrame f.payload = true := decide_eq_true fits
  obtain ⟨kind, payload⟩ := f
  by_cases listed : kind ∈ commandKinds
  · simp only [commandKinds, List.mem_cons, List.not_mem_nil, or_false] at listed
    obtain rfl | rfl | rfl | rfl | rfl | rfl | rfl | rfl | rfl | rfl | rfl | rfl | rfl | rfl | rfl | rfl | rfl | rfl | rfl
      | rfl | rfl | rfl | rfl | rfl | rfl | rfl | rfl | rfl | rfl | rfl | rfl | rfl | rfl | rfl := listed
    case inr.inr.inr.inr.inr.inr.inr.inr.inr.inr.inr.inr.inr.inl =>
      exact spelled_getD (fun _ => lineSetRow_spelled) fun none => ⟨by rw [Instr.wf, none]; exact short, rfl⟩
    case inr.inr.inr.inr.inr.inr.inr.inr.inr.inr.inr.inr.inr.inr.inr.inr.inr.inr.inr.inr.inr.inr.inl =>
      exact spelled_getD (fun _ => amendRow_spelled) fun none => ⟨by rw [Instr.wf, none]; exact short, rfl⟩
    case inr.inr.inr.inr.inr.inr.inr.inr.inr.inr.inr.inr.inr.inr.inr.inr.inr.inr.inr.inr.inr.inr.inr.inr.inr.inr.inr.inr.inr.inr.inr.inr.inr =>
      exact spelled_getD (fun _ => boardModuleRow_spelled) fun none => ⟨by rw [Instr.wf, none]; exact short, rfl⟩
    all_goals exact ⟨short, rfl⟩
  · rw [commandOf_of_unlisted listed]
    exact ⟨by rw [Instr.wf, payloadLength_of_unlisted payload listed]; exact short, rfl⟩

/-- The frame of a well-formed row spells that row. -/
theorem commandOf_frameOf {i : Instr} {f : Frame} (wf : i.wf = true) (framed : frameOf i = some f) : commandOf f = i := by
  cases i <;> cases framed
  case unknownKind kind payload =>
    refine commandOf_of_unlisted fun listed => payloadLength_of_listed payload listed ?_
    exact Option.isNone_iff_eq_none.1 (Bool.and_eq_true_iff.1 wf).1
  case lamp l side v => exact congrArg (Option.getD · _) (lineSetRow_lamp l side v)
  case padEnable l side v => exact congrArg (Option.getD · _) (lineSetRow_pad l side v)
  case buttonEnable l side v => exact congrArg (Option.getD · _) (lineSetRow_buttons l side v)
  case lineSet payload =>
    exact congrArg (Option.getD · _) (Option.isNone_iff_eq_none.1 (Bool.and_eq_true_iff.1 wf).1)
  case amendDisqualify l code time => exact congrArg (Instr.amendDisqualify l code) (joinBytes_split time)
  case amendDidNotStart l code time => exact congrArg (Instr.amendDidNotStart l code) (joinBytes_split time)
  case amendRestore l code time => exact congrArg (Instr.amendRestore l code) (joinBytes_split time)
  case amendTimeWall l code time => exact congrArg (Instr.amendTimeWall l code) (joinBytes_split time)
  case amend payload =>
    exact congrArg (Option.getD · _) (Option.isNone_iff_eq_none.1 (Bool.and_eq_true_iff.1 wf).1)
  case boardModule payload =>
    exact congrArg (Option.getD · _) (Option.isNone_iff_eq_none.1 (Bool.and_eq_true_iff.1 wf).1)
  all_goals rfl

/-- Settles O11, from `commandOf_frameOf` and `commandOf_spelled`. -/
theorem rowsAndFramesCorrespond : Obligations.RowsAndFramesCorrespond :=
  ⟨fun _ _ => commandOf_frameOf, fun _ => commandOf_spelled⟩

end Sys2Proof


/-! ### The transmitter and the race program record (11.3, 11.4, 11.7, 1.3) -/

namespace Sys2Proof.Machine

/-! ### The transmitter's choice (R180) -/

section
variable {k : Link}

/-- While a change of the link is due the transmitter waits. -/
theorem Link.choose_of_due (due : k.effectDue = true) : k.choose = k := by
  unfold Link.choose
  split
  next calm _ => cases due.symm.trans calm
  next calm _ _ => cases due.symm.trans calm
  next => rfl

/-- A complete reply begins before any report. -/
theorem Link.choose_of_reply {r : Reply} (free : k.line = none) (calm : k.effectDue = false) (reply : k.slot = .holding r) :
    k.choose = k.beginLine true r.frame := by
  simp only [Link.choose, free, calm, reply]

/-- Without a complete reply the oldest report begins and leaves the queue. -/
theorem Link.choose_of_report {r : Report} {rs : List Report} (free : k.line = none) (calm : k.effectDue = false)
    (noReply : ∀ a, k.slot ≠ .holding a) (queued : k.queue = r :: rs) :
    k.choose = ({ k with queue := rs } : Link).beginLine false r.frame := by
  unfold Link.choose
  split
  next a _ _ held => exact absurd held (noReply a)
  next same _ => cases queued.symm.trans same; rfl
  next other => exact absurd queued (other r rs free calm)

/-- With neither the line stays free. -/
theorem Link.choose_of_nothing (noReply : ∀ a, k.slot ≠ .holding a) (empty : k.queue = []) : k.choose = k := by
  unfold Link.choose
  split
  next a _ _ held => exact absurd held (noReply a)
  next same _ => cases empty.symm.trans same
  next => rfl

theorem Link.commandWaits_iff : k.commandWaits = true ↔ k.inbound ≠ [] ∧ k.slot = .empty ∧ k.effectDue = false := by
  simp [Link.commandWaits, and_assoc]

theorem Link.endLine_of_reply {bytes : List Byte} {left : Nat} (line : k.line = some ⟨true, bytes, left⟩) :
    k.endLine = if k.endReply.commandWaits && Config.commandFirst k.choices then k.endReply else k.endReply.choose := by
  simp only [Link.endLine, line]

theorem Link.endLine_of_other (other : ∀ bytes left, k.line ≠ some ⟨true, bytes, left⟩) :
    k.endLine = if ({ k with line := none } : Link).commandWaits then { k with line := none }
      else ({ k with line := none } : Link).choose := by
  unfold Link.endLine
  split
  next bytes left line => exact absurd line (other bytes left)
  next => rfl

/-- At the end of a reply that brings about a change, or with no report queued, the line stays free. -/
theorem Link.endLine_free {bytes : List Byte} {left : Nat} (line : k.line = some ⟨true, bytes, left⟩)
    (stays : k.effect ≠ none ∨ k.queue = []) : k.endLine = k.endReply := by
  have chosen : k.endReply.choose = k.endReply := by
    obtain change | empty := stays
    · exact Link.choose_of_due (Option.isSome_iff_ne_none.2 change)
    · exact Link.choose_of_nothing nofun empty
  rw [Link.endLine_of_reply line, chosen, ite_self]

end

/-! ### The end of a frame on the line -/

theorem exec_lineFrameEnd_sending {s : State} {f : LineFrame} (line : s.link.line = some f) (left : f.left ≠ 0) :
    exec .lineFrameEnd s = .next s := by
  have sending : s.link.sending = true := by simp [Link.sending, line, left]
  change Host.Outcome.next (if s.resetHeld then s else if s.link.sending then s else _) = _
  rw [if_pos sending, ite_self]

theorem exec_lineFrameEnd {s : State} (free : s.resetHeld = false) (ended : ∀ f, s.link.line = some f → f.left = 0) :
    exec .lineFrameEnd s = .next { s with link := s.link.endLine } := by
  have done : s.link.sending = false := by
    cases line : s.link.line with
    | none => simp [Link.sending, line]
    | some f => simp [Link.sending, line, ended f line]
  change Host.Outcome.next (s.unlessHeld _) = _
  rw [State.unlessHeld_of_free _ free, done]
  rfl

/-- The flag of a report's kind joins the summary set, and no other. -/
theorem Link.report_summary (k : Link) (r : Report) {n : Nat} (legal : n < 9) :
    (k.report r).summary.getLsbD n = true ↔ k.summary.getLsbD n = true ∨ n = r.kindIndex := by
  have flag : (k.report r).summary = k.summary ||| BitVec.ofNat 9 (2 ^ r.kindIndex) := rfl
  rw [flag, BitVec.getLsbD_or, BitVec.getLsbD_ofNat, Nat.testBit_two_pow, Bool.or_eq_true, decide_eq_true legal,
    Bool.true_and, decide_eq_true_iff, eq_comm (a := n)]

/-- Settles O12, from the equations of `Link.choose` and `Link.endLine`. -/
theorem reportsAndLine : Obligations.ReportsAndLine := by
  refine ⟨fun s f => exec_lineFrameEnd_sending, fun s free ended => ⟨_, exec_lineFrameEnd free ended, ?_, ?_⟩,
    fun s r => ⟨rfl, fun n => Link.report_summary s.link r, fun enabled room => ?_, fun closed => ?_⟩⟩
  · rintro bytes freed begun line rfl next
    have after : s.link.endReply = { s.link with
        line := none, slot := .empty, effectDue := decide (s.link.effect ≠ none), choices := s.link.choices + 1 } := by
      cases effect : s.link.effect <;> simp [Link.endReply, effect]
    refine ⟨fun stays => (Link.endLine_free line stays).trans after, fun noEffect queued => ?_⟩
    obtain ⟨r, rs, queue⟩ := List.exists_cons_of_ne_nil queued
    have chosen : s.link.endReply.choose = begun := by
      rw [next r rs queue, Link.choose_of_report (k := s.link.endReply) rfl (by simp [after, noEffect]) nofun queue, after]
      rfl
    rw [Link.endLine_of_reply line, chosen]
    refine ⟨fun noCommand => ?_, fun _ => ?_⟩
    · have idle : s.link.endReply.commandWaits = false := by
        rw [← Bool.not_eq_true, Link.commandWaits_iff]
        exact fun waits => waits.1 noCommand
      rw [idle]
      rfl
    · split
      · exact .inl after
      · exact .inr rfl
  · intro other
    rw [Link.endLine_of_other other]
    have idle (h : s.link.inbound = [] ∨ s.link.slot ≠ .empty ∨ s.link.effectDue = true) :
        ¬ ({ s.link with line := none } : Link).commandWaits = true := by
      rw [Link.commandWaits_iff]
      rintro ⟨waiting, empty, calm⟩
      obtain none_waits | full | due := h
      · exact waiting none_waits
      · exact full empty
      · exact absurd (due.symm.trans calm) (by decide)
    refine ⟨fun due => ?_, fun r calm reply => ?_, fun empty waiting => ?_, fun r rs calm noReply blocked queue => ?_,
      fun noReply queue => ?_⟩
    · rw [if_neg (idle (.inr (.inr due))), Link.choose_of_due (k := { s.link with line := none }) due]
    · rw [if_neg (idle (.inr (.inl (by simp [reply])))), Link.choose_of_reply (k := { s.link with line := none }) rfl calm reply]
      rfl
    · by_cases due : s.link.effectDue = true
      · rw [if_neg (idle (.inr (.inr due))), Link.choose_of_due (k := { s.link with line := none }) due]
      · exact if_pos (Link.commandWaits_iff.2 ⟨waiting, empty, Bool.eq_false_of_not_eq_true due⟩)
    · rw [if_neg (idle (blocked.symm.imp id .inl)),
        Link.choose_of_report (k := { s.link with line := none }) rfl calm noReply queue]
      rfl
    · rw [Link.choose_of_nothing (k := { s.link with line := none }) noReply queue, ite_self]
  · exact if_pos ⟨enabled, room⟩
  · refine if_neg fun ⟨enabled, room⟩ => ?_
    obtain disabled | full := closed
    · exact absurd (enabled.symm.trans disabled) (by decide)
    · exact absurd room (Nat.not_lt.2 full)

/-! ### Numbers read back from their bytes (00 Conventions, 11.7) -/

theorem toNat_byte (n : Nat) : (BitVec.ofNat 8 n).toNat = n % 256 := BitVec.toNat_ofNat n 8

theorem num16_be16 {n : Nat} (small : n < 65536) : n / 256 % 256 * 256 + n % 256 = n := by omega

theorem num32_be32 {n : Nat} (small : n < 4294967296) :
    (n / 16777216 % 256 * 256 + n / 65536 % 256) * 65536 + (n / 256 % 256 * 256 + n % 256) = n := by omega

/-- The fields of a program fit the bytes that carry them. -/
structure Program.FitsRecord (p : Program) : Prop where
  eventId : p.eventId < 65536
  lengths : p.lengths < 256
  legs : p.legs < 256
  armDelay : p.armDelay < 4294967296
  window : p.window < 4294967296
  disagree : p.disagree < 65536
  floor : p.floor < 65536
  tolerance : p.tolerance < 65536
  stuckLimit : p.stuckLimit < 4294967296

section
variable {p : Program}

theorem Program.bytes_length (p : Program) : p.bytes.length = 27 := rfl

/-- The record of a program, read back, is the program. -/
theorem recordOf_bytes (fits : p.FitsRecord) : recordOf p.bytes = p := by
  obtain ⟨eventId, lengths, legs, armDelay, window, disagree, floor, tolerance, stuckLimit⟩ := fits
  have lanes : p.lanes.toNat < 65536 := Nat.lt_trans p.lanes.isLt (by decide)
  have startKind : (if p.startKind.code.toNat = 0 then StartKind.platform else .inWater) = p.startKind := by
    cases p.startKind <;> rfl
  have station : sideOfCode (stationCode p.station) = p.station := by
    cases p.station with
    | none => rfl
    | some side => exact sideOfCode_code side
  have policy : (if p.policy.code.toNat = 0 then Policy.fill else .checked) = p.policy := by cases p.policy <;> rfl
  simp only [recordOf, Program.bytes, num8, num16, num32, byteAt, be8, be16, be32, List.cons_append, List.nil_append,
    List.getD_cons_succ, List.getD_cons_zero, toNat_byte, num16_be16 eventId, num16_be16 lanes, Nat.mod_eq_of_lt lengths,
    Nat.mod_eq_of_lt legs, startKind, station, policy, num32_be32 armDelay, num32_be32 window, num16_be16 disagree,
    num16_be16 floor, num16_be16 tolerance, num32_be32 stuckLimit]
  rw [BitVec.ofNat_toNat, BitVec.setWidth_eq]

end

/-! ### A stored program is its own record (R7, R8, 1.5) -/

section
variable {payload : Payload}

theorem num8_lt (payload : Payload) (i : Nat) : num8 payload i < 256 := (byteAt payload i).isLt

theorem clampTo_of_within {low high n : Nat} (above : low ≤ n) (below : n ≤ high) : clampTo low high n = n := by
  unfold clampTo
  omega

theorem clampTo_bounds {low high : Nat} (h : low ≤ high) (n : Nat) : low ≤ clampTo low high n ∧ clampTo low high n ≤ high := by
  unfold clampTo
  omega

/-- The timing settings of a stored program lie in their ranges (R7, R8). -/
theorem storedProgram_ranges (payload : Payload) :
    (10000 ≤ (storedProgram payload).armDelay ∧ (storedProgram payload).armDelay ≤ 1200000)
      ∧ (10000 ≤ (storedProgram payload).window ∧ (storedProgram payload).window ≤ 100000)
      ∧ (100 ≤ (storedProgram payload).disagree ∧ (storedProgram payload).disagree ≤ 10000)
      ∧ (storedProgram payload).floor ≤ 5000 ∧ (storedProgram payload).tolerance ≤ 1000
      ∧ (10000 ≤ (storedProgram payload).stuckLimit ∧ (storedProgram payload).stuckLimit ≤ 600000)
      ∧ ((storedProgram payload).station.isSome → (storedProgram payload).window ≤ (storedProgram payload).armDelay) := by
  have window : 10000 ≤ (storedProgram payload).window ∧ (storedProgram payload).window ≤ 100000 :=
    clampTo_bounds (by decide) _
  have delay := clampTo_bounds (low := 10000) (high := 1200000) (by decide) (num32 payload 9)
  have armDelay := storedProgram_armDelay payload
  refine ⟨?_, window, clampTo_bounds (by decide) _, (clampTo_bounds (by decide) _).2, (clampTo_bounds (by decide) _).2,
    clampTo_bounds (by decide) _, fun station => ?_⟩
  · rw [armDelay]
    split <;> omega
  · have some : (storedProgram payload).station ≠ none := Option.isSome_iff_ne_none.1 station
    rw [armDelay]
    split <;> simp_all

theorem storedProgram_fitsRecord (payload : Payload) : (storedProgram payload).FitsRecord := by
  obtain ⟨⟨-, armDelay⟩, ⟨-, window⟩, ⟨-, disagree⟩, floor, tolerance, ⟨-, stuckLimit⟩, -⟩ := storedProgram_ranges payload
  have high := num8_lt payload 0
  have low := num8_lt payload 1
  have eventId : (storedProgram payload).eventId = num8 payload 0 * 256 + num8 payload 1 := rfl
  exact ⟨by omega, num8_lt payload 4, num8_lt payload 5, by omega, by omega, by omega, by omega, by omega, by omega⟩

/-- Settings in their ranges are stored as sent. -/
theorem storedProgram_again (payload : Payload) :
    (storedProgram payload).clampTimes.raiseArmDelay = storedProgram payload := by
  obtain ⟨⟨a₁, a₂⟩, ⟨w₁, w₂⟩, ⟨d₁, d₂⟩, f, t, ⟨l₁, l₂⟩, raised⟩ := storedProgram_ranges payload
  generalize storedProgram payload = p at *
  have clamped : p.clampTimes = p := by
    rw [Program.clampTimes, clampTo_of_within a₁ a₂, clampTo_of_within w₁ w₂, clampTo_of_within d₁ d₂,
      clampTo_of_within (Nat.zero_le _) f, clampTo_of_within (Nat.zero_le _) t, clampTo_of_within l₁ l₂]
  rw [clamped, Program.raiseArmDelay]
  split
  next station => rw [Nat.max_eq_left (raised station)]
  next => rfl

theorem storedProgram_bytes (payload : Payload) : storedProgram (storedProgram payload).bytes = storedProgram payload := by
  rw [storedProgram, recordOf_bytes (storedProgram_fitsRecord payload)]
  exact storedProgram_again payload

/-- The record of a stored program passes the structural tests that the payload passed. -/
theorem firstBadField_bytes (good : firstBadField payload = none) : firstBadField (storedProgram payload).bytes = none := by
  rw [firstBadField_eq] at good ⊢
  obtain ⟨-, lengthsFit, legsFit, -⟩ := storedProgram_fitsRecord payload
  have lanesNat : (storedProgram payload).lanes.toNat = num16 payload 2 % 1024 := BitVec.toNat_ofNat _ 10
  have lengths : (storedProgram payload).lengths = num8 payload 4 := rfl
  have legs : (storedProgram payload).legs = num8 payload 5 := rfl
  have startKind : (storedProgram payload).startKind.code.toNat ≤ 1 := by
    cases (storedProgram payload).startKind <;> decide
  have station : (stationCode (storedProgram payload).station).toNat ≤ 2 := by
    cases (storedProgram payload).station with
    | none => decide
    | some side => cases side <;> decide
  have policy : (storedProgram payload).policy.code.toNat ≤ 1 := by cases (storedProgram payload).policy <;> decide
  have lanesFit : (storedProgram payload).lanes.toNat < 65536 := Nat.lt_trans (BitVec.isLt _) (by decide)
  have read2 : num16 (storedProgram payload).bytes 2 = (storedProgram payload).lanes.toNat := by
    simp only [num16, num8, byteAt, Program.bytes, be8, be16, List.cons_append, List.nil_append, List.getD_cons_succ,
      List.getD_cons_zero, toNat_byte, num16_be16 lanesFit]
  have read4 : num8 (storedProgram payload).bytes 4 = num8 payload 4 :=
    (toNat_byte _).trans (Nat.mod_eq_of_lt lengthsFit)
  have read5 : num8 (storedProgram payload).bytes 5 = num8 payload 5 :=
    (toNat_byte _).trans (Nat.mod_eq_of_lt legsFit)
  have read6 : num8 (storedProgram payload).bytes 6 = (storedProgram payload).startKind.code.toNat := rfl
  have read7 : num8 (storedProgram payload).bytes 7 = (stationCode (storedProgram payload).station).toNat := rfl
  have read8 : num8 (storedProgram payload).bytes 8 = (storedProgram payload).policy.code.toNat := rfl
  rw [read2, read4, read5, read6, read7, read8, lanesNat]
  split_ifs at good with h2 h4 h5
  rw [if_pos (by omega), if_pos h4, if_pos h5, if_pos startKind, if_pos station, if_pos policy]

end

/-! ### PROGRAM_ASK -/

theorem exec_programAsk {s : State} {p : Program} (taken : s.Takes ⟨kindProgramAsk, []⟩) (program : s.program = some p) :
    exec (.programAsk []) s = .next (s.replied kindProgramAsk .done p.bytes) := by
  refine (congrArg Host.Outcome.next (State.take_owner _ taken rfl)).trans ?_
  have stored : s.dropInbound.program = some p := program
  simp only [stored]
  rfl

theorem exec_programAsk_none {s : State} (taken : s.Takes ⟨kindProgramAsk, []⟩) (program : s.program = none) :
    exec (.programAsk []) s = .next (s.replied kindProgramAsk .badState []) := by
  refine (congrArg Host.Outcome.next (State.take_owner _ taken rfl)).trans ?_
  have stored : s.dropInbound.program = none := program
  simp only [stored]
  rfl

/-- Settles O16: the record of a stored program reads back as the program, whose settings are in range. -/
theorem programRecordRoundTrip : Obligations.ProgramRecordRoundTrip := by
  refine ⟨fun payload _ good => ⟨Program.bytes_length _, firstBadField_bytes good, storedProgram_bytes payload, ?_⟩,
    fun s p => exec_programAsk, fun s => exec_programAsk_none⟩
  rw [clampedFlag, storedProgram_bytes, recordOf_bytes (storedProgram_fitsRecord payload)]
  simp

end Sys2Proof.Machine


/-! ### The lane ports (chapter 03): lines, lamps, group modes and LINE_SET -/

namespace Sys2Proof.Machine

/-! #### What is held for a lane end -/

section
variable (p : Ports)

@[simp] theorem Ports.laneEnd_setLaneEnd_same (l : Lane) (side : PoolEnd) (e : LaneEnd) :
    (p.setLaneEnd l side e).laneEnd l side = e := by
  simp [Ports.laneEnd, Ports.setLaneEnd]

theorem Ports.laneEnd_setLaneEnd_other {l m : Lane} {side other : PoolEnd} (e : LaneEnd) (ne : ¬ (m = l ∧ other = side)) :
    (p.setLaneEnd l side e).laneEnd m other = p.laneEnd m other := by
  by_cases same : l = m
  · subst same
    have ends : side ≠ other := fun h => ne ⟨rfl, h.symm⟩
    simp [Ports.laneEnd, Ports.setLaneEnd, Ends.get_set_other _ _ ends]
  · have : (l : Nat) ≠ m := fun h => same (Fin.ext h)
    simp [Ports.laneEnd, Ports.setLaneEnd, this]

@[simp] theorem Ports.laneEnd_mapLaneEnds (f : Lane → LaneEnd → LaneEnd) (l : Lane) (side : PoolEnd) :
    (p.mapLaneEnds f).laneEnd l side = f l (p.laneEnd l side) := by
  cases side <;> simp [Ports.laneEnd, Ports.mapLaneEnds, Ends.get]

@[simp] theorem Ports.line_setLine (line : Line) (x : LineState) : (p.setLine line x).line line = x := by
  cases line with
  | pad l side => simp [Ports.setLine, Ports.line]
  | button l side b => simp [Ports.setLine, Ports.line]
  | startLine => rfl

end

/-! #### Lamps alone (R46, R47) -/

section
variable {s t u : State}

theorem State.PortsButLamps.refl (s : State) : s.PortsButLamps s := ⟨rfl, fun _ _ => rfl⟩

theorem State.portsButLamps_of_eq (same : t.ports = s.ports) : s.PortsButLamps t := by
  unfold State.PortsButLamps
  rw [same]
  exact ⟨rfl, fun _ _ => rfl⟩

theorem State.PortsButLamps.trans (h : s.PortsButLamps t) (k : t.PortsButLamps u) : s.PortsButLamps u := by
  obtain ⟨ports, ends⟩ := h
  obtain ⟨ports', ends'⟩ := k
  exact ⟨by rw [ports', ports], fun l side => by rw [ends' l side, ends l side]⟩

theorem State.PortsButLamps.foldl {α : Type} (f : State → α → State) (step : ∀ (s : State) (a : α), s.PortsButLamps (f s a))
    (xs : List α) (s : State) : s.PortsButLamps (xs.foldl f s) := by
  induction xs generalizing s with
  | nil => exact .refl s
  | cons a xs ih => exact (step s a).trans (ih (f s a))

/-- Nothing but the lamps moved: every line stands as it stood. -/
theorem State.PortsButLamps.line (h : s.PortsButLamps t) (line : Line) : t.ports.line line = s.ports.line line := by
  obtain ⟨ports, ends⟩ := h
  cases line with
  | pad l side =>
    change (t.ports.laneEnd l side).pad = _
    rw [ends l side]
    rfl
  | button l side b =>
    change (t.ports.laneEnd l side).buttons[b] = _
    rw [ends l side]
    rfl
  | startLine =>
    change t.ports.startLine = _
    rw [ports]
    rfl

/-! #### The stages of a re-rank (R136) -/

/-- The results of a re-rank, before anything is shown of them. -/
def State.ranked (s : State) : State :=
  { s with results := { s.results with order := s.resultOrder, places := Vector.ofFn fun l => s.placeNow l } }

/-- The results of a re-rank with the RANK_NOTE. -/
def State.rankNoted (s : State) : State := s.ranked.report (.rank s.ranked.rankEntries)

/-- The lanes whose place a re-rank shows: the lanes of the race whose place changes. -/
def State.placeChanges (s : State) : List Lane :=
  allLanes.filter fun l => s.inRace l && s.results.places[l] != s.ranked.results.places[l]

/-- The results of a re-rank with lamps and auto fields of the lanes whose place changes. -/
def State.placesShown (s : State) : State := s.placeChanges.foldl State.showPlace s.rankNoted

/-- A re-rank shows the places, recomputes the map and, in a race that is over, marks display row 1 for another first
lane. -/
theorem State.rerank_eq (s : State) :
    s.rerank =
      if (s.race = .complete ∨ s.race = .official) ∧ s.results.order.head? ≠ s.ranked.results.order.head? then
        s.placesShown.recomputeMap.markClockRow
      else s.placesShown.recomputeMap := rfl

theorem State.engineLamp_portsButLamps (s : State) (l : Lane) (side : PoolEnd) (pattern : Lamp) :
    s.PortsButLamps (s.engineLamp l side pattern) := by
  unfold State.engineLamp
  split
  · refine ⟨rfl, fun m other => ?_⟩
    by_cases here : m = l ∧ other = side
    · obtain ⟨rfl, rfl⟩ := here
      rw [State.laneEnd_setLaneEnd_same]
    · have apart : (s.setLaneEnd l side { s.ports.laneEnd l side with lamp := pattern }).ports.laneEnd m other =
          s.ports.laneEnd m other := s.ports.laneEnd_setLaneEnd_other _ here
      rw [apart]
  · exact .refl s

theorem State.showPlace_portsButLamps (s : State) (l : Lane) : s.PortsButLamps (s.showPlace l) := by
  have shown (t : State) : t.PortsButLamps (t.writeAuto l) := State.portsButLamps_of_eq (t.writeAuto_frame l).ports
  unfold State.showPlace
  dsimp only
  split
  · exact (s.engineLamp_portsButLamps _ _ _).trans (shown _)
  · exact shown s

theorem State.rerank_portsButLamps (s : State) : s.PortsButLamps s.rerank := by
  have noted : s.PortsButLamps s.rankNoted := State.portsButLamps_of_eq rfl
  have placed : s.PortsButLamps s.placesShown :=
    noted.trans (State.PortsButLamps.foldl _ State.showPlace_portsButLamps _ _)
  have mapped : s.PortsButLamps s.placesShown.recomputeMap :=
    placed.trans (State.portsButLamps_of_eq (State.recomputeMap_frame _).ports)
  rw [State.rerank_eq]
  split
  · exact mapped.trans (State.portsButLamps_of_eq (State.markClockRow_frame _).ports)
  · exact mapped

theorem State.checkCompletion_portsButLamps (s : State) : s.PortsButLamps s.checkCompletion :=
  State.portsButLamps_of_eq s.checkCompletion_ports

theorem State.laneEvent_portsButLamps (s : State) (l : Lane) (w : LaneWork) : s.PortsButLamps (s.laneEvent l w) := by
  have done : s.PortsButLamps (s.commit l w) := State.portsButLamps_of_eq (s.commit_frame l w).ports
  unfold State.laneEvent
  dsimp only
  split
  · exact (done.trans (State.rerank_portsButLamps _)).trans (State.checkCompletion_portsButLamps _)
  · exact done.trans (State.checkCompletion_portsButLamps _)

theorem State.logEntry_ports (s : State) (stamp : Stamp) (source : LogSource) (wall : Option Nat) (d : Disposition) :
    (s.logEntry stamp source wall d).ports = s.ports := by
  unfold State.logEntry
  dsimp only
  split <;> rfl

theorem State.padEvent_portsButLamps (s : State) (l : Lane) (side : PoolEnd) (stamp : Stamp) :
    s.PortsButLamps (s.padEvent l side stamp) := by
  have logged (wall : Option Nat) (d : Disposition) : s.PortsButLamps (s.logEntry stamp (.pad l side) wall d) :=
    State.portsButLamps_of_eq (s.logEntry_ports _ _ _ _)
  have noted (t : State) (p : Program) (wall v : Nat) (use : TouchUse) : t.PortsButLamps (t.touchNote p l side wall v use) :=
    State.portsButLamps_of_eq rfl
  unfold State.padEvent
  split
  · exact logged _ _
  · exact ((logged _ _).trans (noted _ _ _ _ _)).trans (State.laneEvent_portsButLamps _ _ _)
  · exact ((logged _ _).trans (noted _ _ _ _ _)).trans (State.laneEvent_portsButLamps _ _ _)
  · exact logged _ _

theorem State.buttonEvent_ports (s : State) (l : Lane) (side : PoolEnd) (b : Fin 3) (stamp : Stamp) :
    (s.buttonEvent l side b stamp).ports = s.ports := by
  unfold State.buttonEvent
  split <;> exact s.logEntry_ports _ _ _ _

theorem State.startRace_ports (s : State) (mark first : Nat) (source : StartSource) (cause : RaceCause) :
    (s.startRace mark first source cause).ports = s.ports := by
  have begun : (State.enter (State.onBoard { s with source := some source, startMark := some mark } fun b =>
      { b with spent := false }) .running ⟨.running, first⟩).ports = s.ports := State.enter_ports _ _ _
  unfold State.startRace
  dsimp only
  split
  · exact ((State.OnlyLane.foldl _ (State.startLane_frame _ mark source) allLanes _).ports).trans begun
  · exact begun

theorem State.startEdgeEvent_ports (s : State) (stamp : Stamp) : (s.startEdgeEvent stamp).ports = s.ports := by
  unfold State.startEdgeEvent
  split
  · exact (State.startRace_ports _ _ _ _ _).trans (s.logEntry_ports _ _ _ _)
  · exact s.logEntry_ports _ _ _ _

/-- Whatever a recognised press brings about, its line is PRESSED after it. -/
theorem State.recognisePress_line (s : State) (line : Line) (stamp : Stamp) :
    (s.recognisePress line stamp).ports.line line = .pressed := by
  cases line with
  | pad l side =>
    have pressed : (s.setLaneEnd l side { s.ports.laneEnd l side with pad := .pressed, held := some 1 }).ports.line
        (.pad l side) = .pressed := congrArg LaneEnd.pad (State.laneEnd_setLaneEnd_same ..)
    change (if _ then State.padEvent _ l side stamp else _ : State).ports.line _ = _
    split
    · rw [(State.padEvent_portsButLamps _ l side stamp).line, pressed]
    · exact pressed
  | button l side b =>
    have pressed := s.ports.line_setLine (.button l side b) .pressed
    change (if _ then State.buttonEvent _ l side b stamp else _ : State).ports.line _ = _
    split
    · rw [State.buttonEvent_ports]
      exact pressed
    · exact pressed
  | startLine =>
    change (State.startEdgeEvent _ stamp).ports.line _ = _
    rw [State.startEdgeEvent_ports]
    rfl

theorem State.recogniseRelease_line (s : State) (line : Line) : (s.recogniseRelease line).ports.line line = .released := by
  cases line with
  | pad l side =>
    have released : (s.setLaneEnd l side { s.ports.laneEnd l side with pad := .released, held := none, stuck := false }).ports.line
        (.pad l side) = .released := congrArg LaneEnd.pad (State.laneEnd_setLaneEnd_same ..)
    change (if _ then State.report _ _ else _ : State).ports.line _ = _
    split <;> exact released
  | button l side b => exact s.ports.line_setLine (.button l side b) .released
  | startLine => rfl

end

/-! #### Samples of a contact line (R38) -/

section
variable {s : State} {line : Line}

theorem exec_contactLineSample (free : s.resetHeld = false) (closed : Bool) :
    exec (.contactLineSample line closed) s = .next (s.sample line closed) :=
  congrArg Host.Outcome.next (State.unlessHeld_of_free _ free)

/-- A sample that completes a press does what the row of the press does. -/
theorem State.sample_of_pressSeen {stamp : Stamp} (seen : s.ports.line line = .pressSeen stamp) :
    s.sample line true = s.secondPress line := by
  simp only [State.sample, State.secondPress, seen]

theorem State.sample_of_releaseSeen (seen : s.ports.line line = .releaseSeen) :
    s.sample line false = s.secondRelease line := by
  simp only [State.sample, State.secondRelease, seen]

theorem State.secondPress_of_pressSeen {stamp : Stamp} (seen : s.ports.line line = .pressSeen stamp) :
    s.secondPress line = s.recognisePress line stamp := by
  simp only [State.secondPress, seen]

theorem State.secondPress_of_other (other : ∀ stamp, s.ports.line line ≠ .pressSeen stamp) : s.secondPress line = s := by
  unfold State.secondPress
  split
  next stamp seen => exact absurd seen (other stamp)
  next => rfl

theorem State.secondRelease_of_other (other : s.ports.line line ≠ .releaseSeen) : s.secondRelease line = s := by
  unfold State.secondRelease
  split
  next seen => exact absurd seen other
  next => rfl

end

/-- A recognition state that stays as it stands. -/
theorem Ports.setLine_self (p : Ports) (line : Line) : p.setLine line (p.line line) = p := by
  have ends (e : Ends LaneEnd) (side : PoolEnd) : e.set side (e.get side) = e := by cases side <;> rfl
  have lane (l : Lane) (side : PoolEnd) : p.setLaneEnd l side (p.laneEnd l side) = p := by
    simp [Ports.setLaneEnd, Ports.laneEnd, ends]
  cases line with
  | pad l side => exact lane l side
  | button l side b =>
    have same : (p.laneEnd l side).buttons.set b (p.laneEnd l side).buttons[b] = (p.laneEnd l side).buttons := by simp
    change p.setLaneEnd l side { p.laneEnd l side with buttons := (p.laneEnd l side).buttons.set b (p.laneEnd l side).buttons[b] } = p
    rw [same]
    exact lane l side
  | startLine => rfl

/-- The recognition state after a sample (table of R38); a press seen first holds the stamp of this moment. -/
def LineState.sampled (reading : Stamp) : LineState → Bool → LineState
  | .released, true => .pressSeen reading
  | .released, false => .released
  | .pressSeen _, true => .pressed
  | .pressSeen _, false => .released
  | .pressed, true => .pressed
  | .pressed, false => .releaseSeen
  | .releaseSeen, true => .pressed
  | .releaseSeen, false => .released

/-- A sample moves its line by the table, and nothing else unless it completes a press or a release. -/
theorem State.sample_line (s : State) (line : Line) (closed : Bool) :
    (s.sample line closed).ports.line line = (s.ports.line line).sampled s.clock.reading closed
      ∧ (¬ (∃ stamp, s.ports.line line = .pressSeen stamp ∧ closed = true) →
          ¬ (s.ports.line line = .releaseSeen ∧ closed = false) →
          s.sample line closed = { s with ports := s.ports.setLine line ((s.sample line closed).ports.line line) }) := by
  have set (x : LineState) : (s.setLine line x).ports.line line = x := s.ports.line_setLine line x
  have kept : s = { s with ports := s.ports.setLine line (s.ports.line line) } := by rw [Ports.setLine_self]
  have wrote (x : LineState) :
      s.setLine line x = { s with ports := s.ports.setLine line ((s.setLine line x).ports.line line) } := by
    rw [set]
    rfl
  unfold State.sample
  split
  next seen => exact ⟨by rw [set, seen]; rfl, fun _ _ => wrote _⟩
  next seen => exact ⟨by rw [seen]; rfl, fun _ _ => kept⟩
  next stamp seen =>
    exact ⟨by rw [State.recognisePress_line, seen]; rfl, fun none => absurd ⟨stamp, seen, rfl⟩ none⟩
  next stamp seen => exact ⟨by rw [set, seen]; rfl, fun _ _ => wrote _⟩
  next seen => exact ⟨by rw [seen]; rfl, fun _ _ => kept⟩
  next seen => exact ⟨by rw [set, seen]; rfl, fun _ _ => wrote _⟩
  next seen => exact ⟨by rw [set, seen]; rfl, fun _ _ => wrote _⟩
  next seen => exact ⟨by rw [State.recogniseRelease_line, seen]; rfl, fun _ none => absurd ⟨seen, rfl⟩ none⟩

/-- The row of a press of this line. -/
theorem exec_press {line : Line} {press : Instr}
    (row : (∃ l side, line = .pad l side ∧ press = .padPress l side)
      ∨ (∃ l side b, line = .button l side b ∧ press = .buttonPress l side b)
      ∨ line = .startLine ∧ press = .startLineEdge) (s : State) :
    exec press s = .next (s.unlessHeld fun t => t.secondPress line) := by
  obtain ⟨l, side, rfl, rfl⟩ | ⟨l, side, b, rfl, rfl⟩ | ⟨rfl, rfl⟩ := row <;> rfl

/-- Settles O29, from `State.sample_line` and the equations of the second sample. -/
theorem linesAreRecognised : Obligations.LinesAreRecognised := by
  refine ⟨fun s line closed free => ⟨_, exec_contactLineSample free closed, ?_⟩,
    fun s line press row => ⟨fun stamp seen => ?_, fun seen => ?_, fun other => ?_, fun other => ?_⟩⟩
  · obtain ⟨table, alone⟩ := s.sample_line line closed
    refine ⟨table.trans ?_, alone⟩
    cases s.ports.line line <;> cases closed <;> rfl
  · rw [exec_press row]
    change Host.Outcome.next (if s.resetHeld then s else s.sample line true) = .next (if s.resetHeld then s else s.secondPress line)
    rw [State.sample_of_pressSeen seen]
  · change Host.Outcome.next (if s.resetHeld then s else s.sample line false) =
      .next (if s.resetHeld then s else s.secondRelease line)
    rw [State.sample_of_releaseSeen seen]
  · rw [exec_press row, State.unlessHeld, State.secondPress_of_other other, ite_self]
  · change Host.Outcome.next (if s.resetHeld then s else s.secondRelease line) = _
    rw [State.secondRelease_of_other other, ite_self]

/-! ### LINE_SET (R45) -/

section
variable {s : State} (l : Lane) (side : PoolEnd) (e : LaneEnd)

/-- A write of one lane end leaves the others and the rest of the ports. -/
theorem Ports.setLaneEnd_writes (p : Ports) :
    p.setLaneEnd l side e = { p with lanes := (p.setLaneEnd l side e).lanes } ∧ (p.setLaneEnd l side e).laneEnd l side = e
      ∧ ∀ m other, ¬ (m = l ∧ other = side) → (p.setLaneEnd l side e).laneEnd m other = p.laneEnd m other :=
  ⟨rfl, p.laneEnd_setLaneEnd_same l side e, fun _ _ => p.laneEnd_setLaneEnd_other e⟩

end

theorem toNat_le_of_lane {b : Byte} {l : Lane} (named : laneOfCode b = some l) : b.toNat ≤ 9 := by
  unfold laneOfCode at named
  split at named
  next small => omega
  next => cases named

theorem toNat_le_of_side {b : Byte} {side : PoolEnd} (named : sideOfCode b = some side) : b.toNat ≤ 1 := by
  rw [← sideCode_of_sideOfCode named]
  cases side <;> decide

theorem toNat_le_of_lamp {b : Byte} {v : Lamp} (named : lampOfCode b = some v) : b.toNat ≤ 3 := by
  rw [← lampCode_of_lampOfCode named]
  cases v <;> decide

theorem toNat_le_of_bool {b : Byte} {v : Bool} (named : boolOfCode b = some v) : b.toNat ≤ 1 := by
  rw [← boolCode_of_boolOfCode named]
  cases v <;> decide

/-- Codes that a LINE_SET refuses name no row (R45). -/
theorem lineSetRow_refused {l e target v : Byte}
    (bad : 9 < l.toNat ∨ 1 < e.toNat ∨ 2 < target.toNat ∨ (target = 0 ∧ 3 < v.toNat) ∨ (target ≠ 0 ∧ 1 < v.toNat)) :
    lineSetRow [l, e, target, v] = none := by
  unfold lineSetRow
  dsimp only
  split
  next lane side hl hs ht =>
    rw [Option.map_eq_none_iff, Option.eq_none_iff_forall_ne_some]
    intro pattern named
    have := toNat_le_of_lane hl
    have := toNat_le_of_side hs
    have := toNat_le_of_lamp named
    have zero : target = 0 := byte_of_toNat ht
    obtain h | h | h | h | ⟨other, -⟩ := bad
    · omega
    · omega
    · omega
    · omega
    · exact other zero
  next lane side hl hs ht =>
    rw [Option.map_eq_none_iff, Option.eq_none_iff_forall_ne_some]
    intro on named
    have := toNat_le_of_lane hl
    have := toNat_le_of_side hs
    have := toNat_le_of_bool named
    omega
  next lane side hl hs ht =>
    rw [Option.map_eq_none_iff, Option.eq_none_iff_forall_ne_some]
    intro on named
    have := toNat_le_of_lane hl
    have := toNat_le_of_side hs
    have := toNat_le_of_bool named
    omega
  next => rfl

/-- Settles O28: each target is one write of one lane end. -/
theorem lineSetting : Obligations.LineSetting := by
  refine ⟨⟨fun s l side v taken => ⟨s.ports.setLaneEnd l side { s.ports.laneEnd l side with lamp := v }, ?_,
      s.ports.setLaneEnd_writes l side _⟩,
    fun s l side v taken => ⟨s.ports.setLaneEnd l side { s.ports.laneEnd l side with padOn := v }, ?_,
      s.ports.setLaneEnd_writes l side _⟩,
    fun s l side v taken => ⟨s.ports.setLaneEnd l side { s.ports.laneEnd l side with buttonsOn := v }, ?_,
      s.ports.setLaneEnd_writes l side _⟩⟩,
    fun s l e target v taken bad => ?_⟩
  · exact congrArg Host.Outcome.next (State.take_owner _ taken rfl)
  · exact congrArg Host.Outcome.next (State.take_owner _ taken rfl)
  · exact congrArg Host.Outcome.next (State.take_owner _ taken rfl)
  · refine (congrArg Host.Outcome.next (State.take_owner _ taken rfl)).trans ?_
    rw [State.writeLine, lineSetRow_refused bad]
    rfl

/-! ### GROUP_MODE (R43) -/

theorem mem_allLanes : ∀ l : Lane, l ∈ allLanes := by decide

theorem groupOfCode_of_unknown {b : Byte} (unknown : 1 < b.toNat) : groupOfCode b = none := by
  unfold groupOfCode
  split
  next value => omega
  next value => omega
  next => rfl

theorem modeOfCode_of_unknown {b : Byte} (unknown : 1 < b.toNat) : modeOfCode b = none := by
  unfold modeOfCode
  split
  next value => omega
  next value => omega
  next => rfl

theorem State.groupInRace_iff (s : State) (g : Group) :
    s.groupInRace g = true ↔ ∃ l, groupOf l = g ∧ s.inRace l = true := by
  simp [State.groupInRace, mem_allLanes]

/-- Half a change is dropped, a level is kept (R43). -/
theorem LineState.settle_eq (x : LineState) : x.settle = if x.isPressed then .pressed else .released := by
  cases x <;> rfl

theorem Ports.takeGroupMode_laneEnd (p : Ports) (g : Group) (m : GroupMode) (l : Lane) (side : PoolEnd) :
    (p.takeGroupMode g m).laneEnd l side =
      if groupOf l = g then (p.laneEnd l side).groupModeSet else p.laneEnd l side := by
  rw [Ports.takeGroupMode, Ports.laneEnd_mapLaneEnds]
  cases g <;> rfl

theorem Ports.takeGroupMode_mode (p : Ports) (g : Group) (m : GroupMode) (other : Group) :
    (p.takeGroupMode g m).mode other = if other = g then m else p.mode other := by
  cases g <;> cases other <;> rfl

theorem exec_groupMode {s : State} {a b : Byte} (taken : s.Takes ⟨kindGroupMode, [a, b]⟩) :
    exec (.groupMode [a, b]) s = .next (s.dropInbound.setGroupMode [a, b]) :=
  congrArg Host.Outcome.next (State.take_owner _ taken rfl)

theorem State.setGroupMode_of_codes {s : State} {a b : Byte} {g : Group} {m : GroupMode} (group : groupOfCode a = some g)
    (mode : modeOfCode b = some m) :
    s.setGroupMode [a, b] =
      if (s.race = .armed ∨ s.race = .running) ∧ s.groupInRace g then s.answer kindGroupMode .badState []
      else (s.onPorts fun p => p.takeGroupMode g m).answer kindGroupMode .done [] := by
  simp only [State.setGroupMode, byteAt, List.getD_cons_zero, List.getD_cons_succ, group, mode]

/-- Settles O27: `Ports.takeGroupMode` lane end by lane end. -/
theorem groupModeTaken : Obligations.GroupModeTaken := by
  intro s a b taken
  rw [exec_groupMode taken]
  refine ⟨fun unknown => ?_, fun g m group mode => ⟨fun barred => ?_, fun open' => ?_⟩⟩
  · have refused : s.dropInbound.setGroupMode [a, b] = s.dropInbound.answer kindGroupMode .badValue [] := by
      unfold State.setGroupMode
      split
      next g m hg hm =>
        obtain h | h := unknown
        · cases (groupOfCode_of_unknown h).symm.trans hg
        · cases (modeOfCode_of_unknown h).symm.trans hm
      next => rfl
    rw [refused]
    rfl
  · have inRace : s.dropInbound.groupInRace g = true := (s.groupInRace_iff g).2 barred.2
    rw [State.setGroupMode_of_codes group mode, if_pos ⟨barred.1, inRace⟩]
    rfl
  · have allowed : ¬ ((s.race = .armed ∨ s.race = .running) ∧ s.groupInRace g = true) :=
      fun h => open' ⟨h.1, (s.groupInRace_iff g).1 h.2⟩
    refine ⟨s.ports.takeGroupMode g m, ?_, ?_, fun g' ne => ?_, ?_, ?_, fun l side ne => ?_, fun l side same => ?_⟩
    · rw [State.setGroupMode_of_codes group mode, if_neg (show ¬ ((s.dropInbound.race = .armed ∨ s.dropInbound.race = .running)
        ∧ s.dropInbound.groupInRace g = true) from allowed)]
      rfl
    · rw [Ports.takeGroupMode_mode, if_pos rfl]
    · rw [Ports.takeGroupMode_mode, if_neg ne]
    · cases g <;> rfl
    · cases g <;> rfl
    · rw [Ports.takeGroupMode_laneEnd, if_neg ne]
    · rw [Ports.takeGroupMode_laneEnd, if_pos same]
      refine ⟨rfl, rfl, rfl, rfl, LineState.settle_eq _, fun b => ?_, rfl⟩
      rw [← LineState.settle_eq]
      simp [LaneEnd.groupModeSet]

end Sys2Proof.Machine


/-! ### The platform samplers (chapter 04): conversions, zeroing, enables -/

namespace Sys2Proof.Machine

/-! #### Reports and replies on the link (R179, R181) -/

section
variable {s t u : State}

theorem State.reportAll_link (s : State) (rs : List Report) : (s.reportAll rs).link = s.link.reported rs := by
  induction rs generalizing s with
  | nil => rfl
  | cons r rs ih => exact ih (s.report r)

theorem Link.reported_append (k : Link) (rs qs : List Report) : k.reported (rs ++ qs) = (k.reported rs).reported qs :=
  List.foldl_append

/-- A reply and reports do not meet: the order of the two does not matter. -/
theorem Link.reported_slot (k : Link) (x : ReplySlot) (rs : List Report) :
    ({ k with slot := x } : Link).reported rs = { k.reported rs with slot := x } := by
  induction rs generalizing k with
  | nil => rfl
  | cons r rs ih => exact ih (k.report r)

/-- The reply of a command that has generated reports. -/
theorem State.answer_reported {rs : List Report} (reports : t.link = s.dropInbound.link.reported rs) (kind : Byte)
    (code : ResultCode) (data : List Byte) :
    (t.answer kind code data).link = (s.link.answered kind code data).reported rs := by
  change { t.link with slot := .holding ⟨kind, code, data⟩ } = _
  rw [reports]
  exact (Link.reported_slot _ _ _).symm

end

/-! #### What a conversion brings about -/

section
variable {s : State} {side : PoolEnd} {l : Lane}

theorem State.putConversion_takeoffs (s : State) (side : PoolEnd) (l : Lane) (r : Conversion) :
    (s.putConversion side l r).takeoffs =
      s.takeoffs ++ r.takeoff.toList.map fun leg => ⟨side, l, leg, s.clock.reading⟩ := by
  obtain ⟨channel, takeoff, note⟩ := r
  cases takeoff <;> cases note <;> simp [State.putConversion]

/-- The FAULT_NOTE of a conversion. -/
theorem State.putConversion_link (s : State) (side : PoolEnd) (l : Lane) (r : Conversion) :
    (s.putConversion side l r).link = s.link.reported (r.note.toList.map fun raised => .fault (.platform l side) raised) := by
  obtain ⟨channel, takeoff, note⟩ := r
  cases takeoff <;> cases note <;> rfl

theorem State.zeroChannel_keeps (s : State) (side : PoolEnd) (l : Lane) (reading : Nat) :
    (s.zeroChannel side l reading).takeoffs = s.takeoffs ∧ (s.zeroChannel side l reading).link = s.link
      ∧ (s.zeroChannel side l reading).clock = s.clock := by
  unfold State.zeroChannel
  split
  · dsimp only
    split
    · split <;> exact ⟨rfl, rfl, rfl⟩
    · exact ⟨rfl, rfl, rfl⟩
  · exact ⟨rfl, rfl, rfl⟩

/-- Takeoffs and link after a conversion that is due. -/
theorem State.convert_brings {s : State} {side : PoolEnd} {l : Lane} (due : (s.sampler side).due side = some l)
    (reading : Nat) (r : Conversion)
    (is : r = (s.zeroedChannel side l reading).convert (s.sampler side).load (s.sampler side).release reading) :
    (s.convert side reading).channel side l = r.channel
      ∧ (s.convert side reading).takeoffs =
          s.takeoffs ++ r.takeoff.toList.map (fun leg => ⟨side, l, leg, s.clock.reading⟩)
      ∧ (s.convert side reading).link =
          s.link.reported (r.note.toList.map fun raised => .fault (.platform l side) raised) := by
  obtain ⟨takeoffs, link, clock⟩ := s.zeroChannel_keeps side l reading
  have zeroed : (s.zeroChannel side l reading).channel side l = s.zeroedChannel side l reading :=
    s.zeroChannel_channel side l reading
  rw [State.convert_of_due due]
  refine ⟨?_, ?_, ?_⟩
  · rw [State.spendConversion_channel, State.convertChannel_channel, is]
  · change (State.putConversion _ side l _).takeoffs = _
    rw [State.putConversion_takeoffs, takeoffs, clock, zeroed, is]
  · change (State.putConversion _ side l _).link = _
    rw [State.putConversion_link, link, zeroed, is]

/-- A conversion changes one channel, and the rest is kept. -/
theorem State.convert_convertsOne (due : (s.sampler side).due side = some l) (reading : Nat) :
    s.ConvertsOne (s.convert side reading) side l := by
  obtain ⟨samplers, others⟩ := s.convertChannel_oneChannel side l reading
  refine ⟨?_, fun other => ?_, fun other m apart => ?_⟩
  · have frame : s.OnlySampling (s.convert side reading) := s.convert_frame side reading
    rw [frame]
  · rw [State.convert_of_due due, State.spendConversion_sampler, samplers other]
  · rw [State.convert_of_due due, State.spendConversion_channel, others other m apart]

/-- What a conversion makes of its channel, from the cases of `Channel.convert`. -/
theorem State.convert_convertedTo (due : (s.sampler side).due side = some l) {reading : Nat} {c : Channel}
    (zeroed : s.zeroedChannel side l reading = c) :
    s.ConvertedTo (s.convert side reading) side l (c.read reading) := by
  have brings (r : Conversion) (is : r = c.convert (s.sampler side).load (s.sampler side).release reading) :=
    State.convert_brings due reading r (by rw [is, zeroed])
  have faulted (raised : c.fault = true) : c.convert (s.sampler side).load (s.sampler side).release reading =
      (c.read reading).convertFaulted (s.sampler side).load reading := if_pos raised
  have good (clear : c.fault = false) : c.convert (s.sampler side).load (s.sampler side).release reading =
      (c.read reading).convertGood (s.sampler side).load (s.sampler side).release reading := by
    simp [Channel.convert, clear]
  refine ⟨fun clear below => ?_, fun clear full => ?_, fun raised => ?_⟩
  · have converted := (good clear).trans (if_neg (Nat.ne_of_lt below))
    obtain ⟨-, -, link⟩ := brings _ rfl
    have quiet : (Channel.testState (s.sampler side).load (s.sampler side).release
        { c.read reading with fullRun := 0 }).note = none := by
      unfold Channel.testState
      split
      · split <;> rfl
      · rfl
    rw [converted, quiet] at link
    refine ⟨link, fun loaded empties => ?_, fun loaded stays => ?_, fun empty => ?_⟩
    · obtain ⟨channel, takeoffs, -⟩ := brings _ (converted.trans ((if_pos loaded).trans (if_pos empties))).symm
      exact ⟨channel, takeoffs⟩
    · obtain ⟨channel, takeoffs, -⟩ := brings _ (converted.trans ((if_pos loaded).trans (if_neg stays))).symm
      exact ⟨channel, takeoffs.trans (List.append_nil _)⟩
    · have unloaded : ¬ (c.read reading).loaded = true := by rw [empty]; decide
      obtain ⟨channel, takeoffs, -⟩ := brings _ (converted.trans (if_neg unloaded)).symm
      exact ⟨channel, takeoffs.trans (List.append_nil _)⟩
  · have converted := (good clear).trans (if_pos full)
    by_cases third : 2 ≤ c.fullRun
    · obtain ⟨channel, takeoffs, link⟩ := brings _ (converted.trans (if_pos third)).symm
      exact ⟨takeoffs.trans (List.append_nil _), fun few => absurd third (Nat.not_le.2 few), fun _ => ⟨channel, link⟩⟩
    · obtain ⟨channel, takeoffs, link⟩ := brings _ (converted.trans (if_neg third)).symm
      exact ⟨takeoffs.trans (List.append_nil _), fun _ => ⟨channel, link⟩, fun many => absurd many third⟩
  · by_cases full : reading = Config.fullScale
    · obtain ⟨channel, takeoffs, link⟩ := brings _ ((faulted raised).trans (if_pos full)).symm
      exact ⟨takeoffs.trans (List.append_nil _), fun _ => ⟨channel, link⟩, fun below => absurd full (Nat.ne_of_lt below),
        fun below => absurd full (Nat.ne_of_lt below)⟩
    · have converted := (faulted raised).trans (if_neg full)
      by_cases tenth : 9 ≤ c.goodRun
      · obtain ⟨channel, takeoffs, link⟩ := brings _ (converted.trans (if_pos tenth)).symm
        exact ⟨takeoffs.trans (List.append_nil _), fun most => absurd most full,
          fun _ few => absurd tenth (Nat.not_le.2 few), fun _ _ => ⟨channel, link⟩⟩
      · obtain ⟨channel, takeoffs, link⟩ := brings _ (converted.trans (if_neg tenth)).symm
        exact ⟨takeoffs.trans (List.append_nil _), fun most => absurd most full, fun _ _ => ⟨channel, link⟩,
          fun _ many => absurd many tenth⟩

theorem Sampler.due_of_ready {m : Sampler} (side : PoolEnd) (enabled : m.enabled = true) (unspent : m.spent = false) :
    m.due side = some (convertedLane side m.rotation) := by
  simp [Sampler.due, enabled, unspent]

theorem Sampler.due_of_idle {m : Sampler} (side : PoolEnd) (idle : m.enabled = false ∨ m.spent = true) :
    m.due side = none := by
  obtain off | spent := idle
  · simp [Sampler.due, off]
  · simp [Sampler.due, spent]

theorem exec_platformConversion {s : State} (free : s.resetHeld = false) (side : PoolEnd) (reading : Fin 1024) :
    exec (.platformConversion side reading) s = .next (s.convert side reading.val) :=
  congrArg Host.Outcome.next (State.unlessHeld_of_free _ free)

end

/-! #### O33: a conversion that no zeroing waits for -/

section
variable {s : State} {side : PoolEnd} {l : Lane}

/-- The channel is no channel of a zeroing. -/
theorem State.zeroes_eq_false (apart : ∀ z lanes, s.zeroing = some z → z.left.get side = some lanes → l ∉ lanes) :
    s.zeroes side l = false := by
  unfold State.zeroes
  cases zeroing : s.zeroing with
  | none => rfl
  | some z =>
    rw [Option.any_some, Zeroing.waits]
    cases left : z.left.get side with
    | none => rfl
    | some lanes => simpa using apart z lanes zeroing left

theorem State.zeroedChannel_of_apart (reading : Nat) (apart : s.zeroes side l = false) :
    s.zeroedChannel side l reading = s.channel side l := by
  simp [State.zeroedChannel, apart]

/-- The zeroing after a conversion. -/
theorem State.convert_zeroing (due : (s.sampler side).due side = some l) (reading : Nat) :
    (s.convert side reading).zeroing = (s.zeroChannel side l reading).zeroing := by
  have put (t : State) (r : Conversion) : (t.putConversion side l r).zeroing = t.zeroing := by
    obtain ⟨channel, takeoff, note⟩ := r
    cases takeoff <;> cases note <;> rfl
  rw [State.convert_of_due due]
  exact put _ _

theorem State.zeroChannel_of_apart (reading : Nat) (apart : s.zeroes side l = false) :
    s.zeroChannel side l reading = s := by
  unfold State.zeroChannel
  split
  next z zeroing =>
    have idle : z.waits side l = false := by simpa [State.zeroes, zeroing] using apart
    simp [idle]
  next => rfl

/-- Settles O33, from `State.convert_convertsOne` and `State.convert_convertedTo`. -/
theorem conversionsAreCounted : Obligations.ConversionsAreCounted := by
  refine ⟨fun s side reading idle => ?_, fun s side l reading c d free apart enabled unspent lane channel read => ?_⟩
  · change Host.Outcome.next (if s.resetHeld then s else s.convert side reading.val) = _
    rw [State.convert_of_idle (Sampler.due_of_idle side idle), ite_self]
  · have due : (s.sampler side).due side = some l := by
      rw [Sampler.due_of_ready side enabled unspent, lane]
      cases side <;> rfl
    have aside := State.zeroes_eq_false apart
    refine ⟨_, exec_platformConversion free side reading, ?_, State.convert_convertsOne due _, ?_⟩
    · rw [State.convert_zeroing due, State.zeroChannel_of_apart _ aside]
    · rw [read]
      exact State.convert_convertedTo due ((State.zeroedChannel_of_apart _ aside).trans channel)

end

/-! #### O31: zeroing -/

section
variable {s : State}

theorem exec_platformZero (taken : s.Takes ⟨kindPlatformZero, []⟩) :
    exec (.platformZero []) s = .next s.dropInbound.platformZero :=
  congrArg Host.Outcome.next (State.take_owner _ taken rfl)

theorem State.newZeroing_finished (s : State) :
    s.newZeroing.finished = true ↔ (s.sampler .start).enabled = false ∧ (s.sampler .turn).enabled = false := by
  change Zeroing.finished ⟨⟨if s.samplers.start.enabled then some allLanes else none,
    if s.samplers.turn.enabled then some allLanes else none⟩, []⟩ = true ↔
      s.samplers.start.enabled = false ∧ s.samplers.turn.enabled = false
  generalize s.samplers.start.enabled = start
  generalize s.samplers.turn.enabled = turn
  revert start turn
  decide

/-- The zeroing conversion of a channel the zeroing waits for. -/
theorem State.zeroChannel_zeroing {side : PoolEnd} {l : Lane} {z : Zeroing} (reading : Nat) (zeroing : s.zeroing = some z)
    (waits : z.waits side l = true) :
    (s.zeroChannel side l reading).zeroing = some (z.done side l (!(s.channel side l).zeroable reading)) := by
  simp only [State.zeroChannel, zeroing, waits, if_true]
  split <;> rfl

theorem Channel.zeroable_iff (c : Channel) (reading : Nat) :
    c.zeroable reading = true ↔ reading < 1023 ∧ c.fault = false := by
  unfold Channel.zeroable
  rw [Bool.and_eq_true_iff, decide_eq_true_iff, Bool.not_eq_true']
  rfl

/-- A zeroed channel reads 0, which is below every threshold (R57, R58). -/
theorem Channel.convert_zeroed {c : Channel} {load release reading : Nat} (clear : c.fault = false) (below : reading < 1023)
    (load_pos : 1 ≤ load) (release_pos : 1 ≤ release) (offset : c.offset = reading) :
    (c.convert load release reading).channel.corrected = 0 ∧ (c.convert load release reading).channel.loaded = false := by
  have zero : reading - c.offset = 0 := by omega
  cases loaded : c.loaded with
  | true =>
    rw [Channel.convert_of_below load loaded clear below (by omega)]
    exact ⟨zero, rfl⟩
  | false =>
    have stays : ¬ c.loaded = true := by simp [loaded]
    have tested : Channel.testState load release { c.read reading with fullRun := 0 } =
        ⟨{ c.read reading with fullRun := 0, loaded := decide (load ≤ (c.read reading).corrected) }, none, none⟩ :=
      if_neg stays
    rw [Channel.convert_of_good load release clear below, tested]
    exact ⟨zero, decide_eq_false (show ¬ load ≤ reading - c.offset by omega)⟩

theorem exec_zeroingComplete (free : s.resetHeld = false) {z : Zeroing} (zeroing : s.zeroing = some z)
    (finished : z.finished = true) :
    exec .zeroingComplete s = .next
      { s with zeroing := none, link := { s.link with slot := .holding ⟨kindPlatformZero, .done, z.reply⟩ } } := by
  change Host.Outcome.next (s.unlessHeld _) = _
  rw [State.unlessHeld_of_free _ free]
  simp only [zeroing, finished, if_true]
  rfl

theorem exec_zeroingComplete_early (early : s.zeroing.any Zeroing.finished = false) : exec .zeroingComplete s = .next s := by
  change Host.Outcome.next (if s.resetHeld then s else _) = _
  split
  · rfl
  · dsimp only
    split
    next z zeroing =>
      have open' : z.finished = false := by simpa [zeroing] using early
      simp [open']
    next => rfl

/-- Settles O31: PLATFORM_ZERO by its three tests, a zeroing conversion by `State.zeroedChannel`. -/
theorem platformZeroing : Obligations.PlatformZeroing := by
  refine ⟨fun s taken => ?_, fun s side l reading z lanes free ranges enabled unspent lane zeroing left waiting => ?_,
    fun s z free zeroing finished => exec_zeroingComplete free zeroing finished, fun s early => exec_zeroingComplete_early early⟩
  · rw [exec_platformZero taken]
    refine ⟨fun busy => ?_, fun armed running => ⟨fun off => ?_, fun on => ?_⟩⟩
    · exact congrArg Host.Outcome.next (if_pos (c := s.dropInbound.race = .armed ∨ s.dropInbound.race = .running) busy)
    · have calm : ¬ (s.dropInbound.race = .armed ∨ s.dropInbound.race = .running) := not_or.2 ⟨armed, running⟩
      have none_takes_part : s.dropInbound.newZeroing.finished = true := (State.newZeroing_finished s.dropInbound).2 off
      have reply : s.dropInbound.newZeroing.reply = [0, 0, 0, 0] := by
        have starts : s.samplers.start.enabled = false := off.1
        have turns : s.samplers.turn.enabled = false := off.2
        change Zeroing.reply ⟨⟨if s.samplers.start.enabled then _ else _, if s.samplers.turn.enabled then _ else _⟩, []⟩ = _
        rw [starts, turns]
        decide
      rw [State.platformZero, if_neg calm, if_pos none_takes_part, reply]
      rfl
    · have calm : ¬ (s.dropInbound.race = .armed ∨ s.dropInbound.race = .running) := not_or.2 ⟨armed, running⟩
      have some_take_part : ¬ s.dropInbound.newZeroing.finished = true := by
        rw [State.newZeroing_finished]
        rintro ⟨starts, turns⟩
        obtain h | h := on
        · exact absurd (h.symm.trans starts) (by decide)
        · exact absurd (h.symm.trans turns) (by decide)
      rw [State.platformZero, if_neg calm, if_neg some_take_part]
      rfl
  · have due : (s.sampler side).due side = some l := by rw [Sampler.due_of_ready side enabled unspent, lane]
    have waits : z.waits side l = true := by simpa [Zeroing.waits, left] using waiting
    have zeroes : s.zeroes side l = true := by simp [State.zeroes, zeroing, waits]
    have zeroed : s.zeroedChannel side l reading.val =
        { s.channel side l with
          offset := if reading.val < 1023 ∧ (s.channel side l).fault = false then reading.val
            else (s.channel side l).offset } := by
      by_cases takes : reading.val < 1023 ∧ (s.channel side l).fault = false
      · rw [State.zeroedChannel, if_pos ⟨zeroes, (Channel.zeroable_iff _ _).2 takes⟩, if_pos takes]
      · rw [State.zeroedChannel, if_neg fun h => takes ((Channel.zeroable_iff _ _).1 h.2), if_neg takes]
    obtain ⟨channel, -, -⟩ := State.convert_brings due reading.val _ rfl
    refine ⟨_, _, exec_platformConversion free side reading,
      (State.convert_zeroing due _).trans (State.zeroChannel_zeroing _ zeroing waits), ?_, fun takes => ?_, fun skips => ?_,
      fun other ne => ?_, State.convert_convertsOne due _, fun offset is => ?_⟩
    · simp [Zeroing.done, left]
    · have fits : (s.channel side l).zeroable reading.val = true := (Channel.zeroable_iff _ _).2 takes
      rw [if_pos takes] at zeroed
      obtain ⟨load, -, release, -, -⟩ := State.sampler_inRange ranges side
      obtain ⟨corrected, empty⟩ := Channel.convert_zeroed (c := { s.channel side l with offset := reading.val })
        takes.2 takes.1 load release rfl
      rw [channel, zeroed]
      refine ⟨?_, Channel.convert_offset _ _ _ _, corrected, empty⟩
      simp [Zeroing.done, fits]
    · have unfit : (s.channel side l).zeroable reading.val = false := by
        rw [← Bool.not_eq_true, Channel.zeroable_iff]
        exact skips
      rw [if_neg skips] at zeroed
      rw [channel, zeroed]
      exact ⟨by simp [Zeroing.done, unfit], Channel.convert_offset _ _ _ _⟩
    · exact Ends.get_set_other _ _ ne.symm
    · rw [← is] at zeroed
      exact State.convert_convertedTo due zeroed

end

/-! #### O34: SAMPLER_SET (R65, R66) -/

section
variable {s : State}

theorem exec_samplerSet {a b : Byte} (taken : s.Takes ⟨kindSamplerSet, [a, b]⟩) :
    exec (.samplerSet [a, b]) s = .next (s.dropInbound.samplerSet [a, b]) :=
  congrArg Host.Outcome.next (State.take_owner _ taken rfl)

theorem State.samplerSet_of_unknown {a b : Byte} (unknown : 1 < a.toNat ∨ 1 < b.toNat) :
    s.samplerSet [a, b] = s.answer kindSamplerSet .badValue [] := by
  unfold State.samplerSet
  split
  next side on hs ho =>
    have sideCode : a.toNat ≤ 1 := toNat_le_of_side hs
    have onCode : b.toNat ≤ 1 := toNat_le_of_bool ho
    omega
  next => rfl

theorem State.samplerSet_of_codes (side : PoolEnd) (on : Bool) :
    s.samplerSet [side.code, boolCode on] =
      (s.setSampler side on).answer kindSamplerSet .done (s.setSampler side on).samplerEnables := by
  simp only [State.samplerSet, byteAt, List.getD_cons_zero, List.getD_cons_succ, sideOfCode_code, boolOfCode_code]

/-- Setting a sampler to the value it has does nothing. -/
theorem State.setSampler_self {side : PoolEnd} {on : Bool} (same : (s.sampler side).enabled = on) :
    s.setSampler side on = s := by
  cases on <;> simp [State.setSampler, same]

theorem State.setSampler_enables {side : PoolEnd} (off : (s.sampler side).enabled = false) :
    s.setSampler side true = s.onSampler side fun m => { m with enabled := true, spent := true } := by
  simp [State.setSampler, off]

theorem State.setSampler_disables {side : PoolEnd} (on : (s.sampler side).enabled = true) :
    s.setSampler side false = (s.onSampler side fun m => { m.mapChannels Channel.disabled with enabled := false }).reportAll
      ((s.sampler side).clearedFaults side) := by
  simp [State.setSampler, on]

/-- What SAMPLER_SET makes of one sampler and the link. -/
structure State.SetsSampler (s t : State) (side : PoolEnd) (on : Bool) : Prop where
  others : ∀ other, other ≠ side → t.sampler other = s.sampler other
  sampler : t.sampler side =
    { s.sampler side with
      enabled := on, channels := (t.sampler side).channels
      spent := (s.sampler side).spent || (on && !(s.sampler side).enabled) }
  kept : on = true ∨ (s.sampler side).enabled = false → (t.sampler side).channels = (s.sampler side).channels
  zeroed : on = false → (s.sampler side).enabled = true → ∀ l, t.channel side l =
    { Channel.reset with offset := (s.channel side l).offset, watch := (s.channel side l).watch }
  link : t.link = s.link.reported
    (if on = false ∧ (s.sampler side).enabled = true then
      (allLanes.filter fun l => (s.channel side l).fault).map fun l => .fault (.platform l side) false
    else [])

theorem State.setSampler_does (s : State) (side : PoolEnd) (on : Bool) : s.SetsSampler (s.setSampler side on) side on := by
  by_cases same : (s.sampler side).enabled = on
  · have quiet : ¬ (on = false ∧ (s.sampler side).enabled = true) := fun h => absurd (h.1.symm.trans (same.symm.trans h.2)) (by decide)
    rw [State.setSampler_self same]
    refine ⟨fun _ _ => rfl, ?_, fun _ => rfl, fun off was => absurd ⟨off, was⟩ quiet, by rw [if_neg quiet]; rfl⟩
    subst same
    simp
  · cases on with
    | true =>
      have off : (s.sampler side).enabled = false := by simpa using same
      rw [State.setSampler_enables off]
      refine ⟨fun other ne => State.sampler_onSampler_other _ _ ne.symm, ?_, fun _ => ?_, nofun, rfl⟩
      · rw [State.sampler_onSampler_same]
        simp [off]
      · rw [State.sampler_onSampler_same]
    | false =>
      have was : (s.sampler side).enabled = true := by simpa using same
      have samplers (other : PoolEnd) (f : Sampler → Sampler) (rs : List Report) :
          ((s.onSampler side f).reportAll rs).sampler other = (s.onSampler side f).sampler other :=
        congrArg (fun e : Ends Sampler => e.get other) (State.reportAll_frame _ rs).samplers
      rw [State.setSampler_disables was]
      refine ⟨fun other ne => ?_, ?_, fun h => absurd h (by simp [was]), fun _ _ l => ?_, ?_⟩
      · rw [samplers, State.sampler_onSampler_other _ _ ne.symm]
      · rw [samplers, State.sampler_onSampler_same]
        simp [Sampler.mapChannels]
      · rw [State.channel, samplers, State.sampler_onSampler_same]
        exact Sampler.mapChannels_getElem _ _ l
      · rw [State.reportAll_link, if_pos ⟨rfl, was⟩]
        rfl

/-- Only samplers and link differ. -/
def State.OnlySamplers (s t : State) : Prop := t = { s with samplers := t.samplers, link := t.link }

theorem State.reportAll_eq_link (s : State) (rs : List Report) : s.reportAll rs = { s with link := s.link.reported rs } := by
  induction rs generalizing s with
  | nil => rfl
  | cons r rs ih => exact ih (s.report r)

theorem State.setSampler_onlySamplers (s : State) (side : PoolEnd) (on : Bool) : s.OnlySamplers (s.setSampler side on) := by
  unfold State.OnlySamplers State.setSampler
  dsimp only
  split
  · rw [State.reportAll_eq_link]
    rfl
  · rfl
  · rfl

/-- The summary flags after a list of reports. -/
theorem Link.reported_summary (k : Link) (rs : List Report) {n : Nat} (legal : n < 9) :
    (k.reported rs).summary.getLsbD n = true ↔ k.summary.getLsbD n = true ∨ ∃ r ∈ rs, n = r.kindIndex := by
  induction rs generalizing k with
  | nil => simp [Link.reported]
  | cons r rs ih =>
    have rest : k.reported (r :: rs) = (k.report r).reported rs := rfl
    rw [rest, ih, Link.report_summary k r legal, List.exists_mem_cons_iff, or_assoc]

theorem Link.reported_inbound (k : Link) (rs : List Report) : (k.reported rs).inbound = k.inbound := by
  induction rs generalizing k with
  | nil => rfl
  | cons r rs ih => exact (ih _).trans (by unfold Link.report; split <;> rfl)

/-- Settles O34, from `State.setSampler_does`. -/
theorem samplersAreEnabled : Obligations.SamplersAreEnabled := by
  refine ⟨fun s a b taken unknown => (exec_samplerSet taken).trans (congrArg _ (State.samplerSet_of_unknown unknown)),
    fun s side on taken => ?_⟩
  have does := s.dropInbound.setSampler_does side on
  have link := State.answer_reported (s := s) does.link kindSamplerSet .done
    (s.dropInbound.setSampler side on).samplerEnables
  refine ⟨_, (exec_samplerSet taken).trans (congrArg _ (State.samplerSet_of_codes side on)), ?_, does.others, does.sampler,
    does.kept, fun off was => ⟨does.zeroed off was, fun faulted => ?_⟩, link, rfl, ?_⟩
  · have work := State.setSampler_onlySamplers s.dropInbound side on
    unfold State.OnlySamplers at work
    rw [work]
    rfl
  · obtain ⟨l, raised⟩ := faulted
    rw [link, Link.reported_summary _ _ (by decide), if_pos ⟨off, was⟩]
    exact .inr ⟨_, List.mem_map_of_mem (List.mem_filter.2 ⟨mem_allLanes l, raised⟩), rfl⟩
  · rw [link, Link.reported_inbound]
    rfl

end

end Sys2Proof.Machine


/-! ### The event log, the queries, and the checks of commands (chapters 05, 08, 09 and 10) -/

namespace Sys2Proof.Machine

/-! #### O47: one entry more -/

section
variable (s : State) (g : EventLog) (stamp : Stamp) (source : LogSource) (wall : Option Nat) (d : Disposition)

theorem EventLog.add_of_room (room : g.entries.length < 512) :
    (g.add stamp source wall d).entries = g.entries ++ [⟨g.counter, stamp, source, wall, d⟩]
      ∧ (g.add stamp source wall d).dropped = g.dropped := by
  have fits : decide (Config.logCapacity ≤ g.entries.length) = false := decide_eq_false (Nat.not_le.2 room)
  simp [EventLog.add, fits]

theorem EventLog.add_of_full (full : g.entries.length = 512) :
    (g.add stamp source wall d).entries = g.entries.tail ++ [⟨g.counter, stamp, source, wall, d⟩]
      ∧ (g.add stamp source wall d).dropped = countUp g.dropped := by
  have fits : decide (Config.logCapacity ≤ g.entries.length) = true := decide_eq_true (Nat.le_of_eq full.symm)
  simp [EventLog.add, fits]

theorem EventLog.add_armed_iff :
    (g.add stamp source wall d).armed = true ↔ g.armed = true ∧ g.entries.length ≠ 383 := by
  simp [EventLog.add, Config.logNotice]

/-- The entry that raises the fill to 384 spends the notice (R152). -/
theorem State.logEntry_of_notice (armed : s.log.armed = true) (fill : s.log.entries.length = 383) :
    s.logEntry stamp source wall d =
      { s with
        log := s.log.add stamp source wall d
        link := s.link.report (.log 384 s.log.counter s.log.dropped) } := by
  have noted : (s.log.armed && s.log.entries.length + 1 == Config.logNotice) = true := by
    rw [armed, fill]
    rfl
  exact if_pos noted

theorem State.logEntry_of_quiet (quiet : s.log.armed = false ∨ s.log.entries.length ≠ 383) :
    s.logEntry stamp source wall d = { s with log := s.log.add stamp source wall d } := by
  have unnoted : ¬ (s.log.armed && s.log.entries.length + 1 == Config.logNotice) = true := by
    rw [Bool.and_eq_true_iff, beq_iff_eq]
    rintro ⟨armed, fill⟩
    obtain off | other := quiet
    · exact absurd (armed.symm.trans off) (by decide)
    · exact other (Nat.succ.inj fill)
  exact if_neg unnoted

/-- The reports of an entry are those of `EventLog.notes`. -/
theorem State.logEntry_eq :
    s.logEntry stamp source wall d =
      { s with log := s.log.add stamp source wall d, link := s.link.reported s.log.notes } := by
  by_cases notice : s.log.armed = true ∧ s.log.entries.length = 383
  · rw [State.logEntry_of_notice s _ _ _ _ notice.1 notice.2, EventLog.notes, if_pos notice]
    rfl
  · have quiet : s.log.armed = false ∨ s.log.entries.length ≠ 383 := by
      rwa [← Bool.not_eq_true, ← not_and_or]
    rw [State.logEntry_of_quiet s _ _ _ _ quiet, EventLog.notes, if_neg notice]
    rfl

end

/-- Settles O47, from the equations of `EventLog.add` and `State.logEntry`. -/
theorem logKeepsTheNewest : Obligations.LogKeepsTheNewest := by
  refine ⟨fun s stamp source wall d => ⟨s.logEntry_of_notice stamp source wall d, s.logEntry_of_quiet stamp source wall d⟩,
    fun g stamp source wall d => ⟨g.add_of_room stamp source wall d, fun full => ?_, fun below => ?_, fun max => ?_,
      g.add_armed_iff stamp source wall d⟩⟩
  · obtain ⟨entries, dropped⟩ := g.add_of_full stamp source wall d full
    refine ⟨entries, ?_, fun below => dropped.trans (countUp_of_lt below), fun max => dropped.trans (max ▸ countUp_max)⟩
    rw [entries, List.length_append, List.length_tail, full]
    rfl
  · exact Nat.mod_eq_of_lt (by omega)
  · change (g.counter + 1) % 65536 = 0
    rw [max]

/-! #### Codes of no item -/

theorem laneOfCode_of_unknown {b : Byte} (unknown : 9 < b.toNat) : laneOfCode b = none :=
  Option.eq_none_iff_forall_ne_some.2 fun _ named => absurd (toNat_le_of_lane named) (Nat.not_le.2 unknown)

theorem boolOfCode_of_unknown {b : Byte} (unknown : 1 < b.toNat) : boolOfCode b = none :=
  Option.eq_none_iff_forall_ne_some.2 fun _ named => absurd (toNat_le_of_bool named) (Nat.not_le.2 unknown)

/-! #### O35: the queries -/

section
variable {s : State}

theorem exec_linesAsk {b : Byte} (taken : s.Takes ⟨kindLinesAsk, [b]⟩) {g : Group} (named : groupOfCode b = some g) :
    exec (.linesAsk [b]) s = .next (s.replied kindLinesAsk .done (s.linesData g)) := by
  refine congrArg Host.Outcome.next ((State.take_owner _ taken rfl).trans ?_)
  simp only [byteAt, List.getD_cons_zero, named]
  rfl

theorem exec_linesAsk_unknown {b : Byte} (taken : s.Takes ⟨kindLinesAsk, [b]⟩) (unknown : 1 < b.toNat) :
    exec (.linesAsk [b]) s = .next (s.replied kindLinesAsk .badValue []) := by
  refine congrArg Host.Outcome.next ((State.take_owner _ taken rfl).trans ?_)
  simp only [byteAt, List.getD_cons_zero, groupOfCode_of_unknown unknown]
  rfl

theorem GroupMode.code_eq (m : GroupMode) : m.code = if m = .level then 0 else 1 := by cases m <;> rfl

/-- The data of LINES_ASK, lane end by lane end (R48). -/
theorem State.linesData_eq (s : State) {g : Group} {lanes : List Lane} (group : (allLanes.filter fun l => groupOf l = g) = lanes) :
    s.linesData g =
      [if s.ports.mode g = .level then 0 else 1, boolCode s.ports.startLine.isPressed]
        ++ (lanes.map fun l => ([PoolEnd.start, .turn].map fun side => (s.ports.laneEnd l side).bytes).flatten).flatten := by
  rw [State.linesData, group, GroupMode.code_eq]
  simp

theorem exec_platformAsk {side : PoolEnd} {l : Lane} (taken : s.Takes ⟨kindPlatformAsk, [side.code, laneCode l]⟩) :
    exec (.platformAsk [side.code, laneCode l]) s = .next (s.replied kindPlatformAsk .done (s.platformData side l)) := by
  refine congrArg Host.Outcome.next ((State.take_owner _ taken rfl).trans ?_)
  simp only [byteAt, List.getD_cons_zero, List.getD_cons_succ, sideOfCode_code, laneOfCode_code]
  rfl

theorem exec_platformAsk_unknown {a b : Byte} (taken : s.Takes ⟨kindPlatformAsk, [a, b]⟩) (unknown : 1 < a.toNat ∨ 9 < b.toNat) :
    exec (.platformAsk [a, b]) s = .next (s.replied kindPlatformAsk .badValue []) := by
  refine congrArg Host.Outcome.next ((State.take_owner _ taken rfl).trans ?_)
  split
  next side l hs hl =>
    have sideCode : a.toNat ≤ 1 := toNat_le_of_side hs
    have lane : b.toNat ≤ 9 := toNat_le_of_lane hl
    omega
  next => rfl

theorem exec_laneAsk {l : Lane} (taken : s.Takes ⟨kindLaneAsk, [laneCode l]⟩) :
    exec (.laneAsk [laneCode l]) s = .next (s.replied kindLaneAsk .done (s.laneData l)) := by
  refine congrArg Host.Outcome.next ((State.take_owner _ taken rfl).trans ?_)
  simp only [byteAt, List.getD_cons_zero, laneOfCode_code]
  rfl

theorem exec_laneAsk_unknown {b : Byte} (taken : s.Takes ⟨kindLaneAsk, [b]⟩) (unknown : 9 < b.toNat) :
    exec (.laneAsk [b]) s = .next (s.replied kindLaneAsk .badValue []) := by
  refine congrArg Host.Outcome.next ((State.take_owner _ taken rfl).trans ?_)
  simp only [byteAt, List.getD_cons_zero, laneOfCode_of_unknown unknown]
  rfl

theorem exec_wallsAsk {l : Lane} {first count : Byte} (taken : s.Takes ⟨kindWallsAsk, [laneCode l, first, count]⟩)
    (first_pos : 1 ≤ first.toNat) (first_le : first.toNat ≤ 64) (count_pos : 1 ≤ count.toNat) (count_le : count.toNat ≤ 8) :
    exec (.wallsAsk [laneCode l, first, count]) s =
      .next (s.replied kindWallsAsk .done ((s.context l).wallsData first.toNat count.toNat)) := by
  refine congrArg Host.Outcome.next ((State.take_owner _ taken rfl).trans ?_)
  simp only [num8, byteAt, List.getD_cons_zero, List.getD_cons_succ, laneOfCode_code]
  exact if_pos ⟨first_pos, first_le, count_pos, count_le⟩

theorem exec_wallsAsk_unknown {b first count : Byte} (taken : s.Takes ⟨kindWallsAsk, [b, first, count]⟩)
    (unknown : 9 < b.toNat ∨ first = 0 ∨ 64 < first.toNat ∨ count = 0 ∨ 8 < count.toNat) :
    exec (.wallsAsk [b, first, count]) s = .next (s.replied kindWallsAsk .badValue []) := by
  refine congrArg Host.Outcome.next ((State.take_owner _ taken rfl).trans ?_)
  split
  next l named =>
    have lane : b.toNat ≤ 9 := toNat_le_of_lane named
    have misfit : ¬ (1 ≤ first.toNat ∧ first.toNat ≤ 64 ∧ 1 ≤ count.toNat ∧ count.toNat ≤ 8) := by
      rintro ⟨first_pos, first_le, count_pos, count_le⟩
      obtain h | rfl | h | rfl | h := unknown
      · omega
      · exact absurd first_pos (by decide)
      · omega
      · exact absurd count_pos (by decide)
      · omega
    exact if_neg misfit
  next => rfl

theorem laneCode_ne_all : ∀ l : Lane, laneCode l ≠ 0xFF := by decide

theorem exec_resultsAsk_all (taken : s.Takes ⟨kindResultsAsk, [0xFF]⟩) :
    exec (.resultsAsk [0xFF]) s = .next (s.replied kindResultsAsk .done s.allResults) :=
  congrArg Host.Outcome.next (State.take_owner _ taken rfl)

theorem exec_resultsAsk {l : Lane} (taken : s.Takes ⟨kindResultsAsk, [laneCode l]⟩) :
    exec (.resultsAsk [laneCode l]) s = .next (s.replied kindResultsAsk .done (s.laneResults l)) := by
  have lane : laneCode l ≠ 0xFF := laneCode_ne_all l
  refine congrArg Host.Outcome.next ((State.take_owner _ taken rfl).trans ((if_neg lane).trans ?_))
  simp only [byteAt, List.getD_cons_zero, laneOfCode_code]
  rfl

theorem exec_resultsAsk_unknown {b : Byte} (taken : s.Takes ⟨kindResultsAsk, [b]⟩) (unknown : 9 < b.toNat) (all : b ≠ 0xFF) :
    exec (.resultsAsk [b]) s = .next (s.replied kindResultsAsk .badValue []) := by
  refine congrArg Host.Outcome.next ((State.take_owner _ taken rfl).trans ((if_neg all).trans ?_))
  simp only [byteAt, List.getD_cons_zero, laneOfCode_of_unknown unknown]
  rfl

end

/-- Data agree field by field. -/
theorem append_congr {a b c d : List Byte} (front : a = b) (back : c = d) : a ++ c = b ++ d := by rw [front, back]

theorem LaneContext.confirmed_eq (c : LaneContext) : c.confirmed = c.final.any Final.confirmed := by
  unfold LaneContext.confirmed
  cases c.final <;> rfl

theorem LaneContext.between_eq (c : LaneContext) {split : Nat → Option Nat}
    (splits : ∀ w, split w = c.split w) (v w : Nat) :
    c.between v w = (split v).bind fun a => (split w).map fun b => b - a := by
  rw [splits, splits, LaneContext.between]
  cases c.split v <;> cases c.split w <;> rfl

/-- Settles O35: each query by its equation, the data field by field. -/
theorem queriesChangeNothing : Obligations.QueriesChangeNothing := by
  refine ⟨fun s b taken => ⟨fun g lanes named => ?_, exec_linesAsk_unknown taken⟩, fun s side l c m hc hm taken => ?_,
    fun s a b taken => exec_platformAsk_unknown taken, fun s l c hc taken => ?_, fun s b taken => exec_laneAsk_unknown taken,
    fun s l first count taken => exec_wallsAsk taken, fun s b first count taken => exec_wallsAsk_unknown taken,
    fun s cause causes taken => ?_, fun s l c split between hc splits betweens taken => ?_,
    fun s b taken => exec_resultsAsk_unknown taken⟩
  · obtain ⟨rfl, rfl, rfl⟩ | ⟨rfl, rfl, rfl⟩ := named
    · rw [exec_linesAsk taken (g := .low) rfl, State.linesData_eq s (lanes := [0, 1, 2, 3, 4]) (by decide)]
      rfl
    · rw [exec_linesAsk taken (g := .high) rfl, State.linesData_eq s (lanes := [5, 6, 7, 8, 9]) (by decide)]
      rfl
  · subst hc hm
    exact exec_platformAsk taken
  · subst hc
    rw [exec_laneAsk taken]
    refine congrArg (fun data => Host.Outcome.next (s.replied kindLaneAsk .done data)) ?_
    refine append_congr (append_congr (append_congr (append_congr (append_congr (append_congr (append_congr
      (append_congr (append_congr (append_congr (append_congr (append_congr rfl ?expected) ?collecting) rfl) rfl) ?takeoff)
        rfl) rfl) rfl) rfl) ?primary) ?final) rfl
    case expected => cases (s.context l).expected <;> rfl
    case collecting => cases (s.context l).collecting <;> rfl
    case takeoff => cases (s.context l).takeoff <;> rfl
    case primary =>
      change causeBytes (s.context l).judgements.head? = _
      cases (s.context l).judgements <;> rfl
    case final => cases (s.context l).final <;> rfl
  · rw [exec_resultsAsk_all taken]
    refine congrArg (fun data => Host.Outcome.next (s.replied kindResultsAsk .done data)) ?_
    have primary (l : Lane) : causeCode (s.context l).primary = cause l := by
      rw [causes]
      change causeCode (s.context l).judgements.head? = _
      cases (s.context l).judgements <;> rfl
    refine append_congr (append_congr (append_congr rfl ?program) ?ranked) ?unranked
    case program => cases s.program <;> rfl
    case ranked =>
      refine congrArg counted (List.map_congr_left fun l _ => ?_)
      rw [State.rankedEntry, primary, LaneContext.confirmed_eq]
      rfl
    case unranked =>
      refine congrArg counted (List.map_congr_left fun l _ => ?_)
      rw [State.unrankedEntry, primary]
      rfl
  · subst hc
    have splits' (w : Nat) : split w = (s.context l).split w := splits w
    have betweens' (v w : Nat) : (s.context l).between v w = between v w :=
      ((s.context l).between_eq splits' v w).trans (betweens v w).symm
    rw [exec_resultsAsk taken]
    refine congrArg (fun data => Host.Outcome.next (s.replied kindResultsAsk .done data)) ?_
    refine append_congr (append_congr rfl ?lengths) ?legs
    case lengths => simp only [LaneContext.lengthTimes, List.map_map, Function.comp_def, betweens']
    case legs =>
      unfold State.legTimes
      cases s.program with
      | none => rfl
      | some p =>
        simp only [LaneContext.legTimes, List.map_map, Function.comp_def, betweens']
        rfl

/-! #### O46: the checks of every AMEND -/

section
variable {s : State} {lane : Byte} {act : Program → Lane → State}

theorem RaceState.takesAmend_iff (r : RaceState) : r.takesAmend = true ↔ r = .running ∨ r = .complete := by
  cases r <;> decide

theorem State.amending_of_state (other : s.race ≠ .running ∧ s.race ≠ .complete) :
    s.amending lane act = s.refuseAmend .badState :=
  if_neg fun takes => ((RaceState.takesAmend_iff _).1 takes).elim other.1 other.2

theorem State.amending_of_unknown (taken : s.race = .running ∨ s.race = .complete) (unknown : 9 < lane.toNat) :
    s.amending lane act = s.refuseAmend .badValue := by
  rw [State.amending, if_pos ((RaceState.takesAmend_iff _).2 taken), laneOfCode_of_unknown unknown]

theorem State.amending_of_outside (taken : s.race = .running ∨ s.race = .complete) {l : Lane}
    (outside : s.inRace l = false) : s.amending (laneCode l) act = s.refuseAmend .badState := by
  rw [State.amending, if_pos ((RaceState.takesAmend_iff _).2 taken), laneOfCode_code]
  cases program : s.program with
  | none => rfl
  | some p =>
    have away : p.inRace l = false := by
      rw [State.inRace, program] at outside
      exact outside
    exact if_neg (Bool.eq_false_iff.1 away)

/-- In a race that takes it, an AMEND of a lane of the race does its work. -/
theorem State.amending_of_inRace (taken : s.race = .running ∨ s.race = .complete) {p : Program} {l : Lane}
    (program : s.program = some p) (inRace : p.inRace l = true) : s.amending (laneCode l) act = act p l := by
  rw [State.amending, if_pos ((RaceState.takesAmend_iff _).2 taken), laneOfCode_code]
  simp [program, inRace]

theorem State.program_of_inRace {l : Lane} (inRace : s.inRace l = true) : ∃ p, s.program = some p ∧ p.inRace l = true := by
  unfold State.inRace at inRace
  split at inRace
  next p program => exact ⟨p, program, inRace⟩
  next => exact absurd inRace Bool.false_ne_true

theorem exec_amend_known {i : Instr} {action code : Byte} {time : BitVec 32}
    (taken : s.Takes ⟨kindAmend, [lane, action, code] ++ splitBytes time⟩)
    (row : i = .amendDisqualify lane code time ∧ action = 0 ∨ i = .amendDidNotStart lane code time ∧ action = 1
      ∨ i = .amendRestore lane code time ∧ action = 2 ∨ i = .amendTimeWall lane code time ∧ action = 3) :
    ∃ act : Program → Lane → State, exec i s = .next (s.dropInbound.amending lane act)
      ∧ (action = 0 → code = 0 → ∀ p l, act p l = s.dropInbound.refuseAmend .badValue) := by
  obtain ⟨rfl, rfl⟩ | ⟨rfl, rfl⟩ | ⟨rfl, rfl⟩ | ⟨rfl, rfl⟩ := row
  · exact ⟨_, congrArg Host.Outcome.next (State.take_owner _ taken rfl), fun _ none _ _ => if_pos none⟩
  · exact ⟨_, congrArg Host.Outcome.next (State.take_owner _ taken rfl), fun other => absurd other (by decide)⟩
  · exact ⟨_, congrArg Host.Outcome.next (State.take_owner _ taken rfl), fun other => absurd other (by decide)⟩
  · exact ⟨_, congrArg Host.Outcome.next (State.take_owner _ taken rfl), fun other => absurd other (by decide)⟩

theorem exec_amend_unknown {action code : Byte} {time : BitVec 32}
    (taken : s.Takes ⟨kindAmend, [lane, action, code] ++ splitBytes time⟩) (unknown : 3 < action.toNat) :
    exec (.amend ([lane, action, code] ++ splitBytes time)) s =
      .next (if s.race = .running ∨ s.race = .complete then s.replied kindAmend .badValue []
        else s.replied kindAmend .badState []) := by
  refine congrArg Host.Outcome.next ((State.take_owner _ taken rfl).trans ?_)
  have other : num8 ([lane, action, code] ++ splitBytes time) 1 = action.toNat := rfl
  unfold State.amendAny
  rw [other]
  split
  · omega
  · omega
  · omega
  · omega
  · simp only [RaceState.takesAmend_iff]
    rfl

end

/-- Settles O46, from the equations of `State.amending`. -/
theorem amendmentsAreChecked : Obligations.AmendmentsAreChecked := by
  rintro s lane action code time i payload rfl taken row
  have rows := or_assoc.2 row
  by_cases unknown : 3 < action.toNat
  · have form : i = .amend ([lane, action, code] ++ splitBytes time) := by
      obtain ⟨-, rfl⟩ | ⟨-, rfl⟩ | ⟨-, rfl⟩ | ⟨-, rfl⟩ | ⟨form, -⟩ := row
      · exact absurd unknown (by decide)
      · exact absurd unknown (by decide)
      · exact absurd unknown (by decide)
      · exact absurd unknown (by decide)
      · exact form
    rw [form, exec_amend_unknown taken unknown]
    exact ⟨fun other => by rw [if_neg (not_or.2 other)], fun takes => ⟨fun _ => by rw [if_pos takes],
      fun _ _ known => absurd known (Nat.not_le.2 unknown)⟩⟩
  · have known : i = .amendDisqualify lane code time ∧ action = 0 ∨ i = .amendDidNotStart lane code time ∧ action = 1
        ∨ i = .amendRestore lane code time ∧ action = 2 ∨ i = .amendTimeWall lane code time ∧ action = 3 := by
      obtain h | h | h | h | ⟨-, h⟩ := row
      · exact .inl h
      · exact .inr (.inl h)
      · exact .inr (.inr (.inl h))
      · exact .inr (.inr (.inr h))
      · exact absurd h unknown
    obtain ⟨act, does, refuses⟩ := exec_amend_known taken known
    rw [does]
    refine ⟨fun other => congrArg _ (State.amending_of_state other), fun takes => ⟨fun bad => ?_, fun l named _ => ?_⟩⟩
    · obtain lane | action := bad
      · exact congrArg _ (State.amending_of_unknown takes lane)
      · exact absurd action unknown
    · subst named
      refine ⟨fun outside => congrArg _ (State.amending_of_outside (s := s.dropInbound) takes outside),
        fun inRace first zero => ?_⟩
      obtain ⟨p, program, inRace⟩ := State.program_of_inRace inRace
      exact congrArg _ ((State.amending_of_inRace (s := s.dropInbound) takes program inRace).trans (refuses first zero p l))

/-! #### O54: BOARD_MODULE -/

section
variable {s : State} {index v : Byte}

theorem exec_boardModule {i : Instr} (taken : s.Takes ⟨kindBoardModule, [index, v]⟩)
    (row : i = .brightness v ∧ index = 0 ∨ i = .blank v ∧ index = 1 ∨ i = .selfTest v ∧ index = 2
      ∨ i = .moduleReset v ∧ index = 3 ∨ i = .boardModule [index, v]) :
    exec i s = .next (s.dropInbound.boardModule index v) := by
  obtain ⟨rfl, rfl⟩ | ⟨rfl, rfl⟩ | ⟨rfl, rfl⟩ | ⟨rfl, rfl⟩ | rfl := row
  all_goals exact congrArg Host.Outcome.next (State.take_owner _ taken rfl)

theorem State.boardModule_of_unknown (unknown : moduleCommandOf index v = none) :
    s.boardModule index v = s.answer kindBoardModule .badValue [] := by
  simp [State.boardModule, unknown]

theorem State.boardModule_of_command {c : ModuleCommand} (named : moduleCommandOf index v = some c) :
    s.boardModule index v =
      if s.board.mode = .off ∧ c.refusedInOff = true then s.answer kindBoardModule .badState []
      else if s.board.moduleSlot.isSome = true then s.answer kindBoardModule .busy []
      else (s.onBoard fun b => { b with moduleSlot := some c }).answer kindBoardModule .done [] := by
  rw [State.boardModule, named]

end

/-- Settles O54, from the two equations of `State.boardModule`. -/
theorem moduleCommandsEnterTheSlot : Obligations.ModuleCommandsEnterTheSlot := by
  refine ⟨fun s v i c index taken row => ?_, fun s v taken large => ?_, fun s v taken large => ?_,
    fun s index v taken large => ?_⟩
  · have named : moduleCommandOf index v = some c ∧ (c.refusedInOff = true ↔ index = 0 ∨ c = .blank false)
        ∧ exec i s = .next (s.dropInbound.boardModule index v) := by
      obtain ⟨rfl, rfl, rfl, small⟩ | ⟨rfl, rfl, ⟨rfl, rfl⟩ | ⟨rfl, rfl⟩⟩ | ⟨rfl, rfl, rfl⟩ | ⟨rfl, rfl, rfl⟩ := row
      · exact ⟨if_pos small, by simp [ModuleCommand.refusedInOff], exec_boardModule taken (by simp)⟩
      · exact ⟨by decide, by decide, exec_boardModule taken (by simp)⟩
      · exact ⟨by decide, by decide, exec_boardModule taken (by simp)⟩
      · exact ⟨rfl, by decide, exec_boardModule taken (by simp)⟩
      · exact ⟨rfl, by decide, exec_boardModule taken (by simp)⟩
    obtain ⟨named, refused, does⟩ := named
    have command := State.boardModule_of_command (s := s.dropInbound) named
    have off_iff : (s.board.mode = .off ∧ (index = 0 ∨ c = .blank false)) ↔
        (s.dropInbound.board.mode = .off ∧ c.refusedInOff = true) := and_congr_right fun _ => refused.symm
    rw [does, command]
    rw [off_iff]
    refine ⟨fun off => congrArg _ (if_pos off), fun on => ⟨fun full => ?_, fun empty => ?_⟩⟩
    · exact congrArg _ ((if_neg on).trans (if_pos (Option.isSome_iff_ne_none.2 full)))
    · have free : ¬ s.dropInbound.board.moduleSlot.isSome = true := by
        rw [Option.isSome_iff_ne_none]
        exact not_not.2 empty
      exact congrArg _ ((if_neg on).trans (if_neg free))
  · have unknown : moduleCommandOf 0 v = none := if_neg (Nat.not_le.2 large)
    rw [exec_boardModule taken (.inl ⟨rfl, rfl⟩), State.boardModule_of_unknown unknown]
    rfl
  · have unknown : moduleCommandOf 1 v = none := congrArg (Option.map ModuleCommand.blank) (boolOfCode_of_unknown large)
    rw [exec_boardModule taken (.inr (.inl ⟨rfl, rfl⟩)), State.boardModule_of_unknown unknown]
    rfl
  · have unknown : moduleCommandOf index v = none := by
      unfold moduleCommandOf
      split
      · omega
      · omega
      · omega
      · omega
      · rfl
    rw [exec_boardModule taken (by simp), State.boardModule_of_unknown unknown]
    rfl

end Sys2Proof.Machine


/-! ### The scoreboard's settings, writes, reads and clears (chapter 10, 10.2, 10.3, 10.6, 10.7) -/

namespace Sys2Proof.Machine

/-! #### O50: BOARD_MODE, BOARD_AREA and BOARD_MASK -/

section
variable {s : State}

theorem exec_boardMode {a b c : Byte} (taken : s.Takes ⟨kindBoardMode, [a, b, c]⟩) :
    exec (.boardMode [a, b, c]) s = .next (s.dropInbound.boardMode [a, b, c]) :=
  congrArg Host.Outcome.next (State.take_owner _ taken rfl)

theorem exec_boardArea {f a b c d : Byte} (taken : s.Takes ⟨kindBoardArea, [f, a, b, c, d]⟩) :
    exec (.boardArea [f, a, b, c, d]) s = .next (s.dropInbound.boardArea [f, a, b, c, d]) :=
  congrArg Host.Outcome.next (State.take_owner _ taken rfl)

theorem rowOfCode_code : ∀ d : Row, rowOfCode (BitVec.ofNat 8 d.val) = some d := by decide

theorem toNat_of_row {b : Byte} {d : Row} (named : rowOfCode b = some d) : b.toNat = d.val := by
  unfold rowOfCode at named
  split at named
  · exact congrArg Fin.val (Option.some.inj named)
  · exact absurd named (by simp)

theorem boardModeOf_of_unknown {code a b : Byte}
    (unknown : 3 < code.toNat ∨ code = 3 ∧ (b.toNat < a.toNat ∨ 11 < b.toNat)) : boardModeOf [code, a, b] = none := by
  have small (n : Nat) (is : code.toNat = n) (le : n ≤ 2) : False := by
    obtain large | ⟨rfl, -⟩ := unknown
    · omega
    · exact absurd (show n = 3 from is.symm) (by omega)
  unfold boardModeOf
  split
  next is => exact (small 0 is (by decide)).elim
  next is => exact (small 1 is (by decide)).elim
  next is => exact (small 2 is (by decide)).elim
  next first last is hf hl =>
    have ha : a.toNat = first.val := toNat_of_row hf
    have hb : b.toNat = last.val := toNat_of_row hl
    refine if_neg fun le => ?_
    have le : first.val ≤ last.val := le
    obtain large | ⟨-, down | far⟩ := unknown
    · exact absurd (show code.toNat = 3 from is) (by omega)
    · omega
    · omega
  next => rfl

theorem State.boardMode_of_mode {payload : Payload} {m : BoardMode} (named : boardModeOf payload = some m) :
    s.boardMode payload = (s.onBoard fun b => b.setMode m).answer kindBoardMode .done [] := by
  rw [State.boardMode, named]

theorem State.boardMode_of_unknown {payload : Payload} (unknown : boardModeOf payload = none) :
    s.boardMode payload = s.answer kindBoardMode .badValue [] := by
  rw [State.boardMode, unknown]

/-- Another mode: what it marks and what it puts in the mode frame slot (R171). -/
theorem Board.setMode_of_ne {b : Board} {m : BoardMode} (ne : m ≠ b.mode) :
    b.setMode m =
      { b with
        mode := m
        dirty := if b.mode = .off ∨ b.mode = .test then Vector.replicate 12 true else b.dirty
        modeSlot := if m = .off then some true else if b.mode = .off then some false else b.modeSlot } := by
  obtain ⟨cells, area, cursor, window, locks, clear, layout, freeze, spent, map, dirty, mode, modeSlot, moduleSlot, chain,
    rotation, sinceRow1⟩ := b
  dsimp only at ne
  refine (if_neg ne.symm).trans ?_
  cases mode with
  | off => simp [Board.markAll, modeSlotAfter, ne]
  | test => cases m <;> simp [Board.markAll, modeSlotAfter]
  | live => cases m <;> simp [modeSlotAfter]
  | partialBand first last => cases m <;> simp [modeSlotAfter]

theorem State.boardArea_of_area {payload : Payload} {r : Rect} (free : s.board.clear = none) (named : areaOf payload = some r) :
    s.boardArea payload = (s.onBoard fun b => b.setArea r).answer kindBoardArea .done [] := by
  simp [State.boardArea, Board.busy, free, named]

theorem State.boardArea_of_unknown {payload : Payload} (free : s.board.clear = none) (unknown : areaOf payload = none) :
    s.boardArea payload = s.answer kindBoardArea .badValue [] := by
  simp [State.boardArea, Board.busy, free, unknown]

theorem Board.busy_iff (b : Board) : b.busy = true ↔ b.clear ≠ none := Option.isSome_iff_ne_none

theorem areaOf_of_unknown {f a b c d : Byte}
    (unknown : f = 0 ∧ ¬ (a.toNat ≤ c.toNat ∧ c.toNat ≤ 31 ∧ b.toNat ≤ d.toNat ∧ d.toNat ≤ 11)
      ∨ f = 1 ∧ ¬ (1 ≤ c.toNat ∧ 1 ≤ d.toNat ∧ a.toNat + c.toNat ≤ 32 ∧ b.toNat + d.toNat ≤ 12) ∨ 1 < f.toNat) :
    areaOf [f, a, b, c, d] = none := by
  obtain ⟨rfl, misfit⟩ | ⟨rfl, misfit⟩ | large := unknown
  · exact if_neg misfit
  · exact if_neg misfit
  · unfold areaOf
    split
    next is => exact absurd (show f.toNat = 0 from is) (by omega)
    next is => exact absurd (show f.toNat = 1 from is) (by omega)
    next => rfl

theorem toNat_le_of_window {b : Byte} {m : WindowMode} (named : windowOfCode b = some m) : b.toNat ≤ 2 := by
  unfold windowOfCode at named
  split at named
  · omega
  · omega
  · omega
  · exact absurd named (by simp)

theorem exec_boardMask {payload : Payload} (taken : s.Takes ⟨kindBoardMask, payload⟩) (size : payload.length = 9) :
    exec (.boardMask payload) s = .next (s.dropInbound.boardMask payload) :=
  congrArg Host.Outcome.next (State.take_owner _ taken (congrArg some size.symm))

end

theorem State.onBoard_of_eq {s : State} {f : Board → Board} {b : Board} (is : f s.board = b) :
    s.onBoard f = { s with board := b } := by
  rw [← is]
  rfl

/-- Settles O50, command by command. -/
theorem boardSettingsAreTaken : Obligations.BoardSettingsAreTaken := by
  refine ⟨fun s code a b taken => ⟨fun unknown => ?_, fun m named => ?_⟩, ⟨fun s f a b c d taken => ⟨fun busy => ?_, fun free => ?_⟩, ?_, ?_⟩⟩
  · rw [exec_boardMode taken, State.boardMode_of_unknown (boardModeOf_of_unknown unknown)]
    rfl
  · have mode : boardModeOf [code, a, b] = some m := by
      obtain ⟨rfl, rfl⟩ | ⟨rfl, rfl⟩ | ⟨rfl, rfl⟩ | ⟨rfl, first, last, rfl, rfl, le, rfl⟩ := named
      · rfl
      · rfl
      · rfl
      · unfold boardModeOf
        simp only [num8, byteAt, List.getD_cons_zero, List.getD_cons_succ, rowOfCode_code]
        exact if_pos le
    rw [exec_boardMode taken, State.boardMode_of_mode mode]
    refine ⟨fun same => ?_, fun ne => ?_⟩
    · rw [State.onBoard_of_eq (s := s.dropInbound) (f := fun b => b.setMode m) (b := s.board) (if_pos same.symm)]
      rfl
    · rw [State.onBoard_of_eq (s := s.dropInbound) (Board.setMode_of_ne ne)]
      rfl
  · rw [exec_boardArea taken]
    exact congrArg Host.Outcome.next (if_pos ((Board.busy_iff s.board).2 busy))
  · rw [exec_boardArea taken]
    refine ⟨fun corners across wide down high => ?_, fun sized width height wide high => ?_, fun unknown => ?_⟩
    · subst corners
      exact congrArg _ (State.boardArea_of_area (s := s.dropInbound) free (if_pos ⟨across, wide, down, high⟩))
    · subst sized
      exact congrArg _ (State.boardArea_of_area (s := s.dropInbound) free (if_pos ⟨width, height, wide, high⟩))
    · exact congrArg _ (State.boardArea_of_unknown (s := s.dropInbound) free (areaOf_of_unknown unknown))
  · intro s mode x0 y0 x1 y1 red green blue char m taken named across wide down high
    have corners : cornersOf [mode, x0, y0, x1, y1, boolCode red, boolCode green, boolCode blue, boolCode char] 1 =
        some ⟨x0.toNat, y0.toNat, x1.toNat, y1.toNat⟩ := if_pos ⟨across, wide, down, high⟩
    have window : windowOfCode mode = some m := by
      obtain ⟨rfl, rfl⟩ | ⟨rfl, rfl⟩ | ⟨rfl, rfl⟩ := named <;> rfl
    have masks : masksOf [mode, x0, y0, x1, y1, boolCode red, boolCode green, boolCode blue, boolCode char] =
        some (⟨m, ⟨x0.toNat, y0.toNat, x1.toNat, y1.toNat⟩⟩, ⟨red, green, blue, char⟩) := by
      unfold masksOf
      rw [corners]
      simp only [byteAt, List.getD_cons_zero, List.getD_cons_succ, window, boolOfCode_code]
    rw [exec_boardMask taken rfl, State.boardMask, masks]
    rfl
  · intro s mode x0 y0 x1 y1 r g b c taken unknown
    rw [exec_boardMask taken rfl, State.boardMask]
    split
    next window locks named =>
      exfalso
      unfold masksOf at named
      split at named
      next w rect red green blue char hw hc hr hg hb hx =>
        have mode_le := toNat_le_of_window hw
        have red_le := toNat_le_of_bool hr
        have green_le := toNat_le_of_bool hg
        have blue_le := toNat_le_of_bool hb
        have char_le := toNat_le_of_bool hx
        have corners : x0.toNat ≤ x1.toNat ∧ x1.toNat ≤ 31 ∧ y0.toNat ≤ y1.toNat ∧ y1.toNat ≤ 11 := by
          by_contra misfit
          exact absurd ((if_neg misfit).symm.trans hc) (by simp)
        simp only [byteAt, List.getD_cons_zero, List.getD_cons_succ] at mode_le red_le green_le blue_le char_le
        omega
      next => exact absurd named (by simp)
    next => rfl

end Sys2Proof.Machine


/-! ### What a write of memory rows marks (chapter 10, 10.6; R170, R173) -/

namespace Sys2Proof.Machine

/-! #### A list of display rows, each worked once -/

/-- What a frame of the row carries has changed while the row is being sent under RESTART for the first time. -/
def State.Restarts (s t : State) (d : Row) : Prop :=
  s.board.layout.policy = .restart ∧ t.rowContent d ≠ s.rowContent d
    ∧ ∃ content left, s.board.chain = some ⟨.row d content, left, false⟩

/-- The same, of a state whose memory has been written and whose frame is still on the chain. -/
def State.BeginsAgain (before s : State) (d : Row) : Prop :=
  s.board.layout.policy = .restart ∧ s.rowContent d ≠ before.rowContent d
    ∧ ∃ content left, s.board.chain = some ⟨.row d content, left, false⟩

/-- The display rows of T are marked dirty, or the frame of the one that restarts begins again; all others are left. -/
structure State.MarksRows (s t : State) (T : Row → Prop) (restarts : Row → Prop) : Prop where
  kept : ∀ d, ¬ T d → t.board.dirty[d] = s.board.dirty[d]
  dirty : ∀ d, T d → ¬ restarts d → t.board.dirty[d] = true
  again : ∀ d, T d → restarts d →
    t.board.dirty[d] = false ∧ t.board.chain = some ⟨.row d (t.rowContent d), 20, true⟩
  chain : (∀ d, T d → ¬ restarts d) → t.board.chain = s.board.chain ∧ t.board.sinceRow1 = s.board.sinceRow1

section
variable (before s : State)

theorem State.changeRow_of_restarts {d : Row} (restarts : before.BeginsAgain s d) :
    before.changeRow s d = s.onBoard fun b =>
      { b with
        chain := some ⟨.row d (s.rowContent d), 20, true⟩, dirty := b.dirty.set d false
        sinceRow1 := if d = 1 then 0 else b.sinceRow1 } := by
  obtain ⟨policy, changed, content, left, chain⟩ := restarts
  rw [State.changeRow, if_neg changed]
  refine State.onBoard_of_eq (f := fun b => b.changeRow (s.rowContent d) d) ?_
  simp only [Board.changeRow, chain, policy, and_self, if_true, Config.rowFrameCounts]

theorem State.changeRow_of_marked {d : Row} (marked : ¬ before.BeginsAgain s d) :
    before.changeRow s d = s.onBoard fun b => b.markDirty d := by
  unfold State.changeRow
  split
  next => rfl
  next changed =>
    refine State.onBoard_of_eq (f := fun b => b.changeRow (s.rowContent d) d) ?_
    unfold Board.changeRow
    split
    next sent old left chain =>
      refine if_neg ?_
      rintro ⟨rfl, policy⟩
      exact marked ⟨policy, changed, old, left, chain⟩
    next => rfl

@[simp] theorem State.foldl_changeRow_rowContent (ds : List Row) (s : State) (k : Row) :
    (ds.foldl before.changeRow s).rowContent k = s.rowContent k := by
  induction ds generalizing s with
  | nil => rfl
  | cons d ds ih => exact (ih _).trans (State.changeRow_rowContent before s d k)

/-- Marking a list of rows that each occur once. -/
theorem State.foldl_changeRow_marks {ds : List Row} (once : ds.Nodup) (s : State) :
    s.MarksRows (ds.foldl before.changeRow s) (· ∈ ds) (before.BeginsAgain s) := by
  induction ds generalizing s with
  | nil => exact ⟨fun _ _ => rfl, fun d h => absurd h List.not_mem_nil, fun d h => absurd h List.not_mem_nil, fun _ => ⟨rfl, rfl⟩⟩
  | cons d ds ih =>
    obtain ⟨fresh, once⟩ := List.nodup_cons.1 once
    have ne {k : Row} (h : k ∈ ds) : k ≠ d := fun e => fresh (e ▸ h)
    obtain ⟨kept, dirty, again, chain⟩ := ih once (before.changeRow s d)
    have same (k : Row) : (before.changeRow s d).rowContent k = s.rowContent k := State.changeRow_rowContent before s d k
    have policy : (before.changeRow s d).board.layout = s.board.layout := (State.changeRow_frame before s d).board_layout
    have last (k : Row) : ((d :: ds).foldl before.changeRow s).rowContent k = s.rowContent k :=
      State.foldl_changeRow_rowContent before (d :: ds) s k
    have others {k : Row} (h : k ∉ d :: ds) : ((d :: ds).foldl before.changeRow s).board.dirty[k] = s.board.dirty[k] := by
      obtain ⟨apart, h⟩ := not_or.1 (List.mem_cons.not.1 h)
      exact (kept k h).trans (State.changeRow_dirty_of_ne before s apart)
    by_cases restarts : before.BeginsAgain s d
    · have eq := State.changeRow_of_restarts before s restarts
      have flagged : (before.changeRow s d).board.chain = some ⟨.row d (s.rowContent d), 20, true⟩ := by rw [eq]; rfl
      have cleared : (before.changeRow s d).board.dirty[d] = false := by
        rw [eq]
        exact Vector.getElem_set_self d.isLt
      have none_left (k : Row) (_ : k ∈ ds) : ¬ before.BeginsAgain (before.changeRow s d) k := by
        intro r
        obtain ⟨-, -, content, left, sent⟩ := r
        rw [flagged] at sent
        simp at sent
      obtain ⟨stays, -⟩ := chain none_left
      refine ⟨fun k => others, fun k h r => ?_, fun k h r => ?_, fun none => absurd restarts (none d List.mem_cons_self)⟩
      · obtain rfl | h := List.mem_cons.1 h
        · exact absurd restarts r
        · exact dirty k h (none_left k h)
      · obtain rfl | h := List.mem_cons.1 h
        · refine ⟨(kept k fresh).trans cleared, ?_⟩
          rw [last]
          exact stays.trans flagged
        · obtain ⟨-, -, content, left, sent⟩ := r
          obtain ⟨-, -, content', left', sent'⟩ := restarts
          rw [sent] at sent'
          simp only [Option.some.injEq, ChainFrame.mk.injEq, ChainContent.row.injEq] at sent'
          exact absurd sent'.1.1 (ne h)
    · have eq := State.changeRow_of_marked before s restarts
      have marked : (before.changeRow s d).board.dirty[d] = true := by
        rw [eq]
        exact Vector.getElem_set_self d.isLt
      have on : (before.changeRow s d).board.chain = s.board.chain := by rw [eq]; rfl
      have since : (before.changeRow s d).board.sinceRow1 = s.board.sinceRow1 := by rw [eq]; rfl
      have alike (k : Row) : before.BeginsAgain (before.changeRow s d) k ↔ before.BeginsAgain s k := by
        simp only [State.BeginsAgain, policy, same, on]
      simp only [alike] at dirty again chain
      refine ⟨fun k => others, fun k h r => ?_, fun k h r => ?_, fun none => ?_⟩
      · obtain rfl | h := List.mem_cons.1 h
        · exact (kept k fresh).trans marked
        · exact dirty k h r
      · obtain rfl | h := List.mem_cons.1 h
        · exact absurd r restarts
        · exact again k h r
      · obtain ⟨a, b⟩ := chain fun k h => none k (List.mem_cons_of_mem _ h)
        exact ⟨a.trans on, b.trans since⟩

end

/-! #### Row writes, each display row worked once -/

/-- Memory rows are written, and the display rows of T, whose memory has changed, are marked. -/
structure State.WritesRows (s t : State) (T : Row → Prop) : Prop extends s.MarksRows t T (s.Restarts t) where
  frame : s.OnlyShown t
  cells : ∀ d, ¬ T d → t.board.cells[s.board.map[d]] = s.board.cells[s.board.map[d]]
  changed : ∀ d, T d → t.board.cells[s.board.map[d]] ≠ s.board.cells[s.board.map[d]]

section
variable {s t u : State} {T U : Row → Prop}

theorem State.OnlyShown.layout (h : s.OnlyShown t) : t.board.layout = s.board.layout := by rw [h]
theorem State.OnlyShown.map (h : s.OnlyShown t) : t.board.map = s.board.map := by rw [h]

/-- The content of a row depends on its own memory row alone. -/
theorem State.OnlyShown.rowContent (h : s.OnlyShown t) {d : Row}
    (cells : t.board.cells[s.board.map[d]] = s.board.cells[s.board.map[d]]) : t.rowContent d = s.rowContent d := by
  have text : t.clockText = s.clockText := by
    rw [h]
    rfl
  simp only [State.rowContent, text, h.map, h.layout, cells]

/-- After a work the frame on the chain is the one before, or has begun again. -/
theorem State.MarksRows.chain_or {restarts : Row → Prop} (h : s.MarksRows t T restarts) :
    t.board.chain = s.board.chain ∨ ∃ d content, t.board.chain = some ⟨.row d content, 20, true⟩ := by
  by_cases none : ∀ d, T d → ¬ restarts d
  · exact .inl (h.chain none).1
  · push Not at none
    obtain ⟨d, worked, restart⟩ := none
    exact .inr ⟨d, _, (h.again d worked restart).2⟩

/-- The same marks, of a state that differs in memory alone, with rows and restarts named otherwise. -/
theorem State.MarksRows.congr {restarts again : Row → Prop} {memory : Board → Vector CellRow 12}
    (h : (s.onBoard fun b => { b with cells := memory b }).MarksRows t T restarts) (rows : ∀ d, T d ↔ U d)
    (alike : ∀ d, again d ↔ restarts d) : s.MarksRows t U again :=
  { kept := fun d none => h.kept d ((rows d).not.2 none)
    dirty := fun d worked r => h.dirty d ((rows d).2 worked) ((alike d).not.1 r)
    again := fun d worked r => h.again d ((rows d).2 worked) ((alike d).1 r)
    chain := fun none => h.chain fun d worked r => none d ((rows d).1 worked) ((alike d).2 r) }

theorem State.WritesRows.refl (s : State) : s.WritesRows s fun _ => False :=
  { kept := fun _ _ => rfl, dirty := nofun, again := nofun, chain := fun _ => ⟨rfl, rfl⟩
    frame := .refl s, cells := fun _ _ => rfl, changed := nofun }

theorem State.WritesRows.congr (h : s.WritesRows t T) (rows : ∀ d, T d ↔ U d) : s.WritesRows t U := by
  obtain rfl : T = U := funext fun d => propext (rows d)
  exact h

/-- Two writes that work different display rows. -/
theorem State.WritesRows.trans (h : s.WritesRows t T) (k : t.WritesRows u U) (apart : ∀ d, T d → ¬ U d) :
    s.WritesRows u fun d => T d ∨ U d := by
  have map : t.board.map = s.board.map := h.frame.map
  have layout : t.board.layout = s.board.layout := h.frame.layout
  have later (d : Row) (keeps : ¬ U d) : u.board.cells[s.board.map[d]] = t.board.cells[s.board.map[d]] := by
    simpa only [map] using k.cells d keeps
  have first (d : Row) (worked : T d) : s.Restarts u d ↔ s.Restarts t d := by
    have same : u.rowContent d = t.rowContent d := k.frame.rowContent (k.cells d (apart d worked))
    simp only [State.Restarts, same]
  have second (d : Row) (worked : U d) : s.Restarts u d ↔ t.Restarts u d := by
    have unworked : ¬ T d := fun early => apart d early worked
    have same : t.rowContent d = s.rowContent d := h.frame.rowContent (h.cells d unworked)
    refine and_congr (by rw [layout]) (and_congr (by rw [same]) ⟨?_, ?_⟩)
    · rintro ⟨content, left, sent⟩
      refine ⟨content, left, (h.chain fun e early r => ?_).1.trans sent⟩
      obtain ⟨-, -, content', left', sent'⟩ := r
      rw [sent] at sent'
      simp only [Option.some.injEq, ChainFrame.mk.injEq, ChainContent.row.injEq] at sent'
      exact unworked (sent'.1.1 ▸ early)
    · rintro ⟨content, left, sent⟩
      obtain on | ⟨e, flagged, again⟩ := h.chain_or
      · exact ⟨content, left, on.symm.trans sent⟩
      · rw [sent] at again
        simp at again
  refine
    { kept := fun d none => ?_, dirty := fun d worked r => ?_, again := fun d worked r => ?_, chain := fun none => ?_
      frame := h.frame.trans k.frame, cells := fun d none => ?_, changed := fun d worked => ?_ }
  · obtain ⟨n, m⟩ := not_or.1 none
    exact (k.kept d m).trans (h.kept d n)
  · obtain early | late := worked
    · exact (k.kept d (apart d early)).trans (h.dirty d early ((first d early).not.1 r))
    · exact k.dirty d late ((second d late).not.1 r)
  · obtain early | late := worked
    · obtain ⟨cleared, sent⟩ := h.again d early ((first d early).1 r)
      have same : u.rowContent d = t.rowContent d := k.frame.rowContent (k.cells d (apart d early))
      refine ⟨(k.kept d (apart d early)).trans cleared, ?_⟩
      rw [same, (k.chain fun e _ r => ?_).1, sent]
      obtain ⟨-, -, content, left, sent'⟩ := r
      rw [sent] at sent'
      simp at sent'
    · exact k.again d late ((second d late).1 r)
  · obtain ⟨on, since⟩ := h.chain fun d early r => none d (.inl early) ((first d early).2 r)
    obtain ⟨on', since'⟩ := k.chain fun d late r => none d (.inr late) ((second d late).2 r)
    exact ⟨on'.trans on, since'.trans since⟩
  · obtain ⟨n, m⟩ := not_or.1 none
    exact (later d m).trans (h.cells d n)
  · obtain early | late := worked
    · rw [later d (apart d early)]
      exact h.changed d early
    · have changed := k.changed d late
      simp only [map] at changed
      rwa [← h.cells d fun early => apart d early late]

theorem mem_allRows : ∀ d : Row, d ∈ allRows := by decide

/-- A row of memory is written: the display rows that show it are worked, if it changes. -/
theorem State.writeRow_writesRows (s : State) (y : Row) (row : CellRow) :
    s.WritesRows (s.writeRow y row) fun d => s.board.map[d] = y ∧ s.board.cells[y] ≠ row := by
  have frame := s.writeRow_frame y row
  have cells := s.writeRow_cells y row
  have marks : s.MarksRows (s.writeRow y row) (fun d => s.board.map[d] = y ∧ s.board.cells[y] ≠ row)
      (s.Restarts (s.writeRow y row)) := by
    unfold State.writeRow
    split
    next same =>
      exact ⟨fun _ _ => rfl, fun d worked => absurd same worked.2, fun d worked => absurd same worked.2, fun _ => ⟨rfl, rfl⟩⟩
    next differs =>
      have once : (allRows.filter fun d => s.board.map[d] = y).Nodup := List.Nodup.filter _ (by decide)
      have mem (d : Row) : (d ∈ allRows.filter fun d => s.board.map[d] = y) ↔ s.board.map[d] = y ∧ s.board.cells[y] ≠ row := by
        rw [List.mem_filter, decide_eq_true_iff]
        exact ⟨fun h => ⟨h.2, differs⟩, fun h => ⟨mem_allRows d, h.1⟩⟩
      refine (State.foldl_changeRow_marks s once _).congr mem fun d => ?_
      simp only [State.Restarts, State.BeginsAgain, State.foldl_changeRow_rowContent]
      rfl
  refine { toMarksRows := marks, frame, cells := fun d none => ?_, changed := fun d worked => ?_ }
  · rw [cells]
    by_cases shows : s.board.map[d] = y
    · have same : s.board.cells[y] = row := not_not.1 fun differs => none ⟨shows, differs⟩
      rw [← same]
      exact congrArg (fun cells : Vector CellRow 12 => cells[s.board.map[d]]) (Vector.set_getElem_self _)
    · exact Vector.getElem_set_ne _ _ fun e => shows (Fin.ext e.symm)
  · obtain ⟨rfl, differs⟩ := worked
    rw [cells]
    exact fun e => differs ((Vector.getElem_set_self _).symm.trans e).symm

/-- Several rows of memory are written, each once. -/
theorem State.foldl_writeRow_writesRows (s : State) (cells : Vector CellRow 12) {ys : List Row} (once : ys.Nodup) :
    s.WritesRows (ys.foldl (fun t y => t.writeRow y cells[y]) s) (fun d =>
      s.board.map[d] ∈ ys ∧ s.board.cells[s.board.map[d]] ≠ cells[s.board.map[d]])
      ∧ ∀ y : Row, (ys.foldl (fun t y => t.writeRow y cells[y]) s).board.cells[y] =
          if y ∈ ys then cells[y] else s.board.cells[y] := by
  induction ys generalizing s with
  | nil => exact ⟨State.WritesRows.congr (.refl s) fun d => by simp, fun y => by simp⟩
  | cons y ys ih =>
    obtain ⟨fresh, once⟩ := List.nodup_cons.1 once
    obtain ⟨rest, memory⟩ := ih (s.writeRow y cells[y]) once
    have first := s.writeRow_writesRows y cells[y]
    have map : (s.writeRow y cells[y]).board.map = s.board.map := first.frame.map
    have other {k : Row} (ne : k ≠ y) : (s.writeRow y cells[y]).board.cells[k] = s.board.cells[k] := by
      rw [State.writeRow_cells]
      exact Vector.getElem_set_ne _ _ fun e => ne (Fin.ext e.symm)
    simp only [map] at rest
    have rows (k : Row) : (k = y ∧ s.board.cells[y] ≠ cells[y]
        ∨ k ∈ ys ∧ (s.writeRow y cells[y]).board.cells[k] ≠ cells[k]) ↔ k ∈ y :: ys ∧ s.board.cells[k] ≠ cells[k] := by
      by_cases this : k = y
      · subst this
        simp [fresh]
      · rw [other this, List.mem_cons]
        simp only [this, false_and, false_or]
    refine ⟨(first.trans rest fun d early late => fresh (early.1 ▸ late.1)).congr fun d => rows _, fun k => ?_⟩
    · refine (memory k).trans ?_
      by_cases this : k = y
      · subst this
        rw [if_neg fresh, if_pos List.mem_cons_self, State.writeRow_cells]
        exact Vector.getElem_set_self _
      · rw [other this]
        simp [this]

/-- A write works the display rows whose memory differs after it, by R170 and R173. -/
theorem State.WritesRows.writeMarks (h : s.WritesRows t T) : s.WriteMarks t := by
  have changed (d : Row) (differs : t.board.cells[s.board.map[d]] ≠ s.board.cells[s.board.map[d]]) : T d :=
    not_not.1 fun none => differs (h.cells d none)
  refine fun d => ⟨fun same => h.kept d fun worked => h.changed d worked same, fun differs => ?_, fun differs clean => ?_,
    fun all => h.chain fun k worked r => ?_⟩
  · have worked := changed d differs
    refine ⟨fun clean => not_not.1 fun r => ?_, fun r => (h.again d worked r).1⟩
    rw [h.dirty d worked r] at clean
    exact absurd clean (by decide)
  · have worked := changed d differs
    refine (h.again d worked (not_not.1 fun r => ?_)).2
    rw [h.dirty d worked r] at clean
    exact absurd clean (by decide)
  · obtain dirty | same := all k
    · rw [(h.again k worked r).1] at dirty
      exact absurd dirty (by decide)
    · exact h.changed k worked same

end

end Sys2Proof.Machine


/-! ### BOARD_WRITE, BOARD_READ and BOARD_CLEAR (chapter 10, 10.2 and 10.3) -/

namespace Sys2Proof.Machine

/-! #### Cells in a payload -/

section

theorem byteAt_append (p q : Payload) (i : Nat) : byteAt (p ++ q) (p.length + i) = byteAt q i := by
  simp only [byteAt, List.getD_eq_getElem?_getD]
  rw [List.getElem?_append_right (Nat.le_add_right _ _), Nat.add_sub_cancel_left]

theorem cellOf_bytes (p q : Payload) (c : Cell) : cellOf (p ++ (c.bytes ++ q)) p.length = some c := by
  have code : byteAt (p ++ (c.bytes ++ q)) p.length = c.code.setWidth 8 := byteAt_append p _ 0
  have colour : byteAt (p ++ (c.bytes ++ q)) (p.length + 1) = c.colour.setWidth 8 := byteAt_append p _ 1
  obtain ⟨char, plane⟩ := c
  have charLt := char.isLt
  have planeLt := plane.isLt
  have charCode : (char.setWidth 8).toNat = char.toNat := by
    rw [BitVec.toNat_setWidth]
    omega
  have planeCode : (plane.setWidth 8).toNat = plane.toNat := by
    rw [BitVec.toNat_setWidth]
    omega
  simp only [cellOf, num8, code, colour, charCode, planeCode, BitVec.ofNat_toNat, BitVec.setWidth_eq]
  exact if_pos ⟨by omega, by omega⟩

/-- Cells laid out in a payload are read as they are. -/
theorem cellsOf_bytes (cells : List Cell) (p : Payload) :
    cellsOf (p ++ (cells.map Cell.bytes).flatten) p.length cells.length = some cells := by
  induction cells generalizing p with
  | nil => rfl
  | cons c cs ih =>
    have rest := ih (p ++ c.bytes)
    rw [List.length_append, List.append_assoc] at rest
    have first := cellOf_bytes p (cs.map Cell.bytes).flatten c
    have two : c.bytes.length = 2 := rfl
    rw [two] at rest
    simp only [List.map_cons, List.flatten_cons, List.length_cons, cellsOf, first, rest]

theorem cellsOf_of_bad {p : Payload} {i count n : Nat} (among : n < count)
    (bad : 127 < num8 p (i + 2 * n) ∨ 7 < num8 p (i + 2 * n + 1)) : cellsOf p i count = none := by
  induction count generalizing i n with
  | zero => omega
  | succ count ih =>
    rw [cellsOf]
    cases n with
    | zero =>
      have refused : cellOf p i = none := if_neg fun fits => by
        rw [Nat.mul_zero, Nat.add_zero] at bad
        omega
      simp [refused]
    | succ n =>
      have later : cellsOf p (i + 2) count = none := ih (n := n) (by omega) (by
        rw [show i + 2 + 2 * n = i + 2 * (n + 1) by omega]
        exact bad)
      rw [later]
      cases cellOf p i <;> rfl

end

/-! #### A write, cell after cell (R158 to R160) -/

section
variable {b : Board}

/-- The cell of a copy of board memory. -/
def cellIn (cells : Vector CellRow 12) (x y : Nat) : Cell := ((cells[y]?).bind fun row => row[x]?).getD Cell.blank

theorem Board.cellAt_eq (b : Board) (x y : Nat) : b.cellAt x y = cellIn b.cells x y := rfl

theorem cellIn_eq (cells : Vector CellRow 12) {x y : Nat} (hx : x < 32) (hy : y < 12) : cellIn cells x y = cells[y][x] := by
  simp [cellIn, hx, hy]

theorem cellIn_putCell (cells : Vector CellRow 12) {x y a d : Nat} (c : Cell) (hx : x < 32) (hy : y < 12) :
    cellIn (putCell cells a d c) x y = if x = a ∧ y = d then c else cellIn cells x y := by
  rw [cellIn_eq _ hx hy, cellIn_eq _ hx hy, putCell]
  by_cases row : y = d
  · subst row
    simp only [hy, dif_pos, Vector.getElem_set_self]
    by_cases col : x = a
    · subst col
      rw [if_pos ⟨rfl, trivial⟩, Vector.getElem_setIfInBounds_self]
    · rw [if_neg fun h => col h.1, Vector.getElem_setIfInBounds_ne _ (Ne.symm col)]
  · rw [if_neg fun h => row h.2]
    split
    · exact congrArg (fun r : CellRow => r[x]) (Vector.getElem_set_ne _ _ (Ne.symm row))
    · rfl

theorem Board.writeCell_of_masked {w : WriteProgress} (c : Cell) (masked : b.window.masks w.cursor.x w.cursor.y = true) :
    b.writeCell w c = { w with cursor := w.cursor.next b.area, skipped := w.skipped + 1 } :=
  if_pos masked

theorem Board.writeCell_of_open {w : WriteProgress} (c : Cell) (free : b.window.masks w.cursor.x w.cursor.y = false) :
    b.writeCell w c =
      { w with
        cells := putCell w.cells w.cursor.x w.cursor.y (b.locks.apply (cellIn w.cells w.cursor.x w.cursor.y) c)
        cursor := w.cursor.next b.area, written := w.written + 1 } :=
  if_neg (by rw [free]; decide)

/-- The memory after each cell of a write. -/
def Board.WritesAs (b : Board) (cells : List Cell) (at' : Nat → Cursor) (mem : Nat → Nat → Nat → Cell) : Prop :=
  (∀ n, at' (n + 1) = (at' n).next b.area)
    ∧ ∀ n x y, mem (n + 1) x y =
      if x = (at' n).x ∧ y = (at' n).y ∧ b.window.masks x y = false then
        b.locks.apply (mem n x y) (cells.getD n Cell.blank)
      else mem n x y

/-- The number of cells a write does not skip. -/
def Board.writtenBy (b : Board) (at' : Nat → Cursor) (count : Nat) : Nat :=
  ((List.range count).filter fun n => !b.window.masks (at' n).x (at' n).y).length

theorem Board.writtenBy_succ (b : Board) (at' : Nat → Cursor) (count : Nat) :
    b.writtenBy at' (count + 1) =
      (if b.window.masks (at' 0).x (at' 0).y then 0 else 1) + b.writtenBy (fun n => at' (n + 1)) count := by
  unfold Board.writtenBy
  rw [List.range_succ_eq_map, List.filter_cons, List.filter_map, Function.comp_def]
  cases b.window.masks (at' 0).x (at' 0).y <;> simp [Nat.add_comm]

theorem Board.foldl_writeCell {cells : List Cell} {at' : Nat → Cursor} {mem : Nat → Nat → Nat → Cell}
    (as : b.WritesAs cells at' mem) {w : WriteProgress} (cursor : at' 0 = w.cursor)
    (memory : ∀ x y, x < 32 → y < 12 → mem 0 x y = cellIn w.cells x y) :
    (cells.foldl b.writeCell w).cursor = at' cells.length
      ∧ (∀ x y, x < 32 → y < 12 → cellIn (cells.foldl b.writeCell w).cells x y = mem cells.length x y)
      ∧ (cells.foldl b.writeCell w).written = w.written + b.writtenBy at' cells.length
      ∧ (cells.foldl b.writeCell w).skipped + b.writtenBy at' cells.length = w.skipped + cells.length := by
  induction cells generalizing at' mem w with
  | nil => exact ⟨cursor.symm, fun x y hx hy => (memory x y hx hy).symm, rfl, rfl⟩
  | cons c cs ih =>
    obtain ⟨moves, writes⟩ := as
    have as' : b.WritesAs cs (fun n => at' (n + 1)) fun n => mem (n + 1) :=
      ⟨fun n => moves (n + 1), fun n => writes (n + 1)⟩
    have next : at' 1 = w.cursor.next b.area := (moves 0).trans (by rw [cursor])
    rw [List.foldl_cons, List.length_cons, Board.writtenBy_succ, cursor]
    cases masked : b.window.masks w.cursor.x w.cursor.y with
    | true =>
      rw [Board.writeCell_of_masked c masked]
      obtain ⟨last, cells, written, skipped⟩ := ih as' (w := { w with cursor := w.cursor.next b.area, skipped := w.skipped + 1 }) next
        fun x y hx hy => by
          rw [writes 0, cursor, if_neg, memory x y hx hy]
          rintro ⟨rfl, rfl, free⟩
          exact absurd (masked.symm.trans free) (by decide)
      refine ⟨last, cells, ?_, ?_⟩
      · rw [written]
        simp
      · simp only [if_true]
        dsimp only at skipped
        omega
    | false =>
      rw [Board.writeCell_of_open c masked]
      obtain ⟨last, cells, written, skipped⟩ := ih as' (w :=
        { w with
          cells := putCell w.cells w.cursor.x w.cursor.y (b.locks.apply (cellIn w.cells w.cursor.x w.cursor.y) c)
          cursor := w.cursor.next b.area, written := w.written + 1 }) next
        fun x y hx hy => by
          rw [writes 0, cursor, cellIn_putCell _ _ hx hy]
          by_cases here : x = w.cursor.x ∧ y = w.cursor.y
          · obtain ⟨rfl, rfl⟩ := here
            rw [if_pos ⟨rfl, rfl, masked⟩, if_pos ⟨rfl, rfl⟩, memory _ _ hx hy]
            rfl
          · rw [if_neg fun h => here ⟨h.1, h.2.1⟩, if_neg here, memory x y hx hy]
      refine ⟨last, cells, ?_, ?_⟩
      · rw [written]
        simp
        omega
      · dsimp only at skipped
        simp only [Bool.false_eq_true, if_false]
        omega

/-- What the cells of a write make of memory, cursor and counts. -/
theorem Board.writeCells_does {cells : List Cell} {at' : Nat → Cursor} {mem : Nat → Nat → Nat → Cell}
    (as : b.WritesAs cells at' mem) (start : at' 0 = b.cursor)
    (memory : ∀ x y, x < 32 → y < 12 → mem 0 x y = b.cellAt x y) :
    (b.writeCells cells).cursor = at' cells.length
      ∧ (∀ x y, x < 32 → y < 12 → cellIn (b.writeCells cells).cells x y = mem cells.length x y)
      ∧ (b.writeCells cells).written = b.writtenBy at' cells.length
      ∧ (b.writeCells cells).skipped = cells.length - b.writtenBy at' cells.length := by
  obtain ⟨cursor, after, written, skipped⟩ :=
    Board.foldl_writeCell as (w := ⟨b.cells, b.cursor, 0, 0⟩) start memory
  refine ⟨cursor, after, written.trans (Nat.zero_add _), Nat.eq_sub_of_add_eq (skipped.trans (Nat.zero_add _))⟩

end

/-! #### O51 -/

section
variable {s : State}

theorem exec_boardWrite {payload : Payload} (taken : s.Takes ⟨kindBoardWrite, payload⟩)
    (size : payload.length = 1 + 2 * num8 payload 0) :
    exec (.boardWrite payload) s = .next (s.dropInbound.boardWrite payload) :=
  congrArg Host.Outcome.next (State.take_owner _ taken (congrArg some size.symm))

theorem exec_boardRead {count : Byte} (taken : s.Takes ⟨kindBoardRead, [count]⟩) :
    exec (.boardRead [count]) s = .next (s.dropInbound.boardRead [count]) :=
  congrArg Host.Outcome.next (State.take_owner _ taken rfl)

theorem writeCellsOf_of_bad {payload : Payload} (bad : num8 payload 0 = 0 ∨ 32 < num8 payload 0
    ∨ ∃ n, n < num8 payload 0 ∧ (127 < num8 payload (2 * n + 1) ∨ 7 < num8 payload (2 * n + 2))) :
    writeCellsOf payload = none := by
  unfold writeCellsOf
  split
  next fits =>
    obtain zero | many | ⟨n, among, code⟩ := bad
    · omega
    · omega
    · refine cellsOf_of_bad among ?_
      rwa [Nat.add_comm 1 (2 * n)]
  next => rfl

theorem State.boardWrite_of_cells {payload : Payload} {cells : List Cell} (free : s.board.clear = none)
    (named : writeCellsOf payload = some cells) :
    s.boardWrite payload =
      (s.writeBoard (s.board.writeCells cells)).answer kindBoardWrite .done
        (be8 (s.board.writeCells cells).written ++ be8 (s.board.writeCells cells).skipped
          ++ (s.board.writeCells cells).cursor.bytes) := by
  simp [State.boardWrite, Board.busy, free, named]

/-- A write of a whole copy of board memory. -/
theorem State.putRows_writesRows (s : State) (cells : Vector CellRow 12) :
    ∃ T, s.WritesRows (s.putRows cells) T :=
  ⟨_, (s.foldl_writeRow_writesRows cells (ys := allRows) (by decide)).1⟩

theorem State.putRows_cells (s : State) (cells : Vector CellRow 12) : (s.putRows cells).board.cells = cells := by
  obtain ⟨-, memory⟩ := s.foldl_writeRow_writesRows cells (ys := allRows) (by decide)
  unfold State.putRows
  generalize allRows.foldl (fun t y => t.writeRow y cells[y]) s = t at memory ⊢
  refine Vector.ext fun i h => ?_
  have row := memory ⟨i, h⟩
  rw [if_pos (mem_allRows _)] at row
  exact row

/-- Cursor and clear have no part in what a write marks. -/
theorem State.WriteMarks.cursor {s t : State} (h : s.WriteMarks t) (c : Cursor) :
    s.WriteMarks (t.onBoard fun b => { b with cursor := c }) := h

theorem State.WriteMarks.clear {s t : State} (h : s.WriteMarks t) (c : Option Clear) :
    s.WriteMarks (t.onBoard fun b => { b with clear := c }) := h

/-- What the cells of a write bring about, whole. -/
structure State.PutsBoard (s t : State) (cells : Vector CellRow 12) (cursor : Cursor) : Prop where
  cells : t.board.cells = cells
  cursor : t.board.cursor = cursor
  only : t = { s with board := t.board }
  board : t.board =
    { s.board with
      cells := t.board.cells, cursor := t.board.cursor, dirty := t.board.dirty, chain := t.board.chain
      sinceRow1 := t.board.sinceRow1 }
  marks : s.WriteMarks t

theorem State.WritesRows.putsBoard {s t : State} {T : Row → Prop} (h : s.WritesRows t T) {cells : Vector CellRow 12}
    (memory : t.board.cells = cells) (cursor : Cursor) :
    s.PutsBoard (t.onBoard fun b => { b with cursor }) cells cursor := by
  have marks := h.writeMarks.cursor cursor
  have frame := h.frame
  unfold State.OnlyShown at frame
  refine ⟨memory, rfl, ?_, ?_, marks⟩
  · rw [frame]
    rfl
  · rw [frame]
    rfl

theorem State.writeBoard_putsBoard (s : State) (w : WriteProgress) : s.PutsBoard (s.writeBoard w) w.cells w.cursor := by
  obtain ⟨T, rows⟩ := s.putRows_writesRows w.cells
  exact rows.putsBoard (s.putRows_cells w.cells) w.cursor

/-- The cells from a cursor on, position by position (R161). -/
theorem Board.readCells_eq (b : Board) {at' : Nat → Cursor} (moves : ∀ n, at' (n + 1) = (at' n).next b.area) (count : Nat) :
    b.readCells (at' 0) count = ((List.range count).map fun n => b.cellAt (at' n).x (at' n).y, at' count) := by
  induction count generalizing at' with
  | zero => rfl
  | succ count ih =>
    have rest := ih (at' := fun n => at' (n + 1)) fun n => moves (n + 1)
    rw [moves 0] at rest
    simp only [Board.readCells, rest, List.range_succ_eq_map, List.map_cons, List.map_map, Function.comp_def]

end

/-- Settles O51: a write by `Board.foldl_writeCell` and `State.WritesRows.writeMarks`, a read by `Board.readCells_eq`. -/
theorem cellsAreWrittenAndRead : Obligations.CellsAreWrittenAndRead := by
  refine ⟨⟨fun s payload taken size => ⟨fun busy => ?_, fun free bad => ?_⟩,
    fun s cells payload at' mem spelled taken free pos few start moves memory writes => ?_⟩,
    fun s count taken bad => ?_, fun s count at' taken pos few start moves => ?_⟩
  · rw [exec_boardWrite taken size]
    exact congrArg Host.Outcome.next (if_pos ((Board.busy_iff s.board).2 busy))
  · have refused : s.dropInbound.boardWrite payload = s.dropInbound.answer kindBoardWrite .badValue [] := by
      simp [State.boardWrite, Board.busy, free, writeCellsOf_of_bad bad]
    rw [exec_boardWrite taken size, refused]
    rfl
  · have count : num8 payload 0 = cells.length := by
      rw [spelled]
      exact (BitVec.toNat_ofNat _ _).trans (Nat.mod_eq_of_lt (by omega))
    have size : payload.length = 1 + 2 * num8 payload 0 := by
      rw [count, spelled, List.length_cons, List.length_flatten]
      simp [Cell.bytes, Function.comp_def]
      omega
    have named : writeCellsOf payload = some cells := by
      refine (if_pos (by omega)).trans ?_
      rw [count, spelled]
      exact cellsOf_bytes cells [BitVec.ofNat 8 cells.length]
    obtain ⟨cursor, after, written, skipped⟩ := Board.writeCells_does (b := s.board) (cells := cells) ⟨moves, writes⟩ start
      fun x y _ _ => memory x y
    have puts := s.dropInbound.writeBoard_putsBoard (s.board.writeCells cells)
    refine ⟨_, s.board.writtenBy at' cells.length, (exec_boardWrite taken size).trans
      (congrArg _ (State.boardWrite_of_cells (s := s.dropInbound) free named)), ?_⟩
    rw [show s.dropInbound.board = s.board from rfl, written, skipped, cursor]
    generalize s.dropInbound.writeBoard (s.board.writeCells cells) = t at puts ⊢
    refine ⟨puts.cursor.trans cursor, fun x y hx hy => ?_, rfl, ?_, ?_, puts.board, puts.marks⟩
    · rw [← after x y hx hy, ← puts.cells]
      rfl
    · rw [puts.only]
      rfl
    · rw [puts.only]
      rfl
  · have outside : ¬ (1 ≤ count.toNat ∧ count.toNat ≤ 32) := by
      rintro ⟨pos, few⟩
      obtain rfl | many := bad
      · exact absurd pos (by decide)
      · omega
    rw [exec_boardRead taken]
    exact congrArg Host.Outcome.next (if_neg outside)
  · have read := s.board.readCells_eq moves count.toNat
    rw [start] at read
    rw [exec_boardRead taken]
    refine congrArg Host.Outcome.next ((if_pos ⟨pos, few⟩).trans ?_)
    have data : (s.dropInbound.board.readCells s.dropInbound.board.cursor (num8 [count] 0)) =
        ((List.range count.toNat).map fun n => s.board.cellAt (at' n).x (at' n).y, at' count.toNat) := read
    rw [data]
    dsimp only
    rw [List.map_map]
    simp only [Cursor.bytes, ← List.append_assoc]
    rfl

/-! #### O52 -/

section
variable {s : State}

theorem exec_boardClear {a b : Byte} (taken : s.Takes ⟨kindBoardClear, [a, b]⟩) :
    exec (.boardClear [a, b]) s = .next (s.dropInbound.boardClear [a, b]) :=
  congrArg Host.Outcome.next (State.take_owner _ taken rfl)

theorem State.boardClear_of_cell {payload : Payload} {fill : Cell} (free : s.board.clear = none)
    (named : cellOf payload 0 = some fill) :
    s.boardClear payload =
      (s.onBoard fun b => { b with clear := some ⟨fill, b.area.y0, Config.clearRowCounts⟩ }).answer kindBoardClear .done [] := by
  simp [State.boardClear, Board.busy, free, named]

theorem State.boardClear_of_unknown {payload : Payload} (free : s.board.clear = none) (unknown : cellOf payload 0 = none) :
    s.boardClear payload = s.answer kindBoardClear .badValue [] := by
  simp [State.boardClear, Board.busy, free, unknown]

/-- The cells of a row that a list of columns leaves (R162). -/
theorem Board.foldl_fillCell (b : Board) (fill : Cell) (y : Nat) (columns : List Nat) (row : CellRow) {x : Nat} (hx : x < 32) :
    (columns.foldl (b.fillCell fill y) row)[x] =
      if x ∈ columns ∧ b.window.masks x y = false ∧ b.layout.isAutoCell x y = false then b.locks.apply (b.cellAt x y) fill
      else row[x] := by
  induction columns generalizing row with
  | nil => simp
  | cons c columns ih =>
    have first : (b.fillCell fill y row c)[x] =
        if x = c ∧ b.window.masks x y = false ∧ b.layout.isAutoCell x y = false then b.locks.apply (b.cellAt x y) fill
        else row[x] := by
      unfold Board.fillCell
      by_cases here : x = c
      · subst here
        cases b.window.masks x y <;> cases b.layout.isAutoCell x y <;> simp
      · have other : (row.setIfInBounds c (b.locks.apply (b.cellAt c y) fill))[x] = row[x] :=
          Vector.getElem_setIfInBounds_ne _ (Ne.symm here)
        split <;> simp [here, other]
    refine (ih _).trans ?_
    simp only [first, List.mem_cons]
    by_cases free : b.window.masks x y = false ∧ b.layout.isAutoCell x y = false
    · simp only [free, and_true]
      by_cases here : x = c <;> simp [here]
    · simp [free]

theorem mem_columns (a b x : Nat) : x ∈ (List.range (b + 1 - a)).map (· + a) ↔ a ≤ x ∧ x ≤ b := by
  simp only [List.mem_map, List.mem_range]
  exact ⟨by rintro ⟨n, h, rfl⟩; omega, fun h => ⟨x - a, by omega, by omega⟩⟩

/-- The row a clear fills, cell by cell (R162). -/
theorem Board.filledRow_getElem (b : Board) (fill : Cell) (y : Row) {x : Nat} (hx : x < 32) :
    (b.filledRow fill y)[x] =
      if b.area.x0 ≤ x ∧ x ≤ b.area.x1 ∧ b.window.masks x y = false ∧ b.layout.isAutoCell x y = false then
        b.locks.apply (b.cellAt x y) fill
      else b.cellAt x y := by
  refine (b.foldl_fillCell fill y _ _ hx).trans ?_
  simp only [mem_columns, and_assoc, Board.cellAt_eq b, cellIn_eq _ hx y.isLt]
  rfl

/-- What a row of a clear brings about. -/
structure State.FillsRow (s t : State) (y : Row) (row : CellRow) (clear : Option Clear) : Prop where
  cells : t.board.cells = s.board.cells.set y row
  clear : t.board.clear = clear
  only : t = { s with board := t.board }
  board : t.board =
    { s.board with
      cells := t.board.cells, clear := t.board.clear, dirty := t.board.dirty, chain := t.board.chain
      sinceRow1 := t.board.sinceRow1 }
  marks : s.WriteMarks t

theorem State.WritesRows.fillsRow {s t : State} {T : Row → Prop} (h : s.WritesRows t T) {y : Row} {row : CellRow}
    (memory : t.board.cells = s.board.cells.set y row) (clear : Option Clear) :
    s.FillsRow (t.onBoard fun b => { b with clear }) y row clear := by
  have marks := h.writeMarks.clear clear
  have frame := h.frame
  unfold State.OnlyShown at frame
  refine ⟨memory, rfl, ?_, ?_, marks⟩
  · rw [frame]
    rfl
  · rw [frame]
    rfl

theorem State.fillNextRow_fillsRow {c : Clear} (running : s.board.clear = some c) (h : c.nextRow < 12) :
    s.FillsRow s.fillNextRow ⟨c.nextRow, h⟩ (s.board.filledRow c.fill ⟨c.nextRow, h⟩)
      (if c.nextRow < s.board.area.y1 then some { c with nextRow := c.nextRow + 1, wait := 10 } else none) := by
  have rows := s.writeRow_writesRows ⟨c.nextRow, h⟩ (s.board.filledRow c.fill ⟨c.nextRow, h⟩)
  have fills := rows.fillsRow (State.writeRow_cells _ _ _)
    (if c.nextRow < s.board.area.y1 then some { c with nextRow := c.nextRow + 1, wait := 10 } else none)
  have area : (s.writeRow ⟨c.nextRow, h⟩ (s.board.filledRow c.fill ⟨c.nextRow, h⟩)).board.area = s.board.area := by
    rw [rows.frame]
  unfold State.fillNextRow
  rw [running]
  dsimp only
  rw [dif_pos h]
  rw [← area] at fills ⊢
  exact fills

theorem exec_clearRowFill (free : s.resetHeld = false) {c : Clear} (running : s.board.clear = some c) (due : c.wait = 0) :
    exec .clearRowFill s = .next s.fillNextRow := by
  have ready : s.board.rowDue = true := by simp [Board.rowDue, running, due]
  exact congrArg Host.Outcome.next ((State.unlessHeld_of_free _ free).trans (if_pos ready))

end

/-- Settles O52: a row of a clear by `State.fillNextRow_fillsRow`, its cells by `Board.filledRow_getElem`. -/
theorem clearsRunRowByRow : Obligations.ClearsRunRowByRow := by
  refine ⟨fun s code colour taken => ⟨fun busy => ?_, fun free => ⟨fun unknown => ?_, fun char plane => ?_⟩⟩, fun s taken => ?_,
    fun s c free running due fits => ?_, fun s idle => ?_⟩
  · rw [exec_boardClear taken]
    exact congrArg Host.Outcome.next (if_pos ((Board.busy_iff s.board).2 busy))
  · have refused : cellOf [code, colour] 0 = none := if_neg fun named => by
      have char : code.toNat ≤ 127 := named.1
      have plane : colour.toNat ≤ 7 := named.2
      omega
    rw [exec_boardClear taken, State.boardClear_of_unknown (s := s.dropInbound) free refused]
    rfl
  · have named : cellOf [code, colour] 0 = some ⟨BitVec.ofNat 7 code.toNat, BitVec.ofNat 3 colour.toNat⟩ :=
      if_pos ⟨char, plane⟩
    rw [exec_boardClear taken, State.boardClear_of_cell (s := s.dropInbound) free named]
    rfl
  · have flag : boolCode s.board.busy = if s.board.clear = none then 0 else 1 := by
      unfold Board.busy
      cases s.board.clear <;> rfl
    refine (congrArg Host.Outcome.next (State.take_owner _ taken rfl)).trans ?_
    rw [show s.dropInbound.board = s.board from rfl, flag]
    rfl
  · obtain ⟨-, -, -, high, -, -, -, -, next⟩ := fits
    have row : c.nextRow < 12 := by
      have := next c running
      omega
    have fills := State.fillNextRow_fillsRow running row
    refine ⟨_, exec_clearRowFill free running due, ?_⟩
    generalize s.fillNextRow = t at fills ⊢
    refine ⟨fun x y hx hy => ?_, fills.clear, fills.only, fills.board, fills.marks⟩
    rw [Board.cellAt_eq, fills.cells, cellIn_eq _ hx hy]
    by_cases here : y = c.nextRow
    · subst here
      have set : (s.board.cells.set c.nextRow (s.board.filledRow c.fill ⟨c.nextRow, row⟩) row)[c.nextRow] =
          s.board.filledRow c.fill ⟨c.nextRow, row⟩ := Vector.getElem_set_self _
      refine (congrArg (fun r : CellRow => r[x]) set).trans ((s.board.filledRow_getElem c.fill ⟨c.nextRow, row⟩ hx).trans ?_)
      simp only [true_and]
    · have set : (s.board.cells.set c.nextRow (s.board.filledRow c.fill ⟨c.nextRow, row⟩) row)[y] = s.board.cells[y] :=
        Vector.getElem_set_ne _ _ (Ne.symm here)
      rw [if_neg fun h => here h.1, Board.cellAt_eq, cellIn_eq _ hx hy]
      exact congrArg (fun r : CellRow => r[x]) set
  · have idle' : ¬ s.board.rowDue = true := by
      unfold Board.rowDue
      cases running : s.board.clear with
      | none => simp
      | some c => simpa using idle c running
    change Host.Outcome.next (if s.resetHeld then s else if s.board.rowDue then s.fillNextRow else s) = _
    rw [if_neg idle', ite_self]

end Sys2Proof.Machine


/-! ### Texts of the board and the frames of the module chain (chapter 10, 10.4, 10.5, 10.8) -/

namespace Sys2Proof.Machine

/-! #### Texts, code by code (R166, R167) -/

/-- A code in colour 7. -/
def charCell (n : Nat) : Cell := ⟨BitVec.ofNat 7 n, 7⟩

theorem fieldCell_eq (codes : List Nat) (i : Nat) : fieldCell codes i = (codes.map charCell).getD i Cell.blank := by
  change charCell (codes.getD i 32) = (codes.map charCell).getD i (charCell 32)
  simp only [List.getD_eq_getElem?_getD, List.getElem?_map]
  cases codes[i]? <;> rfl

theorem timeText_eq (h : Nat) : rightAligned 8 (timeText h) = (timeCodes h).map charCell := by
  unfold timeText timeCodes shortNumber
  by_cases under : h < 1000
  · rw [if_pos (show h < 6000 by omega), if_pos (show h / 100 < 10 by omega), if_pos under]
    rfl
  · by_cases minute : h < 6000
    · rw [if_pos minute, if_neg (show ¬ h / 100 < 10 by omega), if_neg under, if_pos minute]
      change [_, _, _, _, _, _, _, _] = [_, _, _, _, _, _, _, _]
      rw [Nat.div_div_eq_div_mul]
      rfl
    · rw [if_neg minute, if_neg under, if_neg minute]
      by_cases ten : h < 60000
      · rw [if_pos (show h / 6000 < 10 by omega), if_pos ten]
        rfl
      · rw [if_neg (show ¬ h / 6000 < 10 by omega), if_neg ten]
        change [_, _, _, _, _, _, _, _] = [_, _, _, _, _, _, _, _]
        rw [Nat.div_div_eq_div_mul]
        rfl

theorem tenthsText_eq (n : Nat) : rightAligned 8 (tenthsText n) = (clockCodes n).map charCell := by
  unfold tenthsText clockCodes shortNumber
  dsimp only
  by_cases ten : n / 1000 < 6000
  · rw [if_pos (show n / 1000 / 600 < 10 by omega), if_pos ten]
    rfl
  · rw [if_neg (show ¬ n / 1000 / 600 < 10 by omega), if_neg ten, Nat.div_div_eq_div_mul (n / 1000) 600]
    rfl

/-- The clock field, cell by cell. -/
theorem State.clockText_eq (s : State) : rightAligned 8 s.clockText = s.clockFieldCodes.map charCell := by
  unfold State.clockText State.clockFieldCodes
  cases s.clock.phase with
  | stopped => rfl
  | prestart => rfl
  | running =>
    cases s.board.freeze with
    | none => exact tenthsText_eq _
    | some f => exact timeText_eq _
  | held =>
    unfold State.leadingFinal
    cases s.results.order with
    | nil => rfl
    | cons l ls =>
      cases final : (s.context l).final with
      | none =>
        simp only [List.head?_cons, Option.bind_some, final]
        rfl
      | some f =>
        simp only [List.head?_cons, Option.bind_some, final]
        exact timeText_eq _

theorem placeText_eq (c : LaneContext) (place : Option Nat) :
    rightAligned 2 (placeText c place) = (placeCodes c place).map charCell := by
  have number (n : Nat) : rightAligned 2 (shortNumber n) =
      [if n < 10 then 32 else digitCode (n / 10), digitCode n].map charCell := by
    unfold shortNumber
    by_cases ten : n < 10
    · rw [if_pos ten, if_pos ten]
      rfl
    · rw [if_neg ten, if_neg ten]
      rfl
  unfold placeText placeCodes
  cases c.status with
  | disqualified => rfl
  | didNotStart => rfl
  | noTime => rfl
  | _ =>
    cases place with
    | none => rfl
    | some p => exact number p

theorem markCell_eq (c : LaneContext) : markCell c = markOf c := by
  unfold markCell markOf LaneContext.primary
  cases c.judgements.head? with
  | none => rfl
  | some j => cases j <;> rfl

theorem timeFieldText_eq (c : LaneContext) : rightAligned 8 (timeFieldText c) = (timeFieldCodes c).map charCell := by
  unfold timeFieldText timeFieldCodes LaneContext.lastOfficial
  cases c.status with
  | finished =>
    cases c.final with
    | none => rfl
    | some f => exact timeText_eq _
  | swimming =>
    cases c.resolved.getLast? with
    | none => rfl
    | some r => exact timeText_eq _
  | _ => rfl

/-! #### Cells of a lane row and of row 1 -/

theorem timeCodes_length (h : Nat) : (timeCodes h).length = 8 := by
  unfold timeCodes
  split
  · rfl
  · split <;> rfl

theorem timeFieldCodes_length (c : LaneContext) : (timeFieldCodes c).length = 8 := by
  unfold timeFieldCodes
  split
  · exact timeCodes_length _
  · exact timeCodes_length _
  · rfl

theorem placeCodes_length (c : LaneContext) (place : Option Nat) : (placeCodes c place).length = 2 := by
  unfold placeCodes
  split <;> rfl

theorem State.clockFieldCodes_length (s : State) : s.clockFieldCodes.length = 8 := by
  unfold State.clockFieldCodes
  split
  · rfl
  · exact timeCodes_length _
  · rfl
  · exact timeCodes_length _
  · rfl

/-- A text put into a row, cell by cell. -/
theorem putCells_codes (row : CellRow) (column : Nat) (codes : List Nat) (x : Fin 32) :
    (putCells row column (codes.map charCell))[x] =
      if column ≤ x ∧ x < column + codes.length then fieldCell codes (x - column) else row[x] := by
  rw [putCells_getElem, fieldCell_eq, List.length_map]

/-- A lane row with its auto fields, cell by cell (R165). -/
theorem autoRow_getElem (y : Layout) (row : CellRow) (c : LaneContext) (place : Option Nat) (x : Fin 32) :
    (autoRow y row c place)[x] = y.autoCell c place x row[x] := by
  have mark : markCell c = [markOf c].getD 0 Cell.blank := markCell_eq c
  unfold autoRow Layout.autoCell
  dsimp only
  rw [placeText_eq, timeFieldText_eq, putCells_codes, timeFieldCodes_length]
  refine if_congr Iff.rfl rfl ?_
  rw [putCells_getElem]
  by_cases here : (x : Nat) = y.markCol
  · rw [if_pos here, if_pos ⟨by omega, by simp; omega⟩, here, Nat.sub_self]
    exact markCell_eq c
  · rw [if_neg here, if_neg (by simp only [List.length_singleton]; omega), putCells_codes, placeCodes_length]

/-- What a frame of a display row shows (R167, R172). -/
theorem State.shows_rowContent (s : State) (d : Row) : s.Shows d (s.rowContent d) := by
  intro x
  unfold State.rowContent
  dsimp only
  by_cases clock : d = 1 ∧ s.board.layout.clockRow = true
  · rw [if_pos clock, State.clockText_eq, putCells_codes, State.clockFieldCodes_length]
    simp only [clock, true_and]
  · rw [if_neg clock, if_neg fun h => clock ⟨h.1, h.2.1⟩]

/-! #### The choice of a frame (R172) -/

section
variable {s : State}

theorem allRows_getElem : ∀ d : Row, allRows[d.val]'d.isLt = d := by decide

/-- The lowest row with a property. -/
theorem find_allRows {p : Row → Bool} {d : Row} (has : p d = true) (lowest : ∀ k, k < d → p k = false) :
    allRows.find? p = some d := by
  rw [List.find?_eq_some_iff_getElem]
  refine ⟨has, d.val, d.isLt, allRows_getElem d, fun j h => ?_⟩
  have small : j < 12 := Nat.lt_trans h d.isLt
  rw [show allRows[j] = ⟨j, small⟩ from allRows_getElem ⟨j, small⟩, lowest ⟨j, small⟩ h]
  rfl

theorem Board.nextDirty_of_lowest {b : Board} {d : Row} (sends : b.mode.sends d = true) (dirty : b.dirty[d] = true)
    (lowest : ∀ k : Row, k < d → ¬ (b.mode.sends k = true ∧ b.dirty[k] = true)) : b.nextDirty = some d := by
  refine find_allRows (p := fun d => b.mode.sends d && b.dirty[d]) (by simp [sends, dirty]) fun k less => ?_
  exact Bool.eq_false_iff.2 fun h => lowest k less (Bool.and_eq_true_iff.1 h)

theorem Board.nextDirty_of_clean {b : Board} (clean : ∀ k : Row, ¬ (b.mode.sends k = true ∧ b.dirty[k] = true)) :
    b.nextDirty = none :=
  List.find?_eq_none.2 fun k _ h => clean k (Bool.and_eq_true_iff.1 h)

theorem Board.nextRotation_of_next {b : Board} {d passed : Row} (is : d = b.rotation + 1 + passed)
    (sends : b.mode.sends d = true) (skipped : ∀ k : Row, k < passed → b.mode.sends (b.rotation + 1 + k) = false) :
    b.nextRotation = some d := by
  unfold Board.nextRotation
  subst is
  exact List.find?_map.trans (congrArg _ (find_allRows (d := passed) sends skipped))

/-- On a free chain with empty slots, by the mode. -/
theorem State.chooseFrame_of_row (free : s.board.chain = none) (mode : s.board.modeSlot = none)
    (command : s.board.moduleSlot = none) {d : Row} (sends : s.board.mode.sends d = true) : s.chooseFrame = s.chooseRow := by
  unfold State.chooseFrame
  rw [free, mode, command]
  cases is : s.board.mode with
  | off => exact absurd sends (by rw [is]; exact Bool.false_ne_true)
  | test => exact absurd sends (by rw [is]; exact Bool.false_ne_true)
  | live => rfl
  | partialBand first last => rfl

theorem State.chooseFrame_of_mode (free : s.board.chain = none) {on : Bool} (mode : s.board.modeSlot = some on) :
    s.chooseFrame = s.onBoard fun b => { b with modeSlot := none }.beginCommand (.mode on) := by
  unfold State.chooseFrame
  rw [free, mode]

theorem State.chooseFrame_of_command (free : s.board.chain = none) (mode : s.board.modeSlot = none) {c : ModuleCommand}
    (command : s.board.moduleSlot = some c) :
    s.chooseFrame = s.onBoard fun b => { b with moduleSlot := none }.beginCommand (.command c) := by
  unfold State.chooseFrame
  rw [free, mode, command]

theorem State.chooseFrame_of_off (free : s.board.chain = none) (mode : s.board.modeSlot = none)
    (command : s.board.moduleSlot = none) (off : s.board.mode = .off) : s.chooseFrame = s := by
  unfold State.chooseFrame
  rw [free, mode, command, off]

theorem State.chooseFrame_of_test (free : s.board.chain = none) (mode : s.board.modeSlot = none)
    (command : s.board.moduleSlot = none) (test : s.board.mode = .test) :
    s.chooseFrame = s.onBoard fun b =>
      { b with rotation := b.rotation + 1 }.beginDisplay (.test (b.rotation + 1) testRow) (b.rotation + 1) := by
  unfold State.chooseFrame
  rw [free, mode, command, test]

theorem State.chooseFrame_of_busy {f : ChainFrame} (busy : s.board.chain = some f) : s.chooseFrame = s := by
  unfold State.chooseFrame
  rw [busy]

theorem State.chooseRow_of_clock (due : s.clockRowDue = true) : s.chooseRow = s.beginRow 1 := if_pos due

theorem State.chooseRow_of_dirty (quiet : s.clockRowDue = false) {d : Row} (next : s.board.nextDirty = some d) :
    s.chooseRow = s.beginRow d := by
  rw [State.chooseRow, if_neg (by rw [quiet]; exact Bool.false_ne_true), next]

theorem State.chooseRow_of_rotation (quiet : s.clockRowDue = false) (clean : s.board.nextDirty = none) {d : Row}
    (next : s.board.nextRotation = some d) : s.chooseRow = (s.onBoard fun b => { b with rotation := d }).beginRow d := by
  rw [State.chooseRow, if_neg (by rw [quiet]; exact Bool.false_ne_true), clean, next]

theorem State.clockRowDue_iff (s : State) :
    s.clockRowDue = true ↔ s.clock.phase.counts = true ∧ 1000 ≤ s.board.sinceRow1 ∧ s.board.mode.sends 1 = true
      ∧ s.board.layout.clockRow = true := by
  unfold State.clockRowDue
  rw [Bool.and_eq_true_iff, Bool.and_eq_true_iff, Bool.and_eq_true_iff, decide_eq_true_iff]
  exact ⟨fun ⟨⟨⟨row, sends⟩, counts⟩, since⟩ => ⟨counts, since, sends, row⟩,
    fun ⟨counts, since, sends, row⟩ => ⟨⟨⟨row, sends⟩, counts⟩, since⟩⟩

/-- A row frame begins. -/
theorem State.beginRow_board (s : State) (d : Row) :
    (s.beginRow d).board.chain = some ⟨.row d (s.rowContent d), 20, false⟩ ∧ (s.beginRow d).board.dirty[d] = false
      ∧ (s.beginRow d).board.rotation = s.board.rotation
      ∧ (s.beginRow d).board.sinceRow1 = if d = 1 then 0 else s.board.sinceRow1 :=
  ⟨rfl, Vector.getElem_set_self d.isLt, rfl, rfl⟩

end

/-! #### O55 -/

section
variable {s : State}

theorem Board.endFrame_of_plain (b : Board) {content : ChainContent} (test : content ≠ .command .selfTest)
    (reset : content ≠ .command .moduleReset) : b.endFrame content = b := by
  unfold Board.endFrame
  split
  · exact absurd rfl test
  · exact absurd rfl reset
  · rfl

/-- The state at the end of a frame, before the transmitter chooses. -/
def State.frameEnded (s : State) (content : ChainContent) : State :=
  { s with board := ({ s.board with chain := none } : Board).endFrame content }

/-- The state with the chain free. -/
def State.chainFreed (s : State) : State := { s with board := { s.board with chain := none } }

theorem State.frameEnded_of_plain (s : State) {content : ChainContent} (test : content ≠ .command .selfTest)
    (reset : content ≠ .command .moduleReset) : s.frameEnded content = s.chainFreed := by
  rw [State.frameEnded, Board.endFrame_of_plain _ test reset]
  rfl

theorem exec_boardFrameEnd (free : s.resetHeld = false) {f : ChainFrame} (sent : s.board.chain = some f) (ended : f.left = 0) :
    exec .boardFrameEnd s = .next (s.frameEnded f.content).chooseFrame := by
  have over' : ¬ s.board.sending = true := by simp [Board.sending, sent, ended]
  have ends : s.endChainFrame = (s.frameEnded f.content).chooseFrame := by
    unfold State.endChainFrame
    rw [sent]
    rfl
  exact congrArg Host.Outcome.next ((State.unlessHeld_of_free _ free).trans ((if_neg over').trans ends))

theorem exec_boardFrameEnd_early {f : ChainFrame} (sent : s.board.chain = some f) (early : f.left ≠ 0) :
    exec .boardFrameEnd s = .next s := by
  have sending : s.board.sending = true := by simp [Board.sending, sent, early]
  change Host.Outcome.next (if s.resetHeld then s else if s.board.sending then s else s.endChainFrame) = _
  rw [if_pos sending, ite_self]

theorem Board.endFrame_of_command (b : Board) {content : ChainContent}
    (command : content = .command .selfTest ∨ content = .command .moduleReset) :
    b.endFrame content = { b.markAll with modeSlot := if b.mode = .off then some true else b.modeSlot } := by
  obtain rfl | rfl := command <;> rfl

/-- The choice touches nothing but what a frame that begins touches. -/
theorem State.chooseFrame_keeps (s : State) :
    s.chooseFrame = { s with board := s.chooseFrame.board } ∧ s.chooseFrame.board.cells = s.board.cells
      ∧ s.chooseFrame.board.map = s.board.map ∧ s.chooseFrame.board.mode = s.board.mode
      ∧ s.chooseFrame.board.layout = s.board.layout := by
  have frame : s.OnlyChain s.chooseFrame := s.chooseFrame_frame
  unfold State.OnlyChain at frame
  generalize s.chooseFrame = t at frame ⊢
  rw [frame]
  exact ⟨rfl, rfl, rfl, rfl, rfl⟩

/-- When every row is dirty, the frame that begins is of the one row that leaves the dirty set. -/
theorem State.chooseFrame_dirty (all : ∀ d : Row, s.board.dirty[d] = true) (d : Row) :
    s.chooseFrame.board.dirty[d] = true ∨ ∃ next, s.chooseFrame.board.chain = some next
      ∧ ((∃ cells, next.content = .row d cells) ∨ ∃ cells, next.content = .test d cells) := by
  have row (t : State) (dirty : t.board.dirty = s.board.dirty) (k : Row) : (t.beginRow k).board.dirty[d] = true
      ∨ ∃ next, (t.beginRow k).board.chain = some next
        ∧ ((∃ cells, next.content = .row d cells) ∨ ∃ cells, next.content = .test d cells) := by
    by_cases this : k = d
    · subst this
      exact .inr ⟨_, rfl, .inl ⟨_, rfl⟩⟩
    · refine .inl ?_
      have kept : (t.beginRow k).board.dirty[d] = t.board.dirty[d] :=
        Vector.getElem_set_ne k.isLt d.isLt fun e => this (Fin.ext e)
      rw [kept, dirty]
      exact all d
  have choice : s.chooseRow.board.dirty[d] = true ∨ ∃ next, s.chooseRow.board.chain = some next
      ∧ ((∃ cells, next.content = .row d cells) ∨ ∃ cells, next.content = .test d cells) := by
    unfold State.chooseRow
    split
    · exact row s rfl 1
    · split
      · exact row s rfl _
      · split
        · exact row (s.onBoard _) rfl _
        · exact .inl (all d)
  unfold State.chooseFrame
  split
  · exact .inl (all d)
  · exact .inl (all d)
  · exact .inl (all d)
  · exact .inl (all d)
  · by_cases this : s.board.rotation + 1 = d
    · exact .inr ⟨_, rfl, .inr ⟨testRow, by rw [← this]⟩⟩
    · refine .inl (Eq.trans ?_ (all d))
      exact Vector.getElem_set_ne (Fin.isLt _) d.isLt fun e => this (Fin.ext e)
  · exact choice
  · exact choice

theorem exec_clockRowDue (free : s.resetHeld = false) (due : s.clockRowDue = true) :
    exec .clockRowDue s = .next s.chooseFrame :=
  congrArg Host.Outcome.next ((State.unlessHeld_of_free _ free).trans (if_pos due))

theorem exec_clockRowDue_early (early : ¬ s.clockRowDue = true) : exec .clockRowDue s = .next s := by
  change Host.Outcome.next (if s.resetHeld then s else if s.clockRowDue then s.chooseFrame else s) = _
  rw [if_neg early, ite_self]

/-- The frame that begins on a free chain with both slots empty, by the mode (R172). -/
theorem State.chooseFrame_choice (free : s.board.chain = none) (mode : s.board.modeSlot = none)
    (command : s.board.moduleSlot = none) :
    (s.board.mode = .off → s.chooseFrame.board.chain = none)
      ∧ (s.board.mode = .test → s.chooseFrame.board.rotation = s.board.rotation + 1
          ∧ s.chooseFrame.board.chain = some ⟨.test (s.board.rotation + 1) (Vector.replicate 32 ⟨127, 7⟩), 20, false⟩)
      ∧ (s.board.mode.sends 1 = true → s.board.layout.clockRow = true → s.clock.phase.counts = true →
          1000 ≤ s.board.sinceRow1 →
          s.chooseFrame.board.chain = some ⟨.row 1 (s.rowContent 1), 20, false⟩ ∧ s.chooseFrame.board.dirty[1] = false
            ∧ s.chooseFrame.board.sinceRow1 = 0)
      ∧ (∀ d, s.clockRowDue = false → s.board.mode.sends d = true → s.board.dirty[d] = true →
          (∀ k : Row, k < d → ¬ (s.board.mode.sends k = true ∧ s.board.dirty[k] = true)) →
          s.chooseFrame.board.chain = some ⟨.row d (s.rowContent d), 20, false⟩ ∧ s.chooseFrame.board.dirty[d] = false)
      ∧ (∀ d passed : Row, s.clockRowDue = false →
          (∀ k : Row, ¬ (s.board.mode.sends k = true ∧ s.board.dirty[k] = true)) →
          d = s.board.rotation + 1 + passed → s.board.mode.sends d = true →
          (∀ k : Row, k < passed → s.board.mode.sends (s.board.rotation + 1 + k) = false) →
          s.chooseFrame.board.chain = some ⟨.row d (s.rowContent d), 20, false⟩ ∧ s.chooseFrame.board.rotation = d) := by
  refine ⟨fun off => ?_, fun test => ?_, fun sends row counts since => ?_, fun d quiet sends dirty lowest => ?_,
    fun d passed quiet clean is sends skipped => ?_⟩
  · rw [State.chooseFrame_of_off free mode command off, free]
  · rw [State.chooseFrame_of_test free mode command test]
    exact ⟨rfl, rfl⟩
  · rw [State.chooseFrame_of_row free mode command sends,
      State.chooseRow_of_clock ((State.clockRowDue_iff s).2 ⟨counts, since, sends, row⟩)]
    obtain ⟨chain, dirty, -, since⟩ := s.beginRow_board 1
    exact ⟨chain, dirty, since⟩
  · rw [State.chooseFrame_of_row free mode command sends,
      State.chooseRow_of_dirty quiet (Board.nextDirty_of_lowest sends dirty lowest)]
    obtain ⟨chain, dirty, -, -⟩ := s.beginRow_board d
    exact ⟨chain, dirty⟩
  · rw [State.chooseFrame_of_row free mode command sends,
      State.chooseRow_of_rotation quiet (Board.nextDirty_of_clean clean) (Board.nextRotation_of_next is sends skipped)]
    exact ⟨rfl, rfl⟩

end

/-- Settles O55: the content of a row by `State.shows_rowContent`, the choice by `State.chooseFrame_choice`. -/
theorem chainFramesAreChosen : Obligations.ChainFramesAreChosen := by
  refine ⟨⟨State.shows_rowContent, fun first last d => ⟨rfl, rfl, rfl, ?_⟩⟩, fun s f sent early => exec_boardFrameEnd_early sent early,
    fun s f free sent ended test reset => ?_, fun s f free sent ended command => ?_,
    fun s free counts since sends row => ?_, fun s quiet => ?_⟩
  · simp [BoardMode.sends]
  · rw [exec_boardFrameEnd free sent ended, State.frameEnded_of_plain s test reset]
    obtain ⟨only, cells, map, mode, layout⟩ := s.chainFreed.chooseFrame_keeps
    refine ⟨_, congrArg _ only, cells, map, mode, layout, fun on slot => ?_, fun empty => ⟨fun c slot => ?_, fun clear => ?_⟩⟩
    · rw [State.chooseFrame_of_mode (s := s.chainFreed) rfl slot]
      exact ⟨rfl, rfl⟩
    · rw [State.chooseFrame_of_command (s := s.chainFreed) rfl empty slot]
      exact ⟨rfl, rfl⟩
    · exact State.chooseFrame_choice (s := s.chainFreed) rfl empty clear
  · have marked := Board.endFrame_of_command { s.board with chain := none } command
    rw [exec_boardFrameEnd free sent ended, State.frameEnded, marked]
    generalize is : ({ s with board := { ({ s.board with chain := none } : Board).markAll with
      modeSlot := if s.board.mode = .off then some true else s.board.modeSlot } } : State) = u
    have idle : u.board.chain = none := by rw [← is]; rfl
    have all (d : Row) : u.board.dirty[d] = true := by
      rw [← is]
      exact Vector.getElem_replicate d.isLt
    have slot : u.board.modeSlot = if s.board.mode = .off then some true else s.board.modeSlot := by rw [← is]
    obtain ⟨only, -, -, -, -⟩ := State.chooseFrame_keeps u
    have next {on : Bool} (holds : u.board.modeSlot = some on) :
        u.chooseFrame.board.chain = some ⟨.mode on, 5, false⟩ ∧ ∀ d : Row, u.chooseFrame.board.dirty[d] = true := by
      rw [State.chooseFrame_of_mode idle holds]
      exact ⟨rfl, all⟩
    refine ⟨u.chooseFrame.board, ?_, fun off => next (slot.trans (if_pos off)),
      fun on live holds => next (slot.trans ((if_neg live).trans holds)), State.chooseFrame_dirty all⟩
    rw [only, ← is]
  · have due := (State.clockRowDue_iff s).2 ⟨counts, since, sends, row⟩
    obtain ⟨only, cells, map, -, -⟩ := State.chooseFrame_keeps s
    refine ⟨_, (exec_clockRowDue free due).trans (congrArg _ only), cells, map, fun busy => ?_, fun idle slot command => ?_⟩
    · obtain ⟨f, sent⟩ := Option.ne_none_iff_exists'.1 busy
      rw [State.chooseFrame_of_busy sent]
    · exact (State.chooseFrame_choice idle slot command).2.2.1 sends row counts since
  · exact exec_clockRowDue_early fun due => quiet ((State.clockRowDue_iff s).1 due)

end Sys2Proof.Machine


/-! ### What the board shows of an event: rows marked and auto fields (chapter 10, 10.4 to 10.6) -/

namespace Sys2Proof.Machine

/-! #### Display rows redrawn (R169, R170, R173) -/

/-- A display row shows another memory row, or its memory row has changed. -/
def Board.RowChanged (b c : Board) (d : Row) : Prop :=
  b.map[d] ≠ c.map[d] ∨ b.cells[b.map[d]] ≠ c.cells[b.map[d]]

/-- The frame of the row that was being sent has begun again, with the content the row has after. -/
def Board.SentAgain (b c : Board) (d : Row) : Prop :=
  b.layout.policy = .restart ∧ c.chain = some ⟨.row d c.cells[c.map[d]], 20, true⟩
    ∧ ∃ content left, b.chain = some ⟨.row d content, left, false⟩

/-- Rows other than row 1 are redrawn, all of them in T, and row 1 is marked when `clock` holds. -/
structure Board.Redraws (b c : Board) (T : Row → Prop) (clock : Prop) : Prop where
  layout : c.layout = b.layout
  row : ∀ d : Row, d ≠ 1 → c.dirty[d] = true ∨ b.SentAgain c d ∨ ¬ b.RowChanged c d ∧ c.dirty[d] = b.dirty[d]
  kept : ∀ d : Row, d ≠ 1 → ¬ T d → ¬ b.RowChanged c d ∧ c.dirty[d] = b.dirty[d]
  chain : c.chain = b.chain ∨ ∃ d content content' left, d ≠ 1 ∧ T d ∧ b.layout.policy = .restart
    ∧ b.chain = some ⟨.row d content, left, false⟩ ∧ c.chain = some ⟨.row d content', 20, true⟩
  since : c.sinceRow1 = b.sinceRow1
  head : b.map[1] = 1 → c.map[1] = 1
  mark : c.dirty[1] = true ↔ b.dirty[1] = true ∨ clock

section
variable {b c e : Board} {T U : Row → Prop} {m n : Prop} {d : Row}

theorem Board.not_rowChanged_iff : ¬ b.RowChanged c d ↔ b.map[d] = c.map[d] ∧ b.cells[b.map[d]] = c.cells[b.map[d]] := by
  rw [Board.RowChanged, not_or, not_not, not_not]

/-- A row that has not changed shows the same cells. -/
theorem Board.shown_of_not_rowChanged (h : ¬ b.RowChanged c d) : c.cells[c.map[d]] = b.cells[b.map[d]] := by
  obtain ⟨map, cells⟩ := Board.not_rowChanged_iff.1 h
  rw [cells]
  exact congrArg (fun y : Row => c.cells[y]) map.symm

theorem Board.not_rowChanged_trans (h : ¬ b.RowChanged c d) (k : ¬ c.RowChanged e d) : ¬ b.RowChanged e d := by
  rw [Board.not_rowChanged_iff] at *
  obtain ⟨map, cells⟩ := h
  obtain ⟨map', cells'⟩ := k
  refine ⟨map.trans map', cells.trans ?_⟩
  have moved (y : Row) (is : y = c.map[d]) : c.cells[y] = e.cells[y] := is ▸ cells'
  exact moved _ map

theorem Board.Redraws.refl (b : Board) : b.Redraws b (fun _ => False) False :=
  { layout := rfl, row := fun _ _ => .inr (.inr ⟨Board.not_rowChanged_iff.2 ⟨rfl, rfl⟩, rfl⟩)
    kept := fun _ _ _ => ⟨Board.not_rowChanged_iff.2 ⟨rfl, rfl⟩, rfl⟩, chain := .inl rfl, since := rfl, head := id
    mark := by rw [or_false] }

theorem Board.Redraws.mono (h : b.Redraws c T m) (rows : ∀ d, T d → U d) (clock : m ↔ n) : b.Redraws c U n :=
  { h with
    kept := fun d other none => h.kept d other fun worked => none (rows d worked)
    chain := h.chain.imp_right fun ⟨d, x, y, left, other, worked, rest⟩ => ⟨d, x, y, left, other, rows d worked, rest⟩
    mark := h.mark.trans (or_congr_right clock) }

/-- A frame that has begun again stays on the chain. -/
theorem Board.Redraws.chain_of_again (h : b.Redraws c T m) {content : ChainContent} {left : Nat}
    (again : b.chain = some ⟨content, left, true⟩) : c.chain = b.chain := by
  obtain same | ⟨d, x, y, left', -, -, -, sent, -⟩ := h.chain
  · exact same
  · rw [again] at sent
    simp at sent

/-- A frame that has not begun again has been on the chain all along. -/
theorem Board.Redraws.chain_of_first (h : b.Redraws c T m) {content : ChainContent} {left : Nat}
    (first : c.chain = some ⟨content, left, false⟩) : b.chain = c.chain := by
  obtain same | ⟨d, x, y, left', -, -, -, -, sent⟩ := h.chain
  · exact same.symm
  · rw [first] at sent
    simp at sent

theorem Board.Redraws.trans (h : b.Redraws c T m) (k : c.Redraws e U n) :
    b.Redraws e (fun d => T d ∨ U d) (m ∨ n) := by
  refine
    { layout := k.layout.trans h.layout, row := fun d other => ?_, kept := fun d other none => ?_, chain := ?_
      since := k.since.trans h.since, head := fun row => k.head (h.head row)
      mark := by rw [k.mark, h.mark, or_assoc] }
  · obtain dirty | ⟨policy, sent, content, left, first⟩ | ⟨same, kept⟩ := k.row d other
    · exact .inl dirty
    · refine .inr (.inl ⟨h.layout ▸ policy, sent, content, left, ?_⟩)
      exact (h.chain_of_first first).trans first
    · obtain dirty | ⟨policy, sent, first⟩ | ⟨same', kept'⟩ := h.row d other
      · exact .inl (kept.trans dirty)
      · refine .inr (.inl ⟨policy, ?_, first⟩)
        rw [k.chain_of_again sent, sent, Board.shown_of_not_rowChanged same]
      · exact .inr (.inr ⟨Board.not_rowChanged_trans same' same, kept.trans kept'⟩)
  · obtain ⟨first, second⟩ := not_or.1 none
    obtain ⟨same, kept⟩ := h.kept d other first
    obtain ⟨same', kept'⟩ := k.kept d other second
    exact ⟨Board.not_rowChanged_trans same same', kept'.trans kept⟩
  · obtain same | ⟨d, x, y, left, other, worked, policy, sent, again⟩ := k.chain
    · obtain same' | ⟨d, x, y, left, other, worked, policy, sent, again⟩ := h.chain
      · exact .inl (same.trans same')
      · exact .inr ⟨d, x, y, left, other, .inl worked, policy, sent, same.trans again⟩
    · exact .inr ⟨d, x, y, left, other, .inr worked, h.layout ▸ policy, (h.chain_of_first sent).trans sent, again⟩

end

/-! #### Operations that redraw -/

section
variable {s : State}

theorem State.rowContent_of_ne (s : State) {d : Row} (other : d ≠ 1) : s.rowContent d = s.board.cells[s.board.map[d]] :=
  if_neg fun h => other h.1

/-- Row 1 is marked, and nothing else. -/
theorem State.markClockRow_redraws (s : State) : s.board.Redraws s.markClockRow.board (fun _ => False) True := by
  have row (d : Row) (other : d ≠ 1) : s.markClockRow.board.dirty[d] = s.board.dirty[d] :=
    Vector.getElem_set_ne (by decide) d.isLt fun e => other (Fin.ext e.symm)
  exact
    { layout := rfl, row := fun d other => .inr (.inr ⟨Board.not_rowChanged_iff.2 ⟨rfl, rfl⟩, row d other⟩)
      kept := fun d other _ => ⟨Board.not_rowChanged_iff.2 ⟨rfl, rfl⟩, row d other⟩, chain := .inl rfl, since := rfl
      head := id, mark := iff_of_true (Vector.getElem_set_self _) (.inr trivial) }

theorem State.foldl_changeRow_since (before : State) {ds : List Row} (other : 1 ∉ ds) (s : State) :
    (ds.foldl before.changeRow s).board.sinceRow1 = s.board.sinceRow1 := by
  induction ds generalizing s with
  | nil => rfl
  | cons d ds ih =>
    obtain ⟨ne, other⟩ := not_or.1 (List.mem_cons.not.1 other)
    refine (ih other _).trans ?_
    obtain h | ⟨_, _, _, _, h⟩ := State.changeRow_cases before s d
    · rw [h]
      rfl
    · rw [h]
      exact if_neg (Ne.symm ne)

/-- Marking a list of rows, row 1 not among them, after memory or map has changed in those rows alone. -/
theorem State.foldl_changeRow_redraws {b : Board} (before : State) {s : State} {ds : List Row} (once : ds.Nodup) (other : 1 ∉ ds)
    (as : s.board = { b with cells := s.board.cells, map := s.board.map })
    (kept : ∀ d, d ∉ ds → ¬ b.RowChanged s.board d) (head : b.map[1] = 1 → s.board.map[1] = 1) :
    b.Redraws (ds.foldl before.changeRow s).board (· ∈ ds) False := by
  have dirty : s.board.dirty = b.dirty := by rw [as]
  have chain : s.board.chain = b.chain := by rw [as]
  have since : s.board.sinceRow1 = b.sinceRow1 := by rw [as]
  have layout : s.board.layout = b.layout := by rw [as]
  have marks := State.foldl_changeRow_marks before once s
  have cells : (ds.foldl before.changeRow s).board.cells = s.board.cells := State.foldl_changeRow_cells before ds s
  have shown : s.OnlyShown (ds.foldl before.changeRow s) := State.OnlyShown.foldl _ (State.changeRow_frame before) ds s
  have since' := State.foldl_changeRow_since before other s
  generalize ds.foldl before.changeRow s = t at marks cells shown since' ⊢
  have unchanged (d : Row) (none : d ∉ ds) : ¬ b.RowChanged t.board d := by
    have := kept d none
    rw [Board.not_rowChanged_iff] at *
    rw [cells, shown.map]
    exact this
  have stays (d : Row) (none : d ∉ ds) : t.board.dirty[d] = b.dirty[d] := by rw [marks.kept d none, dirty]
  have other' (d : Row) (worked : d ∈ ds) : d ≠ 1 := fun e => other (e ▸ worked)
  refine
    { layout := shown.layout.trans layout, row := fun d ne => ?_, kept := fun d _ none => ⟨unchanged d none, stays d none⟩
      chain := ?_, since := since'.trans since, head := fun row => ?_, mark := ?_ }
  · by_cases worked : d ∈ ds
    · by_cases restart : before.BeginsAgain s d
      · obtain ⟨-, now⟩ := marks.again d worked restart
        obtain ⟨policy, -, sent⟩ := restart
        rw [State.rowContent_of_ne _ ne] at now
        rw [layout] at policy
        rw [chain] at sent
        exact .inr (.inl ⟨policy, now, sent⟩)
      · exact .inl (marks.dirty d worked restart)
    · exact .inr (.inr ⟨unchanged d worked, stays d worked⟩)
  · by_cases none : ∀ d, d ∈ ds → ¬ before.BeginsAgain s d
    · exact .inl ((marks.chain none).1.trans chain)
    · push Not at none
      obtain ⟨d, worked, restart⟩ := none
      obtain ⟨-, now⟩ := marks.again d worked restart
      obtain ⟨policy, -, content, left, sent⟩ := restart
      rw [layout] at policy
      rw [chain] at sent
      exact .inr ⟨d, content, _, left, other' d worked, worked, policy, sent, now⟩
  · rw [shown.map]
    exact head row
  · have same := stays 1 other
    exact ⟨fun h => .inl (same.symm.trans h), fun h => same.trans (h.resolve_right id)⟩

/-- A row of memory that row 1 does not show is written. -/
theorem State.writeRow_redraws (s : State) {y : Row} (row : CellRow) (other : s.board.map[1] ≠ y) :
    s.board.Redraws (s.writeRow y row).board (fun d => s.board.map[d] = y) False := by
  unfold State.writeRow
  split
  next => exact (Board.Redraws.refl _).mono nofun Iff.rfl
  next differs =>
    have mem (d : Row) : (d ∈ allRows.filter fun d => s.board.map[d] = y) ↔ s.board.map[d] = y := by
      rw [List.mem_filter, decide_eq_true_iff]
      exact and_iff_right (mem_allRows d)
    refine (State.foldl_changeRow_redraws (b := s.board) s
      (s := s.onBoard fun b => { b with cells := b.cells.set y row }) (List.Nodup.filter _ (by decide)) ((mem 1).not.2 other) rfl
      (fun d none => ?_) id).mono (fun d => (mem d).1) Iff.rfl
    refine Board.not_rowChanged_iff.2 ⟨rfl, Eq.symm ?_⟩
    exact Vector.getElem_set_ne y.isLt (Fin.isLt _) fun e => (mem d).not.1 none (Fin.ext e.symm)

/-- The map is recomputed, row 1 showing what it has shown. -/
theorem State.recomputeMap_redraws (s : State) (head : s.board.map[1] = 1) :
    s.board.Redraws s.recomputeMap.board (fun d => s.board.map[d] ≠ s.mapNow[d]) False := by
  have mem (d : Row) : (d ∈ allRows.filter fun d => s.board.map[d] ≠ s.mapNow[d]) ↔ s.board.map[d] ≠ s.mapNow[d] := by
    rw [List.mem_filter, decide_eq_true_iff]
    exact and_iff_right (mem_allRows d)
  have first : s.mapNow[1] = 1 := by
    unfold State.mapNow
    exact Vector.getElem_ofFn _
  unfold State.recomputeMap
  refine (State.foldl_changeRow_redraws (b := s.board) s (s := s.onBoard fun b => { b with map := s.mapNow })
    (List.Nodup.filter _ (by decide)) ((mem 1).not.2 ?_) rfl
    (fun d none => ?_) fun _ => first).mono (fun d => (mem d).1) Iff.rfl
  · exact not_not.2 (head.trans first.symm)
  · have same : s.board.map[d] = s.mapNow[d] := not_not.1 ((mem d).not.1 none)
    exact Board.not_rowChanged_iff.2 ⟨same, rfl⟩

theorem laneRow_inj {l m : Lane} (h : laneRow l = laneRow m) : l = m :=
  Fin.ext (Nat.add_right_cancel (Fin.mk.inj h))

theorem laneRow_ne_one (l : Lane) : laneRow l ≠ 1 := fun h => absurd (congrArg Fin.val h) (by simp [laneRow])

theorem laneRow_ne_zero (l : Lane) : laneRow l ≠ 0 := fun h => absurd (congrArg Fin.val h) (by simp [laneRow])

/-- The rows of the lanes written: a display row that shows one of them while lane rows are ON. -/
def Board.showsLane (b : Board) (written : Lane → Prop) (d : Row) : Prop :=
  b.layout.laneRows = true ∧ ∃ l, written l ∧ b.map[d] = laneRow l

theorem State.writeAuto_redraws (s : State) (l : Lane) (head : s.board.map[1] = 1) :
    s.board.Redraws (s.writeAuto l).board (s.board.showsLane (· = l)) False := by
  unfold State.writeAuto
  split
  next rows =>
    refine (s.writeRow_redraws _ fun e => laneRow_ne_one l (e.symm.trans head)).mono (fun d shows => ?_) Iff.rfl
    exact ⟨rows, l, rfl, shows⟩
  next => exact (Board.Redraws.refl _).mono nofun Iff.rfl

/-- The row of board memory an auto-field write leaves. -/
theorem State.writeAuto_cells (s : State) (l : Lane) (y : Row) :
    (s.writeAuto l).board.cells[y] =
      if s.board.layout.laneRows = true ∧ y = laneRow l then
        autoRow s.board.layout s.board.cells[y] (s.context l) s.results.places[l]
      else s.board.cells[y] := by
  by_cases rows : s.board.layout.laneRows = true
  · have written : (s.writeAuto l).board.cells = s.board.cells.set (laneRow l)
        (autoRow s.board.layout s.board.cells[laneRow l] (s.context l) s.results.places[l]) :=
      (congrArg (fun t : State => t.board.cells) (if_pos rows)).trans (State.writeRow_cells _ _ _)
    rw [written]
    by_cases here : y = laneRow l
    · subst here
      rw [if_pos ⟨rows, rfl⟩]
      exact Vector.getElem_set_self _
    · rw [if_neg fun h => here h.2]
      exact Vector.getElem_set_ne _ _ fun e => here (Fin.ext e.symm)
  · have left : s.writeAuto l = s := if_neg rows
    rw [left, if_neg fun h => rows h.1]

end

/-! #### Auto fields of the lanes written (R165) -/

section
variable {s t u : State} {ws vs : Lane → Bool}

/-- The auto fields a lane shows are the same for two contexts and places. -/
def State.SameFields (s t : State) (l : Lane) : Prop :=
  ∀ (y : Layout) (x : Nat) (old : Cell),
    y.autoCell (s.context l) s.results.places[l] x old = y.autoCell (t.context l) t.results.places[l] x old

/-- Auto fields written again replace those written before. -/
theorem Layout.autoCell_autoCell (y : Layout) (c d : LaneContext) (p q : Option Nat) (x : Nat) (old : Cell) :
    y.autoCell d q x (y.autoCell c p x old) = y.autoCell d q x old := by
  unfold Layout.autoCell
  split
  · rfl
  · split
    · rfl
    · split <;> rfl

theorem State.AutoRows.of_same (cells : t.board.cells = s.board.cells) (none : ∀ l, ws l = false) : s.AutoRows ws t :=
  ⟨fun l x => by rw [if_neg fun h => absurd ((none l).symm.trans h.2) (by decide), cells], by rw [cells], by rw [cells]⟩

/-- Writes one after the other: a lane written in the first alone must still show what it was written with. -/
theorem State.AutoRows.trans (h : s.AutoRows ws t) (k : t.AutoRows vs u) (layout : u.board.layout = t.board.layout)
    (same : ∀ l, ws l = true → vs l = false → t.SameFields u l) : s.AutoRows (fun l => ws l || vs l) u := by
  obtain ⟨first, zero, one⟩ := h
  obtain ⟨second, zero', one'⟩ := k
  refine ⟨fun l x => ?_, zero'.trans zero, one'.trans one⟩
  rw [second, first, layout]
  by_cases rows : t.board.layout.laneRows = true
  · cases late : vs l with
    | true =>
      cases early : ws l with
      | true => simp only [rows, early, and_self, if_true, Bool.or_self, Layout.autoCell_autoCell, late]
      | false => simp only [rows, early, and_self, if_true, Bool.false_or, late, and_false, if_false, Bool.false_eq_true]
    | false =>
      cases early : ws l with
      | true =>
        simp only [rows, early, and_self, if_true, Bool.or_false, late, and_false, if_false, Bool.false_eq_true]
        exact same l early late _ _ _
      | false => simp only [early, Bool.or_false, late, and_false, if_false, Bool.false_eq_true]
  · simp [rows]

theorem State.AutoRows.congr (h : s.AutoRows ws t) (alike : ∀ l, vs l = ws l) : s.AutoRows vs t := by
  obtain rfl : vs = ws := funext alike
  exact h

/-- What auto fields and map rest on is kept. -/
structure State.KeepsSheet (s t : State) : Prop where
  layout : t.board.layout = s.board.layout
  map : t.board.map = s.board.map
  lanes : t.lanes = s.lanes
  results : t.results = s.results

theorem State.KeepsSheet.refl (s : State) : s.KeepsSheet s := ⟨rfl, rfl, rfl, rfl⟩

theorem State.KeepsSheet.trans (h : s.KeepsSheet t) (k : t.KeepsSheet u) : s.KeepsSheet u :=
  ⟨k.layout.trans h.layout, k.map.trans h.map, k.lanes.trans h.lanes, k.results.trans h.results⟩

theorem State.KeepsSheet.context (h : s.KeepsSheet t) (l : Lane) : t.context l = s.context l :=
  congrArg (fun lanes : Vector LaneContext 10 => lanes[l]) h.lanes

theorem State.KeepsSheet.sameFields (h : s.KeepsSheet t) (l : Lane) : s.SameFields t l := by
  intro y x old
  rw [h.context, h.results]

theorem State.writeAuto_keepsSheet (s : State) (l : Lane) : s.KeepsSheet (s.writeAuto l) := by
  rw [s.writeAuto_frame l]
  exact ⟨rfl, rfl, rfl, rfl⟩

/-- A step over the lanes that writes a lane's auto fields, and ports besides. -/
def State.WritesAuto (f : State → Lane → State) : Prop := ∀ s l, ∃ ports, f s l = ({ s with ports } : State).writeAuto l

theorem State.writeAuto_writesAuto : State.WritesAuto State.writeAuto := fun s _ => ⟨s.ports, rfl⟩

section
variable {f : State → Lane → State}

theorem State.WritesAuto.keepsSheet (hf : State.WritesAuto f) (s : State) (l : Lane) : s.KeepsSheet (f s l) := by
  obtain ⟨ports, is⟩ := hf s l
  have kept := ({ s with ports } : State).writeAuto_keepsSheet l
  rw [← is] at kept
  exact ⟨kept.layout, kept.map, kept.lanes, kept.results⟩

theorem State.WritesAuto.foldl_keepsSheet (hf : State.WritesAuto f) (ls : List Lane) (s : State) : s.KeepsSheet (ls.foldl f s) := by
  induction ls generalizing s with
  | nil => exact .refl s
  | cons k ls ih => exact (hf.keepsSheet s k).trans (ih (f s k))

theorem State.WritesAuto.autoRows (hf : State.WritesAuto f) (s : State) (k : Lane) :
    s.AutoRows (fun l => decide (l = k)) (f s k) := by
  obtain ⟨ports, is⟩ := hf s k
  have kept := hf.keepsSheet s k
  have cells (y : Row) := ({ s with ports } : State).writeAuto_cells k y
  rw [← is] at cells
  refine ⟨fun l x => ?_, ?_, ?_⟩
  · rw [kept.layout, kept.context, kept.results, cells]
    by_cases here : l = k
    · subst here
      by_cases rows : s.board.layout.laneRows = true
      · rw [if_pos ⟨rows, rfl⟩, if_pos ⟨rows, decide_eq_true rfl⟩, autoRow_getElem]
        rfl
      · rw [if_neg fun h => rows h.1, if_neg fun h => rows h.1]
    · rw [if_neg fun h => here (laneRow_inj h.2), if_neg fun h => here (of_decide_eq_true h.2)]
  · exact (cells 0).trans (if_neg fun h => laneRow_ne_zero k h.2.symm)
  · exact (cells 1).trans (if_neg fun h => laneRow_ne_one k h.2.symm)

/-- The auto fields of the lanes of a list are written. -/
theorem State.WritesAuto.foldl_autoRows (hf : State.WritesAuto f) {ls : List Lane} (once : ls.Nodup) (s : State) :
    s.AutoRows (fun l => decide (l ∈ ls)) (ls.foldl f s) := by
  induction ls generalizing s with
  | nil => exact .of_same rfl fun l => by simp
  | cons k ls ih =>
    obtain ⟨fresh, once⟩ := List.nodup_cons.1 once
    have rest := hf.foldl_keepsSheet ls (f s k)
    refine ((hf.autoRows s k).trans (ih once (f s k)) rest.layout fun l _ _ => rest.sameFields l).congr fun l => ?_
    simp [List.mem_cons]

theorem State.WritesAuto.foldl_redraws (hf : State.WritesAuto f) (ls : List Lane) (s : State) (head : s.board.map[1] = 1) :
    s.board.Redraws (ls.foldl f s).board (s.board.showsLane (· ∈ ls)) False := by
  induction ls generalizing s with
  | nil => exact (Board.Redraws.refl _).mono nofun Iff.rfl
  | cons k ls ih =>
    have kept := hf.keepsSheet s k
    have first : s.board.Redraws (f s k).board (s.board.showsLane (· = k)) False := by
      obtain ⟨ports, is⟩ := hf s k
      rw [is]
      exact ({ s with ports } : State).writeAuto_redraws k head
    refine (first.trans (ih (f s k) (first.head head))).mono (fun d shows => ?_) or_self_iff
    obtain ⟨rows, l, rfl, row⟩ | ⟨rows, l, among, row⟩ := shows
    · exact ⟨rows, l, List.mem_cons_self, row⟩
    · rw [kept.layout] at rows
      simp only [kept.map] at row
      exact ⟨rows, l, List.mem_cons_of_mem _ among, row⟩

end

end

/-! #### What the obligations say of the rows marked -/

section
variable {s t : State} {T : Row → Prop} {m : Prop} {written : Lane → Bool}

/-- Rows redrawn, all of them touched by the event, are marked as R169, R170 and R173 say. -/
theorem Board.Redraws.rowsMarked {b : Board} (h : b.Redraws t.board T m)
    (as : b.map = s.board.map ∧ b.cells = s.board.cells ∧ b.dirty = s.board.dirty ∧ b.chain = s.board.chain
      ∧ b.sinceRow1 = s.board.sinceRow1) (touched : ∀ d, d ≠ 1 → T d → s.RowTouched written t d) :
    s.RowsMarked written t := by
  obtain ⟨map, cells, dirty, chain, since⟩ := as
  have changed (d : Row) : b.RowChanged t.board d ↔
      s.board.map[d] ≠ t.board.map[d] ∨ s.board.cells[s.board.map[d]] ≠ t.board.cells[s.board.map[d]] := by
    unfold Board.RowChanged
    simp only [map, cells]
  refine ⟨fun d other differs => ?_, fun d other none => ?_, fun quiet => ?_, h.since.trans since⟩
  · obtain marked | ⟨policy, sent, first⟩ | ⟨same, -⟩ := h.row d other
    · exact .inl marked
    · rw [← State.rowContent_of_ne _ other] at sent
      exact .inr ⟨h.layout ▸ policy, sent, chain ▸ first⟩
    · exact absurd ((changed d).2 differs) same
  · rw [(h.kept d other fun worked => none (touched d other worked)).2, dirty]
  · obtain same | ⟨d, content, content', left, other, worked, policy, first, -⟩ := h.chain
    · exact same.trans chain
    · obtain hold | untouched := quiet
      · rw [h.layout, policy] at hold
        exact absurd hold (by decide)
      · rw [chain] at first
        exact absurd (touched d other worked) (untouched d content left first)

end

end Sys2Proof.Machine


/-! ### The layout of the board (chapter 10, 10.4) -/

namespace Sys2Proof.Machine

section
variable {s : State}

theorem State.MapFits.head {s : State} (fits : s.MapFits) : s.board.map[1] = 1 := by
  have map : s.board.map = s.mapNow := fits
  rw [map]
  exact Vector.getElem_ofFn _

theorem State.writeAllAuto_redraws (s : State) (head : s.board.map[1] = 1) :
    s.board.Redraws s.writeAllAuto.board (s.board.showsLane fun _ => True) False :=
  (State.writeAuto_writesAuto.foldl_redraws allLanes s head).mono
    (fun _ ⟨rows, l, _, row⟩ => ⟨rows, l, trivial, row⟩) Iff.rfl

theorem State.writeAllAuto_autoRows (s : State) : s.AutoRows (fun _ => true) s.writeAllAuto :=
  (State.writeAuto_writesAuto.foldl_autoRows (ls := allLanes) (by decide) s).congr fun l => (decide_eq_true (mem_allLanes l)).symm

theorem exec_boardLayout {payload : Payload} (taken : s.Takes ⟨kindBoardLayout, payload⟩) (size : payload.length = 9) :
    exec (.boardLayout payload) s = .next (s.dropInbound.boardLayout payload) :=
  congrArg Host.Outcome.next (State.take_owner _ taken (congrArg some size.symm))

/-- A layout whose codes are known is stored with its columns and its interval clamped (R164). -/
def layoutStored (lanes order place mark time clock col freeze policy : Byte) : Layout :=
  ⟨decide (lanes = 1), if order = 0 then .byLane else .byPlace, min 30 place.toNat, min 31 mark.toNat, min 24 time.toNat,
    decide (clock = 1), min 24 col.toNat, min 30 freeze.toNat, if policy = 0 then .hold else .restart⟩

theorem byte_of_le_one {b : Byte} (le : b.toNat ≤ 1) : b = 0 ∨ b = 1 := by
  have zero_or_one : b.toNat = 0 ∨ b.toNat = 1 := by omega
  exact zero_or_one.imp (fun h => BitVec.eq_of_toNat_eq h) (fun h => BitVec.eq_of_toNat_eq h)

theorem layoutOf_of_known {lanes order place mark time clock col freeze policy : Byte} (hl : lanes.toNat ≤ 1)
    (ho : order.toNat ≤ 1) (hc : clock.toNat ≤ 1) (hp : policy.toNat ≤ 1) :
    layoutOf [lanes, order, place, mark, time, clock, col, freeze, policy] =
      some (layoutStored lanes order place mark time clock col freeze policy) := by
  have clamp (hi n : Nat) : clampTo 0 hi n = min hi n := by simp [clampTo]
  have rows : boolOfCode lanes = some (decide (lanes = 1)) := by
    obtain rfl | rfl := byte_of_le_one hl <;> rfl
  have orders : orderOfCode order = some (if order = 0 then .byLane else .byPlace) := by
    obtain rfl | rfl := byte_of_le_one ho <;> rfl
  have clocks : boolOfCode clock = some (decide (clock = 1)) := by
    obtain rfl | rfl := byte_of_le_one hc <;> rfl
  have policies : policyOfCode policy = some (if policy = 0 then .hold else .restart) := by
    obtain rfl | rfl := byte_of_le_one hp <;> rfl
  simp only [layoutOf, num8, byteAt, List.getD_cons_zero, List.getD_cons_succ, rows, orders, clocks, policies, clamp,
    layoutStored]

theorem toNat_le_of_order {b : Byte} {o : OrderMode} (named : orderOfCode b = some o) : b.toNat ≤ 1 := by
  unfold orderOfCode at named
  split at named
  · omega
  · omega
  · exact absurd named (by simp)

theorem toNat_le_of_policy {b : Byte} {o : ConflictPolicy} (named : policyOfCode b = some o) : b.toNat ≤ 1 := by
  unfold policyOfCode at named
  split at named
  · omega
  · omega
  · exact absurd named (by simp)

theorem layoutOf_of_unknown {lanes order place mark time clock col freeze policy : Byte}
    (unknown : 1 < lanes.toNat ∨ 1 < order.toNat ∨ 1 < clock.toNat ∨ 1 < policy.toNat) :
    layoutOf [lanes, order, place, mark, time, clock, col, freeze, policy] = none := by
  unfold layoutOf
  split
  next r o c p hr ho hc hp =>
    have lanes_le : lanes.toNat ≤ 1 := toNat_le_of_bool hr
    have order_le : order.toNat ≤ 1 := toNat_le_of_order ho
    have clock_le : clock.toNat ≤ 1 := toNat_le_of_bool hc
    have policy_le : policy.toNat ≤ 1 := toNat_le_of_policy hp
    omega
  next => rfl

theorem layoutClamped_eq (lanes order place mark time clock col freeze policy : Byte) :
    boolCode (layoutClamped [lanes, order, place, mark, time, clock, col, freeze, policy]) =
      if 30 < place.toNat ∨ 31 < mark.toNat ∨ 24 < time.toNat ∨ 24 < col.toNat ∨ 30 < freeze.toNat then 1 else 0 := by
  have flag : layoutClamped [lanes, order, place, mark, time, clock, col, freeze, policy] =
      decide (30 < place.toNat ∨ 31 < mark.toNat ∨ 24 < time.toNat ∨ 24 < col.toNat ∨ 30 < freeze.toNat) := by
    simp [layoutClamped, num8, byteAt, Bool.or_assoc, Bool.decide_or]
  rw [flag]
  split
  next h => rw [decide_eq_true h]; rfl
  next h => rw [decide_eq_false h]; rfl

/-- What BOARD_LAYOUT does to the board. -/
structure State.SetsLayout (s t : State) (y : Layout) : Prop where
  only : t = { s with board := t.board }
  board : t.board =
    { s.board with
      layout := y, cells := t.board.cells, map := t.board.map, dirty := t.board.dirty, chain := t.board.chain
      sinceRow1 := t.board.sinceRow1 }
  cells : (s.onBoard fun b => { b with layout := y }).AutoRows (fun _ => true) t
  map : t.board.map = t.mapNow
  clock : t.board.dirty[1] = true
  marks : s.MapFits → s.RowsMarked (fun _ => true) t

theorem State.setLayout_setsLayout (s : State) (y : Layout) : s.SetsLayout (s.setLayout y) y := by
  have auto := (s.onBoard fun b => { b with layout := y }).writeAllAuto_autoRows
  have drawn := (s.onBoard fun b => { b with layout := y }).writeAllAuto_redraws
  have shown := (s.onBoard fun b => { b with layout := y }).writeAllAuto_frame
  unfold State.setLayout
  generalize (s.onBoard fun b => { b with layout := y }).writeAllAuto = a at auto drawn shown ⊢
  have moved := a.recomputeMap_frame
  have map := a.recomputeMap_map
  have remapped := a.recomputeMap_redraws
  have cells := a.recomputeMap_cells
  generalize a.recomputeMap = r at moved map remapped cells ⊢
  have marked := r.markClockRow_redraws
  have kept : r.OnlyMap r.markClockRow := rfl
  have last : r.markClockRow.board.map = a.mapNow ∧ r.markClockRow.board.cells = a.board.cells := ⟨map, cells⟩
  generalize r.markClockRow = t at marked kept last ⊢
  obtain ⟨map, cells⟩ := last
  have late : a.OnlyMap t := moved.trans kept
  have frame : (s.onBoard fun b => { b with layout := y }).OnlyMap t := shown.toOnlyMap.trans late
  unfold State.OnlyMap at late frame
  refine ⟨?_, ?_, ?_, ?_, marked.mark.2 (.inr trivial), fun fits => ?_⟩
  · rw [frame]
    rfl
  · rw [frame]
    rfl
  · refine (auto.trans (.of_same cells fun _ => rfl) ?_ fun l _ _ => ?_).congr fun _ => rfl
    · rw [late]
    · intro y x old
      rw [late]
      rfl
  · rw [map]
    refine State.mapNow_congr ?_ ?_ ?_ ?_ <;> rw [late]
  · have first := drawn fits.head
    have second := remapped (first.head fits.head)
    refine ((first.trans second).trans marked).rowsMarked (s := s) ⟨rfl, rfl, rfl, rfl, rfl⟩ fun d _ worked => ?_
    have layout : t.board.layout = y := by
      rw [frame]
      rfl
    obtain (⟨rows, l, -, row⟩ | moves) | none := worked
    · refine .inr ⟨?_, l, rfl, row⟩
      rw [layout]
      exact rows
    · refine .inl ?_
      rw [map]
      have same : a.board.map = s.board.map := by
        rw [shown]
        rfl
      simpa only [same] using moves
    · exact none.elim

end

/-- Settles O53, from `State.setLayout_setsLayout`. -/
theorem layoutIsStored : Obligations.LayoutIsStored := by
  refine fun s lanes order place mark time clock col freeze policy taken => ⟨fun unknown => ?_, fun hl ho hc hp => ?_⟩
  · have refused := layoutOf_of_unknown (place := place) (mark := mark) (time := time) (col := col) (freeze := freeze) unknown
    rw [exec_boardLayout taken rfl, State.boardLayout, refused]
    rfl
  · have named := layoutOf_of_known (place := place) (mark := mark) (time := time) (col := col) (freeze := freeze) hl ho hc hp
    have sets := s.dropInbound.setLayout_setsLayout (layoutStored lanes order place mark time clock col freeze policy)
    rw [exec_boardLayout taken rfl, State.boardLayout, named, layoutClamped_eq]
    dsimp only
    generalize s.dropInbound.setLayout _ = t at sets ⊢
    obtain ⟨auto, zero, one⟩ := sets.cells
    have layout : t.board.layout = layoutStored lanes order place mark time clock col freeze policy := by rw [sets.board]
    have context (l : Lane) : t.context l = s.context l := by
      rw [sets.only]
      rfl
    have results : t.results = s.results := by rw [sets.only]; rfl
    have board : t.board =
        { s.board with
          layout := t.board.layout, cells := t.board.cells, map := t.board.map, dirty := t.board.dirty
          chain := t.board.chain, sinceRow1 := t.board.sinceRow1 } := by
      rw [layout]
      exact sets.board
    refine ⟨_, rfl, layout, fun l x => ?_, zero, one, sets.map, sets.clock, sets.marks, board, ?_, ?_⟩
    · refine (auto l x).trans ?_
      rw [context, results]
      refine if_congr ?_ rfl rfl
      rw [layout, and_iff_left rfl]
      exact decide_eq_true_iff
    · rw [sets.only]
      rfl
    · rw [sets.only]
      rfl

end Sys2Proof.Machine


/-! ### The ranking and the display row map (chapter 08, 8.3; chapter 10, 10.6) -/

namespace Sys2Proof.Machine

/-! #### The result order is sorted (R135) -/

section
variable (s : State)

theorem State.rankTime_eq (l : Lane) : s.rankTime l = s.rankHundredths l := by
  unfold State.rankTime State.rankHundredths LaneContext.finalHundredths hundredths
  cases (s.context l).final <;> rfl

/-- Lane a stands before lane b in the result order. -/
def State.RanksBefore (a b : Lane) : Prop :=
  s.rankHundredths a < s.rankHundredths b ∨ s.rankHundredths a = s.rankHundredths b ∧ a < b

theorem State.insertRanked_perm (l : Lane) (ks : List Lane) : (s.insertRanked l ks).Perm (l :: ks) := by
  induction ks with
  | nil => exact .refl _
  | cons k ks ih =>
    unfold State.insertRanked
    split
    · exact .refl _
    · exact (ih.cons k).trans (.swap l k ks)

/-- A lane joins a sorted list of lanes after it. -/
theorem State.insertRanked_sorted {l : Lane} {ks : List Lane} (before : ∀ k ∈ ks, l < k) (sorted : ks.Pairwise s.RanksBefore) :
    (s.insertRanked l ks).Pairwise s.RanksBefore := by
  induction ks with
  | nil => exact List.pairwise_singleton _ _
  | cons k ks ih =>
    obtain ⟨first, rest⟩ := List.pairwise_cons.1 sorted
    have ahead : l < k := before k List.mem_cons_self
    unfold State.insertRanked
    split
    next le =>
      rw [State.rankTime_eq, State.rankTime_eq] at le
      have leads : s.RanksBefore l k := (Nat.lt_or_eq_of_le le).imp id fun same => ⟨same, ahead⟩
      refine List.pairwise_cons.2 ⟨fun m hm => ?_, sorted⟩
      obtain rfl | hm := List.mem_cons.1 hm
      · exact leads
      · have later : l < m := before m (List.mem_cons_of_mem _ hm)
        obtain less | ⟨same, -⟩ := first m hm
        · exact .inl (Nat.lt_of_le_of_lt le less)
        · exact (Nat.lt_or_eq_of_le (same ▸ le)).imp id fun same => ⟨same, later⟩
    next slower =>
      rw [State.rankTime_eq, State.rankTime_eq] at slower
      refine List.pairwise_cons.2 ⟨fun m hm => ?_, ih (fun m hm => before m (List.mem_cons_of_mem _ hm)) rest⟩
      obtain rfl | hm := List.mem_cons.1 ((s.insertRanked_perm l ks).mem_iff.1 hm)
      · exact .inl (Nat.lt_of_not_le slower)
      · exact first m hm

theorem State.foldr_insertRanked_perm (ls : List Lane) : (ls.foldr s.insertRanked []).Perm ls := by
  induction ls with
  | nil => exact .refl _
  | cons l ls ih => exact (s.insertRanked_perm l _).trans (ih.cons l)

theorem State.foldr_insertRanked_sorted {ls : List Lane} (ascending : ls.Pairwise (· < ·)) :
    (ls.foldr s.insertRanked []).Pairwise s.RanksBefore := by
  induction ls with
  | nil => exact .nil
  | cons l ls ih =>
    obtain ⟨first, rest⟩ := List.pairwise_cons.1 ascending
    exact s.insertRanked_sorted (fun k hk => first k ((s.foldr_insertRanked_perm ls).mem_iff.1 hk)) (ih rest)

theorem State.resultOrder_perm : s.resultOrder.Perm (allLanes.filter s.isRanked) := s.foldr_insertRanked_perm _

theorem State.resultOrder_sorted : s.resultOrder.Pairwise s.RanksBefore :=
  s.foldr_insertRanked_sorted (List.Pairwise.filter _ (by decide))

theorem State.mem_resultOrder (l : Lane) : l ∈ s.resultOrder ↔ (s.context l).status = .finished := by
  rw [(s.resultOrder_perm).mem_iff, List.mem_filter]
  exact (and_iff_right (mem_allLanes l)).trans decide_eq_true_iff

theorem State.placeNow_of_finished {l : Lane} (finished : (s.context l).status = .finished) :
    s.placeNow l =
      some (1 + (s.resultOrder.filter fun k => decide (s.rankHundredths k < s.rankHundredths l)).length) := by
  have ranked : s.isRanked l = true := decide_eq_true finished
  rw [State.placeNow, if_pos ranked]
  simp only [State.rankTime_eq]
  rw [(s.resultOrder_perm.filter _).length_eq]

theorem State.placeNow_of_unfinished {l : Lane} (unfinished : (s.context l).status ≠ .finished) : s.placeNow l = none := by
  have unranked : ¬ s.isRanked l = true := fun ranked => unfinished (of_decide_eq_true ranked)
  rw [State.placeNow, if_neg unranked]

end

section
variable {s t : State}

/-- What the ranking rests on: a lane is FINISHED with this final time. -/
def LaneContext.ranking (c : LaneContext) : Option (Option Nat) :=
  if c.status = .finished then some (c.final.map Final.time) else none

/-- The same ranking of the same standings. -/
structure State.KeepsRanking (s t : State) : Prop where
  order : t.results.order = s.results.order
  places : t.results.places = s.results.places
  standing : ∀ l, (t.context l).ranking = (s.context l).ranking

theorem LaneContext.ranking_iff {c d : LaneContext} (same : d.ranking = c.ranking) :
    (d.status = .finished ↔ c.status = .finished)
      ∧ (c.status = .finished → d.final.map Final.time = c.final.map Final.time) := by
  unfold LaneContext.ranking at same
  by_cases h : d.status = .finished <;> by_cases k : c.status = .finished <;> simp_all

theorem State.rankHundredths_congr {l : Lane} (same : (t.context l).final.map Final.time = (s.context l).final.map Final.time) :
    t.rankHundredths l = s.rankHundredths l := by
  have through (u : State) : u.rankHundredths l = (((u.context l).final.map Final.time).map fun n => n / 100).getD 0 := by
    unfold State.rankHundredths
    rw [Option.map_map]
    rfl
  rw [through, through, same]

theorem State.KeepsRanking.ranksFit (h : s.KeepsRanking t) (fits : s.RanksFit) : t.RanksFit := by
  obtain ⟨members, once, sorted, placed, unplaced⟩ := fits
  have finished (l : Lane) := (LaneContext.ranking_iff (h.standing l)).1
  have time (l : Lane) (f : (s.context l).status = .finished) : t.rankHundredths l = s.rankHundredths l :=
    State.rankHundredths_congr ((LaneContext.ranking_iff (h.standing l)).2 f)
  unfold State.RanksFit
  rw [h.order, h.places]
  refine ⟨fun l => (members l).trans (finished l).symm, once, ?_, fun l f => ?_, fun l n => unplaced l fun f => n ((finished l).2 f)⟩
  · refine sorted.imp_of_mem fun {a b} ha hb before => ?_
    rw [time a ((members a).1 ha), time b ((members b).1 hb)]
    exact before
  · have f := (finished l).1 f
    rw [placed l f, time l f]
    refine congrArg (fun n => some (1 + n)) (congrArg List.length (List.filter_congr fun k hk => ?_))
    rw [time k ((members k).1 hk)]

end

/-! #### The board under an operation: rows written, rows marked -/

/-- Auto fields of some lanes are written, display rows are redrawn as they follow, and row 1 is marked when `clock`
holds. -/
structure State.BoardWork (s t : State) (written : Lane → Bool) (clock : Prop) : Prop where
  layout : t.board.layout = s.board.layout
  rows : s.AutoRows written t
  draws : s.board.map[1] = 1 → s.board.Redraws t.board (s.RowTouched written t) clock

section
variable {s t u : State} {written late : Lane → Bool} {m n : Prop}

theorem State.sameFields_of_eq (lanes : t.lanes = s.lanes) (results : t.results = s.results) (l : Lane) : s.SameFields t l := by
  have context : t.context l = s.context l := congrArg (fun lanes : Vector LaneContext 10 => lanes[l]) lanes
  intro y x old
  rw [context, results]

theorem State.BoardWork.congr (h : s.BoardWork t written m) (alike : ∀ l, late l = written l) (clock : m ↔ n) :
    s.BoardWork t late n := by
  obtain rfl : late = written := funext alike
  exact ⟨h.layout, h.rows, fun head => (h.draws head).mono (fun _ => id) clock⟩

/-- The board is kept, whatever else changes. -/
theorem State.BoardWork.of_board (same : t.board = s.board) : s.BoardWork t (fun _ => false) False := by
  refine ⟨by rw [same], .of_same (by rw [same]) fun _ => rfl, fun _ => ?_⟩
  rw [same]
  exact (Board.Redraws.refl _).mono nofun Iff.rfl

/-- One operation after another: the map changes in one of them at most, and a lane written in the first alone still shows
what it was written with. -/
theorem State.BoardWork.trans (h : s.BoardWork t written m) (k : t.BoardWork u late n)
    (once : s.board.map[1] = 1 → t.board.map = s.board.map ∨ u.board.map = t.board.map)
    (same : ∀ l, written l = true → late l = false → t.SameFields u l) :
    s.BoardWork u (fun l => written l || late l) (m ∨ n) := by
  refine ⟨k.layout.trans h.layout, h.rows.trans k.rows k.layout same, fun head => ?_⟩
  have first := h.draws head
  refine (first.trans (k.draws (first.head head))).mono (fun d touched => ?_) Iff.rfl
  have shows (lanes : ∃ l, (written l || late l) = true ∧ s.board.map[d] = laneRow l) (rows : u.board.layout.laneRows = true) :
      s.RowTouched (fun l => written l || late l) u d := .inr ⟨rows, lanes⟩
  by_cases moved : s.board.map[d] = u.board.map[d]
  · have still : s.board.map[d] = t.board.map[d] := by
      obtain same | same := once head
      · rw [same]
      · rw [moved, same]
    obtain (moves | ⟨rows, l, writes, row⟩) | (moves | ⟨rows, l, writes, row⟩) := touched
    · exact absurd still moves
    · exact shows ⟨l, by rw [writes, Bool.true_or], row⟩ (by rw [k.layout]; exact rows)
    · exact absurd (still.symm.trans moved) moves
    · exact shows ⟨l, by rw [writes, Bool.or_true], still.trans row⟩ rows
  · exact .inl moved

theorem State.WritesAuto.boardWork {f : State → Lane → State} (hf : State.WritesAuto f) {ls : List Lane} (once : ls.Nodup)
    (s : State) : s.BoardWork (ls.foldl f s) (fun l => decide (l ∈ ls)) False := by
  have kept := hf.foldl_keepsSheet ls s
  refine ⟨kept.layout, hf.foldl_autoRows once s, fun head => (hf.foldl_redraws ls s head).mono (fun d ⟨rows, l, among, row⟩ => ?_) Iff.rfl⟩
  exact .inr ⟨by rw [kept.layout]; exact rows, l, decide_eq_true among, row⟩

theorem State.writeAuto_boardWork (s : State) (k : Lane) : s.BoardWork (s.writeAuto k) (fun l => decide (l = k)) False :=
  (State.writeAuto_writesAuto.boardWork (List.nodup_singleton k) s).congr (fun l => by simp) Iff.rfl

theorem State.recomputeMap_boardWork (s : State) : s.BoardWork s.recomputeMap (fun _ => false) False := by
  refine ⟨s.recomputeMap_frame.board_layout, .of_same s.recomputeMap_cells fun _ => rfl, fun head => ?_⟩
  refine (s.recomputeMap_redraws head).mono (fun d moves => .inl ?_) Iff.rfl
  rw [s.recomputeMap_map]
  exact moves

theorem State.markClockRow_boardWork (s : State) : s.BoardWork s.markClockRow (fun _ => false) True :=
  ⟨rfl, .of_same rfl fun _ => rfl, fun _ => s.markClockRow_redraws.mono nofun Iff.rfl⟩

end

/-! #### A re-rank (R47, R136, R137) -/

section
variable {s : State}

/-- The finish-end lamp of a lane whose place has changed is written. -/
def State.litPlace (s : State) (l : Lane) : State :=
  match s.program with
  | some p => s.engineLamp l p.finishEnd (placeLamp s.results.places[l])
  | none => s

theorem State.showPlace_eq (s : State) (l : Lane) : s.showPlace l = (s.litPlace l).writeAuto l := rfl

theorem State.engineLamp_eq (s : State) (l : Lane) (side : PoolEnd) (pattern : Lamp) :
    s.engineLamp l side pattern = { s with ports := (s.engineLamp l side pattern).ports } := by
  unfold State.engineLamp
  split <;> rfl

theorem State.litPlace_eq (s : State) (l : Lane) : s.litPlace l = { s with ports := (s.litPlace l).ports } := by
  unfold State.litPlace
  split
  · exact State.engineLamp_eq _ _ _ _
  · rfl

theorem State.showPlace_writesAuto : State.WritesAuto State.showPlace := fun s l =>
  ⟨(s.litPlace l).ports, by rw [State.showPlace_eq, ← State.litPlace_eq]⟩

theorem State.placeChanges_nodup (s : State) : s.placeChanges.Nodup := List.Nodup.filter _ (by decide)

theorem State.mem_placeChanges {l : Lane} : l ∈ s.placeChanges ↔
    s.inRace l = true ∧ s.results.places[l] ≠ s.rerank.results.places[l] := by
  rw [State.placeChanges, List.mem_filter, State.rerank_results, Bool.and_eq_true_iff, bne_iff_ne]
  exact and_iff_right (mem_allLanes l)

/-- Another first lane of a race that is over marks display row 1. -/
def State.HeadChanges (s : State) : Prop :=
  (s.race = .complete ∨ s.race = .official) ∧ s.results.order.head? ≠ s.ranked.results.order.head?

theorem State.rerank_boardWork (s : State) : s.BoardWork s.rerank (fun l => decide (l ∈ s.placeChanges)) s.HeadChanges := by
  have kept := State.showPlace_writesAuto.foldl_keepsSheet s.placeChanges s.rankNoted
  have shown : s.BoardWork s.placesShown (fun l => decide (l ∈ s.placeChanges)) False :=
    ((State.BoardWork.of_board (s := s) (t := s.rankNoted) rfl).trans
      (State.showPlace_writesAuto.boardWork s.placeChanges_nodup s.rankNoted) (fun _ => .inl rfl) nofun).congr
      (fun _ => rfl) (or_self_iff)
  have mapped : s.BoardWork s.placesShown.recomputeMap (fun l => decide (l ∈ s.placeChanges)) False := by
    refine (shown.trans s.placesShown.recomputeMap_boardWork (fun _ => .inl kept.map) fun l _ _ => ?_).congr
      (fun l => (Bool.or_false _).symm) or_self_iff
    exact State.sameFields_of_eq s.placesShown.recomputeMap_frame.lanes s.placesShown.recomputeMap_frame.results l
  rw [State.rerank_eq]
  split
  next heads =>
    refine (mapped.trans (State.markClockRow_boardWork _) (fun _ => .inr rfl) fun l _ _ =>
      State.sameFields_of_eq rfl rfl l).congr (fun l => (Bool.or_false _).symm) ?_
    exact iff_of_true (.inr trivial) heads
  next stays => exact mapped.congr (fun _ => rfl) (iff_of_false id stays)

/-- A re-rank ranks the lanes anew, whatever the ranking was before (R135, R136). -/
theorem State.rerank_ranksFit (s : State) : s.rerank.RanksFit := by
  have context (l : Lane) : s.rerank.context l = s.context l :=
    congrArg (fun lanes : Vector LaneContext 10 => lanes[l]) s.rerank_frame.lanes
  have time (l : Lane) : s.rerank.rankHundredths l = s.rankHundredths l := by
    unfold State.rankHundredths
    rw [context]
  have order : s.rerank.results.order = s.resultOrder := by rw [State.rerank_results]
  have place (l : Lane) : s.rerank.results.places[l] = s.placeNow l := by
    rw [State.rerank_results]
    exact Vector.getElem_ofFn _
  unfold State.RanksFit
  simp only [order, place, time, context]
  refine ⟨s.mem_resultOrder, ?_, s.resultOrder_sorted, fun l => s.placeNow_of_finished, fun l => s.placeNow_of_unfinished⟩
  exact s.resultOrder_perm.nodup_iff.2 (List.Nodup.filter _ (by decide))

/-- A map that has been recomputed fits (R169). -/
theorem State.recomputeMap_mapFits (s : State) : s.recomputeMap.MapFits := by
  have frame := s.recomputeMap_frame
  refine s.recomputeMap_map.trans (State.mapNow_congr frame.board_layout ?_ frame.results frame.program).symm
  rw [frame.race]

theorem State.MapFits.markClockRow {s : State} (fits : s.MapFits) : s.markClockRow.MapFits := fits

theorem State.rerank_mapFits (s : State) : s.rerank.MapFits := by
  rw [State.rerank_eq]
  split
  · exact s.placesShown.recomputeMap_mapFits.markClockRow
  · exact s.placesShown.recomputeMap_mapFits

end

/-! #### O43 -/

section
variable {s : State}

theorem State.engineLamp_lamp (s : State) (l m : Lane) (side other : PoolEnd) (v : Lamp) :
    ((s.engineLamp l side v).ports.laneEnd m other).lamp =
      if m = l ∧ other = side ∧ s.ports.laneMode m = .timed then v else (s.ports.laneEnd m other).lamp := by
  unfold State.engineLamp
  by_cases here : m = l ∧ other = side
  · obtain ⟨rfl, rfl⟩ := here
    cases mode : s.ports.laneMode m with
    | timed => simp
    | level => simp
  · rw [if_neg fun h => here ⟨h.1, h.2.1⟩]
    split
    · exact congrArg LaneEnd.lamp (s.ports.laneEnd_setLaneEnd_other _ here)
    · rfl

theorem State.showPlace_ports (s : State) (l : Lane) : (s.showPlace l).ports = (s.litPlace l).ports := by
  rw [State.showPlace_eq, (State.writeAuto_frame _ _).ports]

theorem State.showPlace_program (s : State) (l : Lane) : (s.showPlace l).program = s.program := by
  rw [State.showPlace_eq, (State.writeAuto_frame _ _).program, State.litPlace_eq]

theorem State.PortsButLamps.laneMode {s t : State} (h : s.PortsButLamps t) (l : Lane) : t.ports.laneMode l = s.ports.laneMode l := by
  obtain ⟨ports, -⟩ := h
  unfold Ports.laneMode
  rw [ports]
  cases groupOf l <;> rfl

/-- The lamps after the places of a list of lanes have been shown. -/
theorem State.foldl_showPlace_lamp {ls : List Lane} (once : ls.Nodup) (s : State) {p : Program} (program : s.program = some p)
    (m : Lane) (side : PoolEnd) :
    ((ls.foldl State.showPlace s).ports.laneEnd m side).lamp =
      if m ∈ ls ∧ side = p.finishEnd ∧ s.ports.laneMode m = .timed then placeLamp s.results.places[m]
      else (s.ports.laneEnd m side).lamp := by
  induction ls generalizing s with
  | nil => exact (if_neg fun h => absurd h.1 List.not_mem_nil).symm
  | cons k ls ih =>
    obtain ⟨fresh, once⟩ := List.nodup_cons.1 once
    have mode := (s.showPlace_portsButLamps k).laneMode m
    have results := (State.showPlace_writesAuto.keepsSheet s k).results
    have first : ((s.showPlace k).ports.laneEnd m side).lamp =
        if m = k ∧ side = p.finishEnd ∧ s.ports.laneMode m = .timed then placeLamp s.results.places[k]
        else (s.ports.laneEnd m side).lamp := by
      rw [State.showPlace_ports, State.litPlace, program]
      exact s.engineLamp_lamp k m p.finishEnd side _
    refine (ih once (s.showPlace k) (by rw [State.showPlace_program, program])).trans ?_
    rw [mode, results, first]
    by_cases here : m = k
    · subst here
      simp [fresh]
    · simp [here]

/-- The place lamps after a re-rank (R47). -/
theorem State.rerank_lampsFollow {p : Program} (program : s.program = some p) : s.LampsFollow s.rerank p := by
  intro l side
  have inRace : s.inRace l = p.inRace l := by simp [State.inRace, program]
  have ports : s.rerank.ports = s.placesShown.ports := by
    rw [State.rerank_eq]
    split
    · exact s.placesShown.recomputeMap_frame.ports
    · exact s.placesShown.recomputeMap_frame.ports
  have places : s.rankNoted.results.places = s.rerank.results.places := by
    rw [State.rerank_results]
    rfl
  refine ((congrArg (fun e : Ports => (e.laneEnd l side).lamp) ports).trans
    (State.foldl_showPlace_lamp s.placeChanges_nodup s.rankNoted program l side)).trans ?_
  rw [places]
  refine if_congr ?_ rfl rfl
  rw [State.mem_placeChanges, inRace]
  exact ⟨fun ⟨⟨race, moved⟩, finish, timed⟩ => ⟨finish, race, timed, Ne.symm moved⟩,
    fun ⟨finish, race, timed, moved⟩ => ⟨⟨race, Ne.symm moved⟩, finish, timed⟩⟩

theorem State.autoChanged_rerank (s : State) (l : Lane) : s.autoChanged s.rerank l = decide (l ∈ s.placeChanges) := by
  have context : s.rerank.context l = s.context l :=
    congrArg (fun lanes : Vector LaneContext 10 => lanes[l]) s.rerank_frame.lanes
  rw [Bool.eq_iff_iff, decide_eq_true_iff, State.mem_placeChanges]
  simp [State.autoChanged, context]

theorem State.rerank_link (s : State) : s.rerank.link = s.link.reported [s.rerank.rankNote] := by
  have link : s.rerank.link = s.rankNoted.link := by
    have shown (ls : List Lane) (t : State) : (ls.foldl State.showPlace t).link = t.link := by
      induction ls generalizing t with
      | nil => rfl
      | cons l ls ih =>
        rw [List.foldl_cons, ih, State.showPlace_eq, (State.writeAuto_frame _ _).link, State.litPlace_eq]
    rw [State.rerank_eq]
    split
    · exact (s.placesShown.recomputeMap_frame.link).trans (shown _ _)
    · exact (s.placesShown.recomputeMap_frame.link).trans (shown _ _)
  have note : Report.rank s.ranked.rankEntries = s.rerank.rankNote := by
    have results : s.rerank.results = s.ranked.results := by rw [State.rerank_results]; rfl
    have context (l : Lane) : s.rerank.context l = s.context l :=
      congrArg (fun lanes : Vector LaneContext 10 => lanes[l]) s.rerank_frame.lanes
    unfold State.rankNote State.rankEntries
    rw [results]
    refine congrArg Report.rank (List.map_congr_left fun l _ => ?_)
    rw [context, State.rankTime_eq, LaneContext.confirmed_eq]
    rfl
  rw [link, ← note]
  rfl

/-- What an event shows of the board, when the map fits before and after. -/
theorem State.BoardWork.boardShows {s t : State} {written late : Lane → Bool} {clock : Prop} (h : s.BoardWork t late clock)
    (same : ∀ l, written l = late l) (fits : s.MapFits → t.MapFits) (marks : s.MapFits → (clock ↔ s.MarksClockRow t)) :
    s.BoardShows written t := by
  have h := h.congr same Iff.rfl
  refine ⟨h.rows, fun fit => ?_⟩
  have drawn := h.draws fit.head
  exact ⟨fits fit, drawn.rowsMarked ⟨rfl, rfl, rfl, rfl, rfl⟩ fun _ _ touched => touched,
    drawn.mark.trans (or_congr_right (marks fit))⟩

/-- No freeze starts and none ends while neither a final time nor the race state changes (R168). -/
theorem State.freezeFollows_of_kept {s t : State} (race : t.race = s.race) (finals : ∀ l, (t.context l).final = (s.context l).final)
    (freeze : t.board.freeze = s.board.freeze) (spent : t.board.spent = s.board.spent) : s.FreezeFollows t := by
  refine ⟨fun left => absurd race left, fun starts => ?_, fun _ => ⟨spent, fun _ => freeze⟩⟩
  obtain ⟨-, -, -, l, none, some⟩ := starts
  exact absurd ((finals l).trans none) some

theorem State.rerank_boardFollows (s : State) : s.BoardFollows s.rerank := by
  have frame := s.rerank_frame
  have context (l : Lane) : s.rerank.context l = s.context l :=
    congrArg (fun lanes : Vector LaneContext 10 => lanes[l]) frame.lanes
  refine ⟨s.rerank_boardWork.boardShows s.autoChanged_rerank (fun _ => s.rerank_mapFits) fun _ => ?_,
    State.freezeFollows_of_kept frame.race (fun l => by rw [context]) frame.board_freeze frame.board_spent⟩
  have order : s.rerank.results.order = s.ranked.results.order := by rw [State.rerank_results]; rfl
  unfold State.MarksClockRow State.HeadChanges
  rw [frame.clock, frame.board_freeze, frame.board_spent, frame.race, order]
  have ended : s.race.over = true ↔ s.race = .complete ∨ s.race = .official := by cases s.race <;> decide
  rw [ended]
  constructor
  · exact fun ⟨done, head⟩ => .inr (.inr (.inr ⟨done, done, head⟩))
  · rintro (h | h | ⟨h, k⟩ | ⟨done, -, head⟩)
    · exact absurd rfl h
    · exact absurd rfl h
    · rw [h] at k
      exact absurd k (by decide)
    · exact ⟨done, head⟩

end

/-- Settles O43: the order is an insertion sort by hundredths, the board as `State.rerank_boardWork` has it. -/
theorem rankingFollowsHundredths : Obligations.RankingFollowsHundredths := fun s =>
  have frame := s.rerank_frame
  ⟨s.rerank_ranksFit, s.rankTime_eq, s.rerank_link, fun _ => State.rerank_lampsFollow, s.rerank_portsButLamps, frame.lanes,
    frame.race, frame.clock, frame.log, by rw [State.rerank_results], s.rerank_boardFollows⟩

end Sys2Proof.Machine


/-! ### The ranking and the map after every row (O60) -/

namespace Sys2Proof.Machine

/-! #### Operations that leave ranking and map standing -/

section
variable {s t u : State}

/-- Nothing differs of what the ranking and the display row map rest on. -/
structure State.Stands (s t : State) : Prop where
  ranking : s.KeepsRanking t
  race : t.race = s.race
  program : t.program = s.program
  layout : t.board.layout = s.board.layout
  map : t.board.map = s.board.map

/-- The ranking stays fit, and so does the map. -/
def State.Displays (s t : State) : Prop := (s.ResultsFit → t.ResultsFit) ∧ (s.MapFits → t.MapFits)

theorem State.Displays.refl (s : State) : s.Displays s := ⟨id, id⟩

theorem State.Displays.trans (h : s.Displays t) (k : t.Displays u) : s.Displays u := ⟨k.1 ∘ h.1, k.2 ∘ h.2⟩

theorem State.Displays.ite {c : Prop} [Decidable c] (h : s.Displays t) (k : s.Displays u) :
    s.Displays (if c then t else u) := by
  split
  · exact h
  · exact k

theorem State.KeepsRanking.refl (s : State) : s.KeepsRanking s := ⟨rfl, rfl, fun _ => rfl⟩

theorem State.KeepsRanking.trans (h : s.KeepsRanking t) (k : t.KeepsRanking u) : s.KeepsRanking u :=
  ⟨k.order.trans h.order, k.places.trans h.places, fun l => (k.standing l).trans (h.standing l)⟩

theorem State.keepsRanking_of_same (lanes : t.lanes = s.lanes) (results : t.results = s.results) : s.KeepsRanking t :=
  ⟨by rw [results], by rw [results], fun l => by rw [State.context, lanes]; rfl⟩

theorem State.Stands.refl (s : State) : s.Stands s := ⟨.refl s, rfl, rfl, rfl, rfl⟩

theorem State.Stands.trans (h : s.Stands t) (k : t.Stands u) : s.Stands u :=
  ⟨h.ranking.trans k.ranking, k.race.trans h.race, k.program.trans h.program, k.layout.trans h.layout, k.map.trans h.map⟩

theorem State.Stands.ite {c : Prop} [Decidable c] (h : s.Stands t) (k : s.Stands u) : s.Stands (if c then t else u) := by
  split
  · exact h
  · exact k

theorem State.Stands.foldl {α : Type} (f : State → α → State) (hf : ∀ (s : State) (a : α), s.Stands (f s a)) (xs : List α) (s : State) :
    s.Stands (xs.foldl f s) := by
  induction xs generalizing s with
  | nil => exact .refl s
  | cons a xs ih => exact (hf s a).trans (ih (f s a))

theorem State.stands_of_same (lanes : t.lanes = s.lanes) (results : t.results = s.results) (race : t.race = s.race)
    (program : t.program = s.program) (layout : t.board.layout = s.board.layout) (map : t.board.map = s.board.map) :
    s.Stands t :=
  ⟨State.keepsRanking_of_same lanes results, race, program, layout, map⟩

theorem State.OnlyReports.stands (h : s.OnlyReports t) : s.Stands t := by
  rw [h]
  exact State.stands_of_same rfl rfl rfl rfl rfl rfl

theorem State.OnlyShown.stands (h : s.OnlyShown t) : s.Stands t := by
  rw [h]
  exact State.stands_of_same rfl rfl rfl rfl rfl rfl

theorem State.KeepsRace.stands {sampling : Bool} (k : s.KeepsRace sampling t) : s.Stands t :=
  State.stands_of_same k.lanes k.results k.race k.program k.layout k.map

/-- A change of a lane's records leaves ranking and map standing when no lane's standing changes. -/
theorem State.OnlyLane.stands (h : s.OnlyLane t) (standing : ∀ l, (t.context l).ranking = (s.context l).ranking) :
    s.Stands t :=
  ⟨⟨by rw [h.results], by rw [h.results], standing⟩, h.race, h.program, h.board_layout, h.board_map⟩

theorem State.KeepsRanking.noneFinished (h : s.KeepsRanking t) (none : ∀ l, (s.context l).status ≠ .finished) (l : Lane) :
    (t.context l).status ≠ .finished :=
  fun finished => none l ((LaneContext.ranking_iff (h.standing l)).1.1 finished)

theorem State.KeepsRanking.resultsFit (h : s.KeepsRanking t) (starts : t.race.started = false → s.race.started = false)
    (fits : s.ResultsFit) : t.ResultsFit :=
  ⟨h.ranksFit fits.1, fun unstarted => h.noneFinished (fits.2 (starts unstarted))⟩

/-- The map follows layout, race state, result order and program. -/
theorem State.mapNow_of_order (layout : t.board.layout = s.board.layout) (race : t.race = s.race)
    (order : t.results.order = s.results.order) (program : t.program = s.program) : t.mapNow = s.mapNow := by
  simp only [State.mapNow, State.shownLanes, State.inRace, layout, race, order, program]

theorem State.Stands.mapFits (h : s.Stands t) (fits : s.MapFits) : t.MapFits :=
  h.map.trans (fits.trans (State.mapNow_of_order h.layout h.race h.ranking.order h.program).symm)

/-- A change of lanes and watches leaves the map. -/
theorem State.OnlyLane.mapFits (h : s.OnlyLane t) (fits : s.MapFits) : t.MapFits :=
  h.board_map.trans (fits.trans (State.mapNow_of_order h.board_layout h.race (by rw [h.results]) h.program).symm)

theorem State.Stands.displays (h : s.Stands t) : s.Displays t :=
  ⟨h.ranking.resultsFit fun unstarted => h.race ▸ unstarted, h.mapFits⟩

theorem State.answer_displays (s : State) (kind : Byte) (code : ResultCode) (data : List Byte) :
    s.Displays (s.answer kind code data) :=
  (State.stands_of_same rfl rfl rfl rfl rfl rfl).displays

theorem State.Displays.answer (h : s.Displays t) (kind : Byte) (code : ResultCode) (data : List Byte) :
    s.Displays (t.answer kind code data) :=
  h.trans (t.answer_displays kind code data)

end

/-! #### The standing of a lane under its work -/

section
variable {w v : LaneWork}

theorem LaneContext.ranking_congr {c d : LaneContext} (status : d.status = c.status) (final : d.final = c.final) :
    d.ranking = c.ranking := by
  rw [LaneContext.ranking, LaneContext.ranking, status, final]

theorem LaneWork.OnlySettles.ranking (h : w.OnlySettles v) : v.ctx.ranking = w.ctx.ranking := by
  rw [h]
  exact LaneContext.ranking_congr rfl rfl

theorem LaneWork.OnlyExpects.ranking (h : w.OnlyExpects v) : v.ctx.ranking = w.ctx.ranking := by
  rw [h]
  exact LaneContext.ranking_congr rfl rfl

/-- A reaction: its value and the judgements of R113. -/
theorem LaneWork.react_frame (env : LaneEnv) (reaction : Int) (w : LaneWork) :
    (w.on fun c => { c with reaction := some reaction }).OnlyJudges (w.react env reaction) := by
  unfold LaneWork.react
  dsimp only
  split
  · exact LaneWork.judge_frame _ _ _
  · split
    · exact LaneWork.judge_frame _ _ _
    · exact .refl _

theorem LaneWork.OnlySettles.status (h : w.OnlySettles v) : v.ctx.status = w.ctx.status := by
  rw [h]

theorem LaneWork.react_ranking (env : LaneEnv) (reaction : Int) (w : LaneWork) :
    (w.react env reaction).ctx.ranking = w.ctx.ranking :=
  (w.react_frame env reaction).toOnlySettles.ranking.trans (LaneContext.ranking_congr rfl rfl)

/-- The start signal leaves the lane SWIMMING. -/
theorem LaneWork.startSignal_status (env : LaneEnv) (mark : Nat) (source : StartSource) (w : LaneWork) :
    (w.startSignal env mark source).ctx.status = .swimming := by
  have swimming : ((w.on fun c => { c with status := .swimming, source := some source }).expect env 1
      env.program.armDelay).ctx.status = .swimming := by
    rw [LaneWork.expect_frame]
    rfl
  unfold LaneWork.startSignal
  dsimp only
  split
  · exact (LaneWork.react_frame _ _ _).toOnlySettles.status.trans swimming
  · exact swimming

theorem LaneContext.ranking_of_unfinished {c : LaneContext} (unfinished : c.status ≠ .finished) : c.ranking = none :=
  if_neg unfinished

/-- Without a re-rank the standing of the lane is as it was (R136). -/
theorem ranking_of_not_needsRerank {before after : LaneContext} (still : needsRerank before after = false) :
    after.ranking = before.ranking := by
  unfold needsRerank at still
  unfold LaneContext.ranking
  cases old : before.status <;> cases new : after.status <;> simp_all

end

/-! #### Operations on one lane -/

section
variable {s t : State}

theorem State.setLane_stands {l : Lane} {c : LaneContext} (same : c.ranking = (s.context l).ranking) :
    s.Stands (s.setLane l c) := by
  refine (State.setLane_frame s l c).stands fun m => ?_
  by_cases here : m = l
  · subst here
    rw [State.context_setLane_same, same]
  · rw [State.context_setLane_other _ _ (Ne.symm here)]

theorem State.commit_stands {l : Lane} {w : LaneWork} (same : w.ctx.ranking = (s.context l).ranking) :
    s.Stands (s.commit l w) := by
  refine (State.commit_frame s l w).stands fun m => ?_
  by_cases here : m = l
  · subst here
    rw [State.commit_context_same, same]
  · rw [State.commit_context_other _ _ here]

/-- A change of race state recomputes the map. -/
theorem State.enter_mapFits (s : State) (race : RaceState) (clock : Clock) : (s.enter race clock).MapFits :=
  State.recomputeMap_mapFits _

theorem State.enter_keepsRanking (s : State) (race : RaceState) (clock : Clock) : s.KeepsRanking (s.enter race clock) :=
  State.keepsRanking_of_same (s.enter_lanes race clock) (s.enter_results race clock)

/-- A change of race state that takes no race back before its start. -/
theorem State.enter_displays (s : State) {race : RaceState} (clock : Clock)
    (starts : race.started = false → s.race.started = false) : s.Displays (s.enter race clock) :=
  ⟨(s.enter_keepsRanking race clock).resultsFit fun unstarted => starts (s.enter_race race clock ▸ unstarted),
    fun _ => s.enter_mapFits race clock⟩

theorem State.endWatches_stands (s : State) : s.Stands s.endWatches :=
  (State.endWatches_frame s).stands fun l => by rw [State.context, State.endWatches_lanes]; rfl

theorem State.checkCompletion_displays (s : State) : s.Displays s.checkCompletion := by
  refine .ite ?_ (.refl s)
  exact ((s.enter_displays (race := .complete) _ nofun).trans (State.endWatches_stands _).displays).trans
    (State.raceNote_frame _ _ _ _ _).stands.displays

/-- A re-rank in a started race leaves a ranking and a map that fit. -/
theorem State.rerank_displays (s : State) (started : s.race.started = true) : s.Displays s.rerank := by
  have unended : s.rerank.race.started = true := by rw [s.rerank_frame.race, started]
  exact ⟨fun _ => ⟨s.rerank_ranksFit, fun unstarted => (nomatch unended.symm.trans unstarted)⟩, fun _ => s.rerank_mapFits⟩

theorem State.laneEvent_displays (s : State) (l : Lane) (w : LaneWork) (started : s.race.started = true) :
    s.Displays (s.laneEvent l w) := by
  refine State.Displays.trans ?_ (State.checkCompletion_displays _)
  have put := State.commit_frame s l w
  split
  next =>
    have ranked := (s.commit l w).rerank_displays (by rw [put.race, started])
    refine ⟨fun _ => ⟨(s.commit l w).rerank_ranksFit, fun unstarted => ?_⟩, ranked.2 ∘ put.mapFits⟩
    rw [(State.rerank_frame _).race, put.race, started] at unstarted
    cases unstarted
  next still => exact (State.commit_stands (ranking_of_not_needsRerank (Bool.eq_false_iff.2 still))).displays

theorem State.logEntry_stands (s : State) (stamp : Stamp) (source : LogSource) (wall : Option Nat) (d : Disposition) :
    s.Stands (s.logEntry stamp source wall d) := by
  rw [State.logEntry_frame]
  exact State.stands_of_same rfl rfl rfl rfl rfl rfl

theorem State.raiseStuck_stands (s : State) (l : Lane) (side : PoolEnd) : s.Stands (s.raiseStuck l side) := by
  have raised : s.Stands
      ((s.setLaneEnd l side { s.ports.laneEnd l side with stuck := true }).report (.fault (.padStuck l side) true)) :=
    State.stands_of_same rfl rfl rfl rfl rfl rfl
  exact .ite (raised.trans (State.commit_stands (LaneWork.judge_frame _ _ _).toOnlySettles.ranking)) raised

theorem State.raiseStuckIfDue_stands (s : State) (l : Lane) (side : PoolEnd) : s.Stands (s.raiseStuckIfDue l side) :=
  .ite (s.raiseStuck_stands l side) (.refl s)

theorem State.raiseAllStuck_stands (s : State) : s.Stands s.raiseAllStuck :=
  .foldl _ (fun t l => (t.raiseStuckIfDue_stands l .start).trans (State.raiseStuckIfDue_stands _ l .turn)) allLanes s

/-- A press that is used belongs to a running race. -/
theorem State.running_of_padUse {l : Lane} {side : PoolEnd} {stamp : Stamp}
    (used : ∀ reason wall, s.padUse l side stamp ≠ .ignored reason wall) : s.race = .running := by
  unfold State.padUse at used
  split at used
  · assumption
  · exact absurd rfl (used _ _)

theorem State.padEvent_displays (s : State) (l : Lane) (side : PoolEnd) (stamp : Stamp) :
    s.Displays (s.padEvent l side stamp) := by
  have logged (wall : Option Nat) (d : Disposition) := s.logEntry_stands stamp (.pad l side) wall d
  have noted (p : Program) (wall v : Nat) (use : TouchUse) (running : s.race = .running) (w : LaneWork) :
      s.Displays (((s.logEntry stamp (.pad l side) (some wall) .accepted).touchNote p l side wall v use).laneEvent l w) := by
    have before := (logged (some wall) .accepted).trans (State.touchNote_frame _ p l side wall v use).stands
    exact before.displays.trans (State.laneEvent_displays _ l w (by rw [before.race, running]; rfl))
  unfold State.padEvent
  split
  · exact (logged _ _).displays
  · next used _ => exact noted _ _ _ _ (State.running_of_padUse fun _ _ => by rw [used]; exact nofun) _
  · next used _ => exact noted _ _ _ _ (State.running_of_padUse fun _ _ => by rw [used]; exact nofun) _
  · exact (logged _ _).displays

theorem State.logEntry_context (s : State) (stamp : Stamp) (source : LogSource) (wall : Option Nat) (d : Disposition) (l : Lane) :
    (s.logEntry stamp source wall d).context l = s.context l := by
  rw [State.logEntry_frame]
  rfl

theorem State.buttonEvent_stands (s : State) (l : Lane) (side : PoolEnd) (b : Fin 3) (stamp : Stamp) :
    s.Stands (s.buttonEvent l side b stamp) := by
  have logged (wall : Option Nat) (d : Disposition) := s.logEntry_stands stamp (.button l side b) wall d
  unfold State.buttonEvent
  split
  · exact logged _ _
  · exact (logged _ _).trans (State.setLane_stands (by rw [State.logEntry_context]; exact LaneContext.ranking_congr rfl rfl))
  · exact (logged _ _).trans (State.setLane_stands (by rw [State.logEntry_context]; exact LaneContext.ranking_congr rfl rfl))
  · exact logged _ _

theorem State.takeoffEvent_stands (s : State) (t : Takeoff) : s.Stands (s.takeoffEvent t) := by
  have logged (wall : Option Nat) (d : Disposition) := s.logEntry_stands t.stamp (.platform t.lane t.side) wall d
  unfold State.takeoffEvent
  dsimp only
  split
  · exact logged _ _
  · exact (logged _ _).trans (State.setLane_stands (by rw [State.logEntry_context]; exact LaneContext.ranking_congr rfl rfl))
  · refine (logged _ _).trans (State.commit_stands ?_)
    rw [LaneWork.react_ranking, State.logEntry_context]
    rfl
  · refine (logged _ _).trans (State.commit_stands ?_)
    rw [(LaneWork.judgeExchange_frame _ _ _ _ _).ranking, State.logEntry_context]
    exact LaneContext.ranking_congr rfl rfl
  · exact (logged _ _).trans (State.setLane_stands (by rw [State.logEntry_context]; exact LaneContext.ranking_congr rfl rfl))
  · exact logged _ _

theorem State.deliverTakeoff_stands (side : PoolEnd) (l : Lane) (s : State) : s.Stands (s.deliverTakeoff side l) := by
  unfold State.deliverTakeoff
  split
  · next k _ =>
    have landed : s.Stands { s with takeoffs := s.takeoffs.erase k } := State.stands_of_same rfl rfl rfl rfl rfl rfl
    exact landed.trans (State.takeoffEvent_stands _ k)
  · exact .refl s

theorem State.expireArm_stands (s : State) (l : Lane) : s.Stands (s.expireArm l) := by
  unfold State.expireArm
  split
  · exact State.commit_stands (LaneWork.placeExpected_frame _ _ _).ranking
  · exact .refl s

theorem State.running_of_closeDue {l : Lane} {w : CollectingWall} (due : s.closeDue l = some w) : s.race = .running := by
  unfold State.closeDue at due
  split at due
  · assumption
  · cases due

theorem State.expireClose_displays (s : State) (l : Lane) : s.Displays (s.expireClose l) := by
  unfold State.expireClose
  split
  · next due _ => exact s.laneEvent_displays l _ (by rw [State.running_of_closeDue due]; rfl)
  · exact .refl s

theorem State.endFreeze_stands (s : State) : s.Stands s.endFreeze := by
  obtain ⟨_, h⟩ | ⟨_, h⟩ := s.endFreeze_cases <;> rw [h]
  · exact State.stands_of_same rfl rfl rfl rfl rfl rfl
  · exact .refl s

end

/-! #### AMEND and BOARD_LAYOUT -/

section
variable {s : State}

/-- An AMEND keeps ranking and map fit when its action does in a started race. -/
theorem State.amending_displays (s : State) (lane : Byte) {act : Program → Lane → State}
    (keeps : ∀ p l, s.race.started = true → s.Displays (act p l)) : s.Displays (s.amending lane act) := by
  unfold State.amending
  split
  · next takes =>
    have started : s.race.started = true := by revert takes; cases s.race <;> decide
    split
    · split
      · exact .ite (keeps _ _ started) (s.answer_displays _ _ _)
      · exact s.answer_displays _ _ _
    · exact s.answer_displays _ _ _
  · exact s.answer_displays _ _ _

theorem State.setAmendment_stands (s : State) (l : Lane) (code : Option Nat) : s.Stands (s.setAmendment l code) :=
  ⟨⟨rfl, rfl, fun _ => rfl⟩, rfl, rfl, rfl, rfl⟩

theorem State.amendedEvent_displays (s : State) (l : Lane) (code : Option Nat) (w : LaneWork) (action : Byte)
    (more : List Byte) (started : s.race.started = true) :
    s.Displays (((s.setAmendment l code).laneEvent l w).amended l action more) :=
  ((s.setAmendment_stands l code).displays.trans (State.laneEvent_displays _ l w started)).answer _ _ _

theorem State.disqualify_displays (lane code : Byte) (s : State) : s.Displays (s.disqualify lane code) :=
  s.amending_displays lane fun _ l started => .ite (s.answer_displays _ _ _) (s.amendedEvent_displays l _ _ _ _ started)

theorem State.didNotStart_displays (lane : Byte) (s : State) : s.Displays (s.didNotStart lane) :=
  s.amending_displays lane fun _ l started => s.amendedEvent_displays l _ _ _ _ started

theorem State.restore_displays (lane : Byte) (s : State) : s.Displays (s.restore lane) :=
  s.amending_displays lane fun _ l started => .ite (s.amendedEvent_displays l _ _ _ _ started) (s.answer_displays _ _ _)

theorem State.timeWall_displays (lane : Byte) (time : Nat) (s : State) : s.Displays (s.timeWall lane time) := by
  refine s.amending_displays lane fun p l started => .ite (s.answer_displays _ _ _) ?_
  split
  · exact s.answer_displays _ _ _
  · exact .ite (s.amendedEvent_displays l _ _ _ _ started) (s.answer_displays _ _ _)

theorem State.amendAny_displays (payload : Payload) (s : State) : s.Displays (s.amendAny payload) := by
  unfold State.amendAny
  split
  · exact s.disqualify_displays _ _
  · exact s.didNotStart_displays _
  · exact s.restore_displays _
  · exact s.timeWall_displays _ _
  · exact .ite (s.answer_displays _ _ _) (s.answer_displays _ _ _)

theorem State.boardLayout_displays (payload : Payload) (s : State) : s.Displays (s.boardLayout payload) := by
  unfold State.boardLayout
  split
  · next y _ =>
    have set := s.setLayout_setsLayout y
    refine State.Displays.answer ⟨?_, fun _ => set.map⟩ _ _ _
    rw [set.only]
    exact (State.keepsRanking_of_same rfl rfl).resultsFit id
  · exact s.answer_displays _ _ _

end

/-! #### The race is taken off, started, closed -/

section
variable {s : State}

/-- An empty context is READY or IDLE. -/
theorem emptyContext_unfinished (program : Option Program) (l : Lane) : (emptyContext program l).status ≠ .finished := by
  unfold emptyContext
  split
  · dsimp only
    split <;> exact nofun
  · exact nofun

theorem State.discardResults_results (s : State) : s.discardResults.results = Results.reset := by
  unfold State.discardResults
  dsimp only
  split <;> rfl

/-- A map that fits an unfinished race stays fit whatever the result order. -/
theorem State.mapNow_of_unended {s t : State} (before : ¬ (s.race = .complete ∨ s.race = .official))
    (after : ¬ (t.race = .complete ∨ t.race = .official)) : t.mapNow = s.mapNow := by
  simp only [State.mapNow, State.shownLanes, before, after, and_false, if_false]

/-- A race taken off leaves an empty ranking of unfinished lanes. -/
theorem State.discardRace_ranking (s : State) (race : RaceState) :
    (∀ l, (s.discardRace race).context l = emptyContext s.program l) ∧ (s.discardRace race).results = Results.reset := by
  unfold State.discardRace
  generalize State.enter _ race ⟨.stopped, 0⟩ = entered
  dsimp only
  refine ⟨fun l => ?_, ?_⟩
  · rw [State.context, State.onPorts_lanes, (State.writeAllAuto_frame _).lanes, (State.discardResults_frame _).lanes,
      State.endWatches_lanes]
    exact State.context_mapLanes _ _ l
  · rw [State.onPorts_results, (State.writeAllAuto_frame _).results, State.discardResults_results]

theorem State.discardRace_resultsFit (s : State) (race : RaceState) : (s.discardRace race).ResultsFit := by
  obtain ⟨contexts, results⟩ := s.discardRace_ranking race
  have none (l : Lane) : ((s.discardRace race).context l).status ≠ .finished := by
    rw [contexts]
    exact emptyContext_unfinished _ _
  refine ⟨⟨fun l => ?_, ?_, ?_, fun l f => absurd f (none l), fun l _ => ?_⟩, fun _ => none⟩
  · rw [results]
    exact iff_of_false List.not_mem_nil (none l)
  · rw [results]
    exact List.nodup_nil
  · rw [results]
    exact .nil
  · rw [results]
    exact Vector.getElem_replicate _

theorem State.discardResults_board (s : State) : s.discardResults.board = s.board := by
  unfold State.discardResults
  dsimp only
  split <;> rfl

theorem State.discardRace_map (s : State) (race : RaceState) :
    (s.discardRace race).board.map = (({ s with source := none, startMark := none } : State).enter race ⟨.stopped, 0⟩).board.map := by
  unfold State.discardRace
  dsimp only
  generalize State.enter _ race ⟨.stopped, 0⟩ = entered
  generalize rebuilt : State.endWatches _ = t
  have kept : t.board = entered.board := by
    subst rebuilt
    exact State.endWatches_board _
  exact (State.writeAllAuto_frame _).stands.map.trans (congrArg Board.map (t.discardResults_board.trans kept))

theorem State.discardRace_mapFits (s : State) {race : RaceState} (taken : race = .loaded ∨ race = .empty) :
    (s.discardRace race).MapFits := by
  have unended : ¬ (race = .complete ∨ race = .official) := by obtain rfl | rfl := taken <;> decide
  refine (s.discardRace_map race).trans ((State.enter_mapFits _ race _).trans ?_)
  refine (State.mapNow_of_unended ?_ ?_).symm
  · rwa [State.enter_race]
  · rwa [State.discardRace_race]

theorem State.clearOverrun_stands (s : State) : s.Stands s.clearOverrun :=
  .ite (State.stands_of_same rfl rfl rfl rfl rfl rfl) (.refl s)

/-- What follows the taking off of a race leaves ranking and map standing. -/
theorem State.takenOff_stands (s : State) (previous : RaceState) (cause : RaceCause) (event clock : Nat) :
    s.Stands (s.clearOverrun.raiseAllStuck.raceNote previous cause event clock) :=
  (s.clearOverrun_stands.trans (State.raiseAllStuck_stands _)).trans (State.raceNote_frame _ _ _ _ _).stands

theorem State.displays_of_takenOff {t u : State} {race : RaceState} (taken : race = .loaded ∨ race = .empty)
    (stands : (t.discardRace race).Stands u) : s.Displays u :=
  ⟨fun _ => stands.displays.1 (t.discardRace_resultsFit race), fun _ => stands.mapFits (t.discardRace_mapFits taken)⟩

/-- A lane that is started is SWIMMING; ranking and map stand when none is FINISHED. -/
theorem State.startLane_stands (p : Program) (mark : Nat) (source : StartSource) {t : State} (l : Lane)
    (none : ∀ l, (t.context l).status ≠ .finished) : t.Stands (State.startLane p mark source t l) := by
  refine .ite (State.commit_stands ?_) (.refl t)
  rw [LaneContext.ranking_of_unfinished (none l)]
  exact LaneContext.ranking_of_unfinished (by rw [LaneWork.startSignal_status]; exact nofun)

theorem State.startLanes_stands (p : Program) (mark : Nat) (source : StartSource) (ls : List Lane) {t : State}
    (none : ∀ l, (t.context l).status ≠ .finished) : t.Stands (ls.foldl (State.startLane p mark source) t) := by
  induction ls generalizing t with
  | nil => exact .refl t
  | cons l ls ih =>
    have first := State.startLane_stands p mark source l none
    exact first.trans (ih (first.ranking.noneFinished none))

theorem State.startRace_displays (s : State) (unstarted : s.race.started = false) (mark first : Nat) (source : StartSource)
    (cause : RaceCause) : s.Displays (s.startRace mark first source cause) := by
  unfold State.startRace
  dsimp only
  generalize begun : State.onBoard _ _ = b
  have begins : s.Stands b := by
    subst begun
    exact State.stands_of_same rfl rfl rfl rfl rfl rfl
  have noted : s.Displays ((b.enter .running ⟨.running, first⟩).raceNote .armed cause s.eventId mark) :=
    (begins.displays.trans (b.enter_displays (race := .running) _ nofun)).trans (State.raceNote_frame _ _ _ _ _).stands.displays
  split
  · next p _ =>
    refine ⟨fun fits => ?_, fun fits => ?_⟩
    · have none := ((begins.ranking.trans (b.enter_keepsRanking .running ⟨.running, first⟩)).trans
        (State.raceNote_frame _ .armed cause s.eventId mark).stands.ranking).noneFinished (fits.2 unstarted)
      exact (State.startLanes_stands p mark source allLanes none).displays.1 (noted.1 fits)
    · exact (State.OnlyLane.foldl _ (State.startLane_frame p mark source) allLanes _).mapFits (noted.2 fits)
  · exact noted

theorem State.closeRace_displays (s : State) (cause : RaceCause) : s.Displays (s.closeRace cause) := by
  have closed (t : State) (previous : RaceState) (clock : Clock) (event value : Nat) :
      s.Displays ((t.rerank.enter .complete clock).raceNote previous cause event value) := by
    have noted := (State.raceNote_frame (t.rerank.enter .complete clock) previous cause event value).stands
    refine ⟨fun _ => ⟨noted.ranking.ranksFit ((t.rerank.enter_keepsRanking _ _).ranksFit t.rerank_ranksFit), fun unstarted => ?_⟩,
      fun _ => noted.mapFits (t.rerank.enter_mapFits _ _)⟩
    rw [noted.race, State.enter_race] at unstarted
    cases unstarted
  exact closed _ _ _ _ _

theorem State.setStartWatches_stands (p : Program) (s : State) : s.Stands (s.forLanes (State.setStartWatch p)) := by
  refine .foldl _ (fun t l => ?_) allLanes s
  rw [State.setStartWatch_frame]
  exact State.stands_of_same rfl rfl rfl rfl rfl rfl

theorem State.arm_displays (s : State) (loaded : s.race = .loaded) : s.Displays s.arm := by
  have entered : s.Displays (s.enter .armed ⟨.prestart, 0⟩) := s.enter_displays _ fun _ => by rw [loaded]; rfl
  unfold State.arm
  dsimp only
  split
  · exact (entered.trans (State.setStartWatches_stands _ _).displays).trans (State.raceNote_frame _ _ _ _ _).stands.displays
  · exact entered.trans (State.raceNote_frame _ _ _ _ _).stands.displays

theorem State.release_displays (s : State) : s.Displays s.release :=
  (s.enter_displays (race := .official) _ nofun).trans (State.raceNote_frame _ _ _ _ _).stands.displays

theorem State.saturate_displays (s : State) : s.Displays s.saturate := by
  have faulted : s.Displays (({ s with overrun := true } : State).report (.fault .clockOverrun true)) :=
    (State.stands_of_same rfl rfl rfl rfl rfl rfl).displays
  exact faulted.trans (State.closeRace_displays _ _)

theorem State.recall_displays (s : State) : s.Displays s.recall :=
  State.displays_of_takenOff (.inl rfl) (State.raceNote_frame _ _ _ _ _).stands

theorem State.storeProgram_displays (s : State) (p : Program) : s.Displays (s.storeProgram p) :=
  State.displays_of_takenOff (.inl rfl) (State.takenOff_stands _ _ _ _ _)

theorem State.removeProgram_displays (s : State) : s.Displays s.removeProgram :=
  State.displays_of_takenOff (.inr rfl) (State.takenOff_stands _ _ _ _ _)

end

/-! #### The rows -/

section
variable (s : State)

theorem State.onPorts_displays (f : Ports → Ports) : s.Displays (s.onPorts f) :=
  (State.stands_of_same rfl rfl rfl rfl rfl rfl).displays

theorem State.recognisePress_displays (line : Line) (stamp : Stamp) : s.Displays (s.recognisePress line stamp) := by
  cases line with
  | pad l side =>
    have held := s.onPorts_displays fun p => p.setLaneEnd l side { s.ports.laneEnd l side with pad := .pressed, held := some 1 }
    exact .ite (held.trans (State.padEvent_displays _ _ _ _)) held
  | button l side b =>
    have pressed := s.onPorts_displays fun p => p.setLine (.button l side b) .pressed
    exact .ite (pressed.trans (State.buttonEvent_stands _ _ _ _ _).displays) pressed
  | startLine =>
    refine (s.onPorts_displays fun p => p.setLine .startLine .pressed).trans ?_
    change State.Displays _ (State.startEdgeEvent _ stamp)
    unfold State.startEdgeEvent
    split
    · next mark armed =>
      have logged := State.logEntry_stands (s.setLine .startLine .pressed) (.pre mark) .start none .accepted
      exact logged.displays.trans (State.startRace_displays _ (by rw [logged.race]; exact armed ▸ rfl) _ _ _ _)
    · exact (State.logEntry_stands _ _ _ _ _).displays

theorem State.secondPress_displays (line : Line) : s.Displays (s.secondPress line) := by
  unfold State.secondPress
  split
  · exact s.recognisePress_displays line _
  · exact .refl s

theorem State.recogniseRelease_displays (line : Line) : s.Displays (s.recogniseRelease line) := by
  cases line with
  | pad l side =>
    exact .ite (State.stands_of_same rfl rfl rfl rfl rfl rfl).displays (State.stands_of_same rfl rfl rfl rfl rfl rfl).displays
  | button l side b => exact s.onPorts_displays _
  | startLine => exact s.onPorts_displays _

theorem State.sample_displays (line : Line) (closed : Bool) : s.Displays (s.sample line closed) := by
  unfold State.sample
  split
  · exact s.onPorts_displays _
  · exact .refl s
  · exact s.recognisePress_displays line _
  · exact s.onPorts_displays _
  · exact .refl s
  · exact s.onPorts_displays _
  · exact s.onPorts_displays _
  · exact s.recogniseRelease_displays line

theorem State.programLoad_displays (payload : Payload) : s.Displays (s.programLoad payload) := by
  unfold State.programLoad
  refine .ite (s.answer_displays _ _ _) ?_
  split
  · exact s.answer_displays _ _ _
  · exact (s.storeProgram_displays _).answer _ _ _

theorem State.raceArm_displays : s.Displays s.raceArm := by
  unfold State.raceArm
  split
  · next loaded => exact .ite ((s.arm_displays loaded).answer _ _ _) (s.answer_displays _ _ _)
  · exact s.answer_displays _ _ _

theorem State.startManual_displays : s.Displays s.startManual := by
  unfold State.startManual
  split
  · next armed => exact (s.startRace_displays (by rw [armed]; rfl) _ _ _ _).answer _ _ _
  · exact s.answer_displays _ _ _

theorem State.raceClear_displays : s.Displays s.raceClear :=
  .ite (s.answer_displays _ _ _) (.ite (s.answer_displays _ _ _) (s.removeProgram_displays.answer _ _ _))

theorem raceWork_displays (i : Instr) : s.Displays (raceWork i s) := by
  cases i with
  | programLoad payload => exact s.programLoad_displays payload
  | raceArm _ => exact s.raceArm_displays
  | startManual _ => exact s.startManual_displays
  | raceRecall _ => exact .ite (s.recall_displays.answer _ _ _) (s.answer_displays _ _ _)
  | raceClose _ => exact .ite ((s.closeRace_displays _).answer _ _ _) (s.answer_displays _ _ _)
  | resultsRelease _ => exact .ite (s.release_displays.answer _ _ _) (s.answer_displays _ _ _)
  | raceClear _ => exact s.raceClear_displays
  | clockSaturation => exact .ite s.saturate_displays (.refl s)
  | padPress _ _ | buttonPress _ _ _ | startLineEdge => exact s.secondPress_displays _
  | contactLineSample line closed => exact s.sample_displays line closed
  | amendDisqualify lane code _ => exact s.disqualify_displays lane code
  | amendDidNotStart lane _ _ => exact s.didNotStart_displays lane
  | amendRestore lane _ _ => exact s.restore_displays lane
  | amendTimeWall lane _ time => exact s.timeWall_displays lane time.toNat
  | amend payload => exact s.amendAny_displays payload
  | boardLayout payload => exact s.boardLayout_displays payload
  | stuckTimerExpiry l side => exact (s.raiseStuckIfDue_stands l side).displays
  | takeoff side l => exact (s.deliverTakeoff_stands side l).displays
  | armTimerExpiry l => exact (s.expireArm_stands l).displays
  | closeTimerExpiry l => exact s.expireClose_displays l
  | freezeEnd => exact .ite s.endFreeze_stands.displays (.refl s)
  | _ => exact .refl s

/-- After a reset no lane is ranked. -/
theorem State.afterReset_resultsFit : s.afterReset.ResultsFit := by
  have idle (l : Lane) : s.afterReset.context l = LaneContext.reset := Vector.getElem_replicate _
  have none (l : Lane) : (s.afterReset.context l).status ≠ .finished := by
    rw [idle]
    exact nofun
  exact ⟨⟨fun l => iff_of_false List.not_mem_nil (none l), List.nodup_nil, .nil, fun l f => absurd f (none l),
    fun l _ => Vector.getElem_replicate _⟩, fun _ => none⟩

/-- After a reset the map is the identity. -/
theorem State.afterReset_mapFits : s.afterReset.MapFits := by
  have identity : State.reset.board.map = State.reset.mapNow := by decide +kernel
  exact identity.trans (State.mapNow_of_order (s := s.afterReset) (t := State.reset) rfl rfl rfl rfl)

theorem State.afterReset_displays : s.Displays s.afterReset :=
  ⟨fun _ => s.afterReset_resultsFit, fun _ => s.afterReset_mapFits⟩

end

theorem exec_displays {i : Instr} {s t : State} (ran : exec i s = .next t) : s.Displays t := by
  by_cases row : changesRace i = true
  · by_cases reset : isReset i = true
    · obtain rfl | rfl | rfl | rfl := exec_reset ran reset
      · exact .refl _
      · exact s.afterReset_displays
      · exact s.afterReset_displays
      · exact s.afterReset_displays
    · obtain ⟨f, _, rfl | rfl⟩ := exec_raceWork ran row (Bool.eq_false_iff.2 reset)
      · exact (State.stands_of_same rfl rfl rfl rfl rfl rfl).displays
      · exact raceWork_displays (s.onLink f) i
  · exact (exec_aside ran (Bool.eq_false_iff.2 row)).stands.displays

theorem step_displays {s t : State} (ran : step s = .next t) : s.Displays t := by
  obtain ⟨_, rfl⟩ | ⟨i, rest, _, ran⟩ := step_cases ran
  · obtain ⟨_, idle⟩ | ⟨_, _, idle⟩ | ⟨_, _, idle⟩ := s.idle_cases <;> rw [idle]
    · exact .refl s
    · exact (State.stands_of_same rfl rfl rfl rfl rfl rfl).displays
    · obtain ⟨layout, map, -⟩ := s.tick_keeps
      exact (State.stands_of_same s.tick_lanes s.tick_results s.tick_race s.tick_program layout map).displays
  · exact exec_displays (s := { s with pending := rest }) ran

/-- Settles O60: an operation lets ranking and map stand, or re-ranks and recomputes them. -/
theorem resultsAndMapAreKept : Obligations.ResultsAndMapAreKept := by
  unfold Obligations.ResultsAndMapAreKept
  exact ⟨fun _ _ fits ran => (step_displays ran).1 fits, fun _ _ fits ran => (step_displays ran).2 fits⟩

end Sys2Proof.Machine


/-! ### Presses that change little (chapter 05, 5.4; chapter 06, 6.2) -/

namespace Sys2Proof.Machine

/-! #### Rows of a press -/

section
variable {s : State} {l : Lane} {side : PoolEnd} {b : Fin 3} {stamp : Stamp}

/-- The state of a pad whose press is recognised: pressed, the stuck timer started. -/
def State.padHeld (s : State) (l : Lane) (side : PoolEnd) : State :=
  s.setLaneEnd l side { s.ports.laneEnd l side with pad := .pressed, held := some 1 }

theorem exec_padPress (free : s.resetHeld = false) (seen : (s.ports.laneEnd l side).pad = .pressSeen stamp) :
    exec (.padPress l side) s = .next (s.recognisePad l side stamp) :=
  congrArg Host.Outcome.next ((State.unlessHeld_of_free _ free).trans (State.secondPress_of_pressSeen (line := .pad l side) seen))

theorem exec_buttonPress (free : s.resetHeld = false) (seen : (s.ports.laneEnd l side).buttons[b] = .pressSeen stamp) :
    exec (.buttonPress l side b) s = .next (s.recogniseButton l side b stamp) :=
  congrArg Host.Outcome.next
    ((State.unlessHeld_of_free _ free).trans (State.secondPress_of_pressSeen (line := .button l side b) seen))

theorem exec_startLineEdge (free : s.resetHeld = false) (seen : s.ports.startLine = .pressSeen stamp) :
    exec .startLineEdge s = .next (s.recogniseStart stamp) :=
  congrArg Host.Outcome.next ((State.unlessHeld_of_free _ free).trans (State.secondPress_of_pressSeen (line := .startLine) seen))

/-- In a TIMED group with the pad enabled the press reaches the lane. -/
theorem State.recognisePad_of_enabled (timed : s.ports.laneMode l = .timed) (on : (s.ports.laneEnd l side).padOn = true) :
    s.recognisePad l side stamp = (s.padHeld l side).padEvent l side stamp :=
  if_pos ⟨timed, on⟩

theorem State.recognisePad_of_disabled (off : s.ports.laneMode l = .level ∨ (s.ports.laneEnd l side).padOn = false) :
    s.recognisePad l side stamp = s.padHeld l side := by
  refine if_neg fun ⟨timed, on⟩ => ?_
  obtain level | off := off
  · exact nomatch timed.symm.trans level
  · exact nomatch on.symm.trans off

theorem State.recogniseButton_of_enabled (timed : s.ports.laneMode l = .timed)
    (on : (s.ports.laneEnd l side).buttonsOn = true) :
    s.recogniseButton l side b stamp = (s.setLine (.button l side b) .pressed).buttonEvent l side b stamp :=
  if_pos ⟨timed, on⟩

theorem State.recogniseButton_of_disabled (off : s.ports.laneMode l = .level ∨ (s.ports.laneEnd l side).buttonsOn = false) :
    s.recogniseButton l side b stamp = s.setLine (.button l side b) .pressed := by
  refine if_neg fun ⟨timed, on⟩ => ?_
  obtain level | off := off
  · exact nomatch timed.symm.trans level
  · exact nomatch on.symm.trans off

/-! #### The uses of a press -/

/-- A use does not look at the contact lines. -/
theorem State.padUse_padHeld (s : State) (l : Lane) (side : PoolEnd) (stamp : Stamp) :
    (s.padHeld l side).padUse l side stamp = s.padUse l side stamp := rfl

theorem State.buttonUse_setLine (s : State) (line : Line) (x : LineState) (l : Lane) (side : PoolEnd) (b : Fin 3)
    (stamp : Stamp) : (s.setLine line x).buttonUse l side b stamp = s.buttonUse l side b stamp := rfl

theorem State.padEvent_of_ignored {reason : Reason} {wall : Option Nat} (used : s.padUse l side stamp = .ignored reason wall) :
    s.padEvent l side stamp = s.logEntry stamp (.pad l side) wall (.ignored reason) := by
  unfold State.padEvent
  rw [used]

theorem State.buttonEvent_of_ignored {reason : Reason} {wall : Option Nat}
    (used : s.buttonUse l side b stamp = .ignored reason wall) :
    s.buttonEvent l side b stamp = s.logEntry stamp (.button l side b) wall (.ignored reason) := by
  unfold State.buttonEvent
  rw [used]

theorem State.buttonEvent_of_join {w : CollectingWall} {v : Nat} (used : s.buttonUse l side b stamp = .join w v) :
    s.buttonEvent l side b stamp =
      (s.logEntry stamp (.button l side b) (some w.index) .accepted).setLane l ((s.context l).joinPress w b v) := by
  unfold State.buttonEvent
  rw [used]

theorem State.buttonEvent_of_opens {e : ExpectedWall} {v : Nat} {p : Program} (program : s.program = some p)
    (used : s.buttonUse l side b stamp = .opens e v) :
    s.buttonEvent l side b stamp =
      (s.logEntry stamp (.button l side b) (some e.index) .accepted).setLane l ((s.context l).openByPress p e b v) := by
  unfold State.buttonEvent
  rw [used, program]

theorem State.padUse_of_race {v : Nat} (running : s.race = .running) (inRace : s.inRace l = true) :
    s.padUse l side (.race v) = (s.context l).padUse side v := by
  simp only [State.padUse, running, inRace, if_true]

theorem State.buttonUse_of_race {v : Nat} {p : Program} (running : s.race = .running) (program : s.program = some p)
    (inRace : p.inRace l = true) (station : p.station = some side) :
    s.buttonUse l side b (.race v) = (s.context l).buttonUse side b v := by
  simp [State.buttonUse, running, program, inRace, station]

end

section
variable {c : LaneContext} {side : PoolEnd} {v : Nat}

theorem LaneContext.expectedAt_eq_some {e : ExpectedWall} (expected : c.expected = some e) (here : e.side = side) :
    c.expectedAt side = some e := by
  simp [LaneContext.expectedAt, expected, here]

theorem LaneContext.expectedAt_eq_none (away : ∀ e, c.expected = some e → e.side ≠ side) : c.expectedAt side = none :=
  Option.filter_eq_none_iff.2 fun e expected here => away e expected (of_decide_eq_true here)

theorem LaneContext.collectingAt_eq_some {w : CollectingWall} (collecting : c.collecting = some w) (here : w.side = side) :
    c.collectingAt side = some w := by
  simp [LaneContext.collectingAt, collecting, here]

/-- Without a pad time to give, a press is tested against the expected wall. -/
theorem LaneContext.padUse_of_open (takes : c.takesTouches = true)
    (past : ∀ w, c.collecting = some w → w.side ≠ side ∨ w.pad = none ∧ w.closeTime ≤ v) :
    c.padUse side v = c.touchExpected side v := by
  unfold LaneContext.padUse
  rw [takes, if_neg (by decide)]
  split
  next w found =>
    obtain ⟨collecting, here⟩ := Option.filter_eq_some_iff.1 found
    obtain away | ⟨free, late⟩ := past w collecting
    · exact absurd (of_decide_eq_true here) away
    · simp [free, Nat.not_lt.2 late]
  next => rfl

end

/-- Settles O38: an ignored press is the row's change of the pad and one log entry; the tests of R77 are read off in their
order. -/
theorem padPressIgnored : Obligations.PadPressIgnored := by
  refine ⟨fun s l side stamp free seen => ⟨fun off => ?_, fun reason wall timed on used => ?_⟩,
    fun s l side stamp v c context => ⟨fun other => ?_, fun running outside => ?_, fun running inRace => ?_⟩⟩
  · rw [exec_padPress free seen, State.recognisePad_of_disabled off]
    rfl
  · rw [exec_padPress free seen, State.recognisePad_of_enabled timed on, 
      State.padEvent_of_ignored ((s.padUse_padHeld ..).trans used), State.logEntry_eq]
    rfl
  · unfold State.padUse
    split
    · next running => exact other.elim (absurd running) fun none => absurd rfl (none _)
    · rfl
  · simp only [State.padUse, running, outside, Bool.false_eq_true, if_false]
  · subst context
    rw [State.padUse_of_race running inRace]
    refine ⟨fun done => by simp [LaneContext.padUse, done], fun takes => ⟨fun w collecting here touched => ?_, fun past => ?_⟩⟩
    · simp [LaneContext.padUse, takes, LaneContext.collectingAt_eq_some collecting here, touched]
    · rw [LaneContext.padUse_of_open takes past]
      refine ⟨fun none => ?_, fun e expected here early => ?_⟩
      · rw [LaneContext.touchExpected, LaneContext.expectedAt_eq_none none]
      · rw [LaneContext.touchExpected, LaneContext.expectedAt_eq_some expected here]
        refine if_neg fun ⟨armed, later⟩ => ?_
        obtain off | le := early
        · exact nomatch armed.symm.trans off
        · exact absurd later (Nat.not_lt.2 le)

/-- Settles O39: the tests of R93 in their order, and the one context a used press changes. -/
theorem buttonPressIsTaken : Obligations.ButtonPressIsTaken := by
  refine ⟨fun s p l side b v free seen timed on running program inRace station => ?_,
    fun s l side b stamp free seen => ⟨fun off => ?_, fun reason wall timed on used => ?_⟩,
    fun s l side b stamp v p => ⟨fun other => ?_, fun running program => ⟨fun outside => ?_, fun inRace =>
      ⟨fun elsewhere => ?_, fun station none early => ?_⟩⟩⟩⟩
  · have row : exec (.buttonPress l side b) s = .next ((s.setLine (.button l side b) .pressed).buttonEvent l side b (.race v)) := by
      rw [exec_buttonPress free seen, State.recogniseButton_of_enabled timed on]
    have use : (s.setLine (.button l side b) .pressed).buttonUse l side b (.race v) = (s.context l).buttonUse side b v := by
      rw [State.buttonUse_setLine, State.buttonUse_of_race running program inRace station]
    rw [row]
    refine ⟨fun w collecting fresh => ?_, fun w collecting repeated => ?_, fun e none expected here armed later => ?_⟩
    · have new : (w.presses.any fun q => decide (q.button = b)) = false := by simpa using fresh
      rw [State.buttonEvent_of_join (w := w) (v := v) (use.trans (by simp [LaneContext.buttonUse, collecting, new])),
        State.logEntry_eq]
      rfl
    · have old : (w.presses.any fun q => decide (q.button = b)) = true := by simpa using repeated
      rw [State.buttonEvent_of_ignored (reason := .repeatButton) (wall := some w.index)
          (use.trans (by simp only [LaneContext.buttonUse, collecting, old, if_true])),
        State.logEntry_eq]
      rfl
    · have opens : (s.context l).buttonUse side b v = .opens e v := by
        simp [LaneContext.buttonUse, none, LaneContext.expectedAt_eq_some expected here, armed, later]
      rw [State.buttonEvent_of_opens (s := s.setLine (.button l side b) .pressed) program (use.trans opens), State.logEntry_eq]
      subst here
      rfl
  · rw [exec_buttonPress free seen, State.recogniseButton_of_disabled off]
    rfl
  · rw [exec_buttonPress free seen, State.recogniseButton_of_enabled timed on,
      State.buttonEvent_of_ignored ((s.buttonUse_setLine ..).trans used), State.logEntry_eq]
    rfl
  · unfold State.buttonUse
    split
    · next running _ => exact other.elim (absurd running) fun none => absurd rfl (none _)
    · next running _ => exact other.elim (absurd running) fun none => absurd rfl (none _)
    · rfl
  · simp [State.buttonUse, running, program, outside]
  · simp [State.buttonUse, running, program, inRace, elsewhere]
  · rw [State.buttonUse_of_race running program inRace station]
    unfold LaneContext.buttonUse
    rw [none]
    dsimp only
    split
    · next e found =>
      obtain ⟨expected, here⟩ := Option.filter_eq_some_iff.1 found
      refine if_neg fun ⟨armed, later⟩ => ?_
      obtain away | off | le := early e expected
      · exact away (of_decide_eq_true here)
      · exact nomatch armed.symm.trans off
      · exact absurd later (Nat.not_lt.2 le)
    · rfl

end Sys2Proof.Machine


/-! ### One reply to every command (chapter 11, 11.3) -/

namespace Sys2Proof.Machine

/-- A result code and data that a reply of this kind may carry. -/
def PlainReply (kind : Byte) (code : ResultCode) (data : List Byte) : Prop :=
  code = .done ∨ data = [] ∨ (kind = kindProgramLoad ∧ code = .badValue) ∨ (kind = kindRaceArm ∧ code = .badState)

/-- The work of a command's owner leaves the inbound buffer and puts one reply of the command's kind in the slot, or, for
PLATFORM_ZERO, holds it back. -/
structure State.Replies (kind : Byte) (s t : State) : Prop where
  inbound : t.link.inbound = s.link.inbound
  reply : (∃ r, t.link.slot = .holding r ∧ r.kind = kind ∧ PlainReply kind r.code r.data)
    ∨ (kind = kindPlatformZero ∧ t.link.slot = .zeroing ∧ t.zeroing.isSome = true)

section
variable {s t u : State} {kind : Byte}

theorem State.replies_answer {code : ResultCode} {data : List Byte} (inbound : t.link.inbound = s.link.inbound)
    (plain : PlainReply kind code data) : s.Replies kind (t.answer kind code data) :=
  ⟨inbound, .inl ⟨_, rfl, rfl, plain⟩⟩

theorem State.replies_done (data : List Byte) (inbound : t.link.inbound = s.link.inbound) :
    s.Replies kind (t.answer kind .done data) :=
  State.replies_answer inbound (.inl rfl)

theorem State.replies_refused (s : State) (kind : Byte) (code : ResultCode) : s.Replies kind (s.answer kind code []) :=
  State.replies_answer rfl (.inr (.inl rfl))

theorem State.Replies.ite {c : Prop} [Decidable c] (h : s.Replies kind t) (k : s.Replies kind u) :
    s.Replies kind (if c then t else u) := by
  split
  · exact h
  · exact k

/-! #### The owners -/

theorem State.linkSet_replies (s : State) (payload : Payload) : s.Replies kindLinkSet (s.linkSet payload) := by
  unfold State.linkSet
  split
  · exact State.replies_done _ rfl
  · exact s.replies_refused _ _

theorem State.programLoad_replies (s : State) (payload : Payload) : s.Replies kindProgramLoad (s.programLoad payload) := by
  have stored (p : Program) : (s.storeProgram p).link.inbound = s.link.inbound :=
    ((((State.discardRace_frame _ _).trans (State.clearOverrun_frame _)).trans (State.raiseAllStuck_frame _)).trans
      (State.raceNote_frame _ _ _ _ _).toOnlyRace).link_inbound
  refine .ite (s.replies_refused _ _) ?_
  split
  · exact State.replies_answer rfl (.inr (.inr (.inl ⟨rfl, rfl⟩)))
  · exact State.replies_done _ (stored _)

theorem State.arm_inbound (s : State) : s.arm.link.inbound = s.link.inbound := by
  rw [State.arm_frame]
  exact (State.enter_race_frame _ _ _).link_inbound

theorem State.raceArm_replies (s : State) : s.Replies kindRaceArm s.raceArm :=
  .ite (.ite (State.replies_done _ s.arm_inbound) (State.replies_answer rfl (.inr (.inr (.inr ⟨rfl, rfl⟩)))))
    (State.replies_answer rfl (.inr (.inr (.inr ⟨rfl, rfl⟩))))

theorem State.startManual_replies (s : State) : s.Replies kindStartManual s.startManual :=
  .ite (State.replies_done _ (State.startRace_frame _ _ _ _ _).link_inbound) (s.replies_refused _ _)

theorem State.raceRecall_replies (s : State) : s.Replies kindRaceRecall s.raceRecall :=
  .ite (State.replies_done _ ((State.discardRace_frame _ _).trans (State.raceNote_frame _ _ _ _ _).toOnlyRace).link_inbound)
    (s.replies_refused _ _)

theorem State.raceClose_replies (s : State) : s.Replies kindRaceClose s.raceClose :=
  .ite (State.replies_done _ (State.closeRace_frame _ _).link_inbound) (s.replies_refused _ _)

theorem State.resultsRelease_replies (s : State) : s.Replies kindResultsRelease s.resultsRelease :=
  .ite (State.replies_done _ ((State.enter_race_frame _ _ _).trans (State.raceNote_frame _ _ _ _ _).toOnlyRace).link_inbound)
    (s.replies_refused _ _)

theorem State.raceClear_replies (s : State) : s.Replies kindRaceClear s.raceClear := by
  have removed : s.removeProgram.link.inbound = s.link.inbound :=
    ((((State.discardRace_frame _ _).trans (State.clearOverrun_frame _)).trans (State.raiseAllStuck_frame _)).trans
      (State.raceNote_frame _ _ _ _ _).toOnlyRace).link_inbound
  exact .ite (s.replies_refused _ _) (.ite (s.replies_refused _ _) (State.replies_done _ removed))

theorem State.setGroupMode_replies (s : State) (payload : Payload) : s.Replies kindGroupMode (s.setGroupMode payload) := by
  unfold State.setGroupMode
  split
  · exact .ite (s.replies_refused _ _) (State.replies_done _ rfl)
  · exact s.replies_refused _ _

theorem State.writeLine_replies (s : State) (payload : Payload) : s.Replies kindLineSet (s.writeLine payload) := by
  unfold State.writeLine
  split
  · exact State.replies_done _ rfl
  · exact State.replies_done _ rfl
  · exact State.replies_done _ rfl
  · exact s.replies_refused _ _

theorem State.platformZero_replies (s : State) : s.Replies kindPlatformZero s.platformZero :=
  .ite (s.replies_refused _ _) (.ite (State.replies_done _ rfl) ⟨rfl, .inr ⟨rfl, rfl, rfl⟩⟩)

theorem State.platformLimits_replies (s : State) (payload : Payload) :
    s.Replies kindPlatformLimits (s.platformLimits payload) := by
  unfold State.platformLimits
  split
  · next side _ => exact State.replies_done _ (by cases side <;> rfl)
  · exact s.replies_refused _ _

theorem State.setSampler_inbound (s : State) (side : PoolEnd) (enabled : Bool) :
    (s.setSampler side enabled).link.inbound = s.link.inbound := by
  unfold State.setSampler
  dsimp only
  split
  · rw [(State.reportAll_frame _ _).link_inbound]
    cases side <;> rfl
  · cases side <;> rfl
  · rfl

theorem State.samplerSet_replies (s : State) (payload : Payload) : s.Replies kindSamplerSet (s.samplerSet payload) := by
  unfold State.samplerSet
  split
  · exact State.replies_done _ (s.setSampler_inbound _ _)
  · exact s.replies_refused _ _

theorem State.amending_replies (s : State) (lane : Byte) {act : Program → Lane → State}
    (acts : ∀ p l, s.Replies kindAmend (act p l)) : s.Replies kindAmend (s.amending lane act) := by
  unfold State.amending
  refine .ite ?_ (s.replies_refused _ _)
  split
  · split
    · exact .ite (acts _ _) (s.replies_refused _ _)
    · exact s.replies_refused _ _
  · exact s.replies_refused _ _

theorem State.amendedEvent_replies (s : State) (l : Lane) (code : Option Nat) (w : LaneWork) (action : Byte)
    (more : List Byte) : s.Replies kindAmend (((s.setAmendment l code).laneEvent l w).amended l action more) :=
  State.replies_done _ (State.laneEvent_frame _ _ _).link_inbound

theorem State.disqualify_replies (s : State) (lane code : Byte) : s.Replies kindAmend (s.disqualify lane code) :=
  s.amending_replies lane fun _ l => .ite (s.replies_refused _ _) (s.amendedEvent_replies l _ _ _ _)

theorem State.didNotStart_replies (s : State) (lane : Byte) : s.Replies kindAmend (s.didNotStart lane) :=
  s.amending_replies lane fun _ l => s.amendedEvent_replies l _ _ _ _

theorem State.restore_replies (s : State) (lane : Byte) : s.Replies kindAmend (s.restore lane) :=
  s.amending_replies lane fun _ l => .ite (s.amendedEvent_replies l _ _ _ _) (s.replies_refused _ _)

theorem State.timeWall_replies (s : State) (lane : Byte) (time : Nat) : s.Replies kindAmend (s.timeWall lane time) := by
  refine s.amending_replies lane fun p l => .ite (s.replies_refused _ _) ?_
  split
  · exact s.replies_refused _ _
  · exact .ite (s.amendedEvent_replies l _ _ _ _) (s.replies_refused _ _)

theorem State.amendAny_replies (s : State) (payload : Payload) : s.Replies kindAmend (s.amendAny payload) := by
  unfold State.amendAny
  split
  · exact s.disqualify_replies _ _
  · exact s.didNotStart_replies _
  · exact s.restore_replies _
  · exact s.timeWall_replies _ _
  · exact .ite (s.replies_refused _ _) (s.replies_refused _ _)

theorem State.boardMode_replies (s : State) (payload : Payload) : s.Replies kindBoardMode (s.boardMode payload) := by
  unfold State.boardMode
  split
  · exact State.replies_done _ rfl
  · exact s.replies_refused _ _

theorem State.boardArea_replies (s : State) (payload : Payload) : s.Replies kindBoardArea (s.boardArea payload) := by
  refine .ite (s.replies_refused _ _) ?_
  split
  · exact State.replies_done _ rfl
  · exact s.replies_refused _ _

theorem State.boardMask_replies (s : State) (payload : Payload) : s.Replies kindBoardMask (s.boardMask payload) := by
  unfold State.boardMask
  split
  · exact State.replies_done _ rfl
  · exact s.replies_refused _ _

theorem State.boardWrite_replies (s : State) (payload : Payload) : s.Replies kindBoardWrite (s.boardWrite payload) := by
  have written (w : WriteProgress) : (s.writeBoard w).link.inbound = s.link.inbound := by
    have frame := s.putRows_frame w.cells
    unfold State.writeBoard
    generalize s.putRows w.cells = t at frame ⊢
    exact frame.toOnlyRace.link_inbound
  refine .ite (s.replies_refused _ _) ?_
  split
  · exact State.replies_done _ (written _)
  · exact s.replies_refused _ _

theorem State.boardRead_replies (s : State) (payload : Payload) : s.Replies kindBoardRead (s.boardRead payload) :=
  .ite (State.replies_done _ rfl) (s.replies_refused _ _)

theorem State.boardClear_replies (s : State) (payload : Payload) : s.Replies kindBoardClear (s.boardClear payload) := by
  refine .ite (s.replies_refused _ _) ?_
  split
  · exact State.replies_done _ rfl
  · exact s.replies_refused _ _

theorem State.boardLayout_replies (s : State) (payload : Payload) : s.Replies kindBoardLayout (s.boardLayout payload) := by
  unfold State.boardLayout
  split
  · next y _ =>
    refine State.replies_done _ ?_
    rw [(s.setLayout_setsLayout y).only]
  · exact s.replies_refused _ _

theorem State.boardModule_replies (s : State) (index value : Byte) : s.Replies kindBoardModule (s.boardModule index value) := by
  unfold State.boardModule
  split
  · exact s.replies_refused _ _
  · exact .ite (s.replies_refused _ _) (.ite (s.replies_refused _ _) (State.replies_done _ rfl))

end

/-- Every owner replies once. -/
theorem exec_command_replies {i : Instr} {f : Frame} (framed : frameOf i = some f)
    (known : ∀ kind payload, i ≠ .unknownKind kind payload) :
    ∃ owner, (∀ s : State, exec i s = .next (s.take f.kind f.payload owner)) ∧ ∀ s : State, s.Replies f.kind (owner s) := by
  cases i <;> cases framed
  case unknownKind kind payload => exact absurd rfl (known kind payload)
  case identAsk | statusAsk | controllerReset | lamp | padEnable | buttonEnable | logClear | boardClearStop =>
    exact ⟨_, fun _ => rfl, fun _ => State.replies_done _ rfl⟩
  case linkSet payload => exact ⟨_, fun _ => rfl, fun s => s.linkSet_replies payload⟩
  case programLoad payload => exact ⟨_, fun _ => rfl, fun s => s.programLoad_replies payload⟩
  case programAsk =>
    refine ⟨_, fun _ => rfl, fun s => ?_⟩
    dsimp only
    split
    · exact State.replies_done _ rfl
    · exact s.replies_refused _ _
  case raceArm => exact ⟨_, fun _ => rfl, State.raceArm_replies⟩
  case startManual => exact ⟨_, fun _ => rfl, State.startManual_replies⟩
  case raceRecall => exact ⟨_, fun _ => rfl, State.raceRecall_replies⟩
  case raceClose => exact ⟨_, fun _ => rfl, State.raceClose_replies⟩
  case resultsRelease => exact ⟨_, fun _ => rfl, State.resultsRelease_replies⟩
  case raceClear => exact ⟨_, fun _ => rfl, State.raceClear_replies⟩
  case groupMode payload => exact ⟨_, fun _ => rfl, fun s => s.setGroupMode_replies payload⟩
  case linesAsk | laneAsk =>
    refine ⟨_, fun _ => rfl, fun s => ?_⟩
    dsimp only
    split
    · exact State.replies_done _ rfl
    · exact s.replies_refused _ _
  case platformZero => exact ⟨_, fun _ => rfl, State.platformZero_replies⟩
  case platformLimits payload => exact ⟨_, fun _ => rfl, fun s => s.platformLimits_replies payload⟩
  case platformAsk =>
    refine ⟨_, fun _ => rfl, fun s => ?_⟩
    dsimp only
    split
    · exact State.replies_done _ rfl
    · exact s.replies_refused _ _
  case samplerSet payload => exact ⟨_, fun _ => rfl, fun s => s.samplerSet_replies payload⟩
  case wallsAsk =>
    refine ⟨_, fun _ => rfl, fun s => ?_⟩
    dsimp only
    split
    · exact .ite (State.replies_done _ rfl) (s.replies_refused _ _)
    · exact s.replies_refused _ _
  case resultsAsk =>
    refine ⟨_, fun _ => rfl, fun s => .ite (State.replies_done _ rfl) ?_⟩
    split
    · exact State.replies_done _ rfl
    · exact s.replies_refused _ _
  case amendDisqualify lane code _ => exact ⟨_, fun _ => rfl, fun s => s.disqualify_replies lane code⟩
  case amendDidNotStart lane _ _ => exact ⟨_, fun _ => rfl, fun s => s.didNotStart_replies lane⟩
  case amendRestore lane _ _ => exact ⟨_, fun _ => rfl, fun s => s.restore_replies lane⟩
  case amendTimeWall lane _ time => exact ⟨_, fun _ => rfl, fun s => s.timeWall_replies lane time.toNat⟩
  case amend payload => exact ⟨_, fun _ => rfl, fun s => s.amendAny_replies payload⟩
  case logRead => exact ⟨_, fun _ => rfl, fun s => .ite (State.replies_done _ rfl) (s.replies_refused _ _)⟩
  case boardMode payload => exact ⟨_, fun _ => rfl, fun s => s.boardMode_replies payload⟩
  case boardArea payload => exact ⟨_, fun _ => rfl, fun s => s.boardArea_replies payload⟩
  case boardMask payload => exact ⟨_, fun _ => rfl, fun s => s.boardMask_replies payload⟩
  case boardWrite payload => exact ⟨_, fun _ => rfl, fun s => s.boardWrite_replies payload⟩
  case boardRead payload => exact ⟨_, fun _ => rfl, fun s => s.boardRead_replies payload⟩
  case boardClear payload => exact ⟨_, fun _ => rfl, fun s => s.boardClear_replies payload⟩
  case boardLayout payload => exact ⟨_, fun _ => rfl, fun s => s.boardLayout_replies payload⟩
  case lineSet payload => exact ⟨_, fun _ => rfl, fun s => s.writeLine_replies payload⟩
  case brightness value | blank value | selfTest value | moduleReset value =>
    exact ⟨_, fun _ => rfl, fun s => s.boardModule_replies _ value⟩
  case boardModule payload => exact ⟨_, fun _ => rfl, fun s => s.boardModule_replies _ _⟩

/-- A command that is taken is refused by the link, or handed to its owner. -/
theorem State.take_replies {s : State} {kind : Byte} {payload : Payload} {owner : State → State}
    (taken : s.Takes ⟨kind, payload⟩) (owns : ∀ s : State, s.Replies kind (owner s)) :
    s.dropInbound.Replies kind (s.take kind payload owner) := by
  by_cases fits : payloadLength kind payload = some payload.length
  · rw [State.take_owner owner taken fits]
    exact owns _
  · rw [State.take_badLength owner taken fits]
    exact State.replies_refused _ _ _

/-- Settles O10: the link or the owner places one reply. -/
theorem everyCommandOneReply : Obligations.EveryCommandOneReply := by
  intro s i f wf framed taken
  by_cases unknown : ∃ kind payload, i = .unknownKind kind payload
  · obtain ⟨kind, payload, rfl⟩ := unknown
    cases framed
    have free : (payloadLength kind payload).isNone = true := (Bool.and_eq_true_iff.1 wf).1
    have refused := s.dropInbound.replies_refused kind .unknownKind
    refine ⟨_, ?_, refused.inbound, refused.reply⟩
    exact congrArg Host.Outcome.next (if_pos ⟨(State.canTake_iff s _).2 taken, free⟩)
  · obtain ⟨owner, ran, owns⟩ := exec_command_replies framed fun kind payload same => unknown ⟨kind, payload, same⟩
    have replies := State.take_replies taken owns
    exact ⟨_, ran s, replies.inbound, replies.reply⟩

end Sys2Proof.Machine


/-! ### The power-on values (chapters 02 to 11) -/

namespace Sys2Proof.Machine

/-- After a reset nothing is expected, collected or resolved, and there is no program. -/
theorem State.afterReset_wallsFit (s : State) : s.afterReset.WallsFit := by
  have idle (l : Lane) : s.afterReset.context l = LaneContext.reset := Vector.getElem_replicate _
  refine ⟨fun _ l => ?_, nofun, fun some => absurd rfl some, fun _ => rfl, nofun, fun l w collecting => ?_⟩
  · rw [idle]
    exact ⟨rfl, rfl, rfl, rfl, nofun⟩
  · rw [idle] at collecting
    cases collecting

theorem State.reset_laneEnd (l : Lane) (side : PoolEnd) : State.reset.ports.laneEnd l side = LaneEnd.reset := by
  have both : State.reset.ports.lanes[l] = ⟨LaneEnd.reset, LaneEnd.reset⟩ := Vector.getElem_replicate _
  rw [Ports.laneEnd, both]
  cases side <;> rfl

theorem State.reset_sampler (side : PoolEnd) : State.reset.sampler side = Sampler.reset := by
  cases side <;> rfl

theorem State.reset_channel (side : PoolEnd) (l : Lane) : State.reset.channel side l = Channel.reset := by
  rw [State.channel, State.reset_sampler]
  exact Vector.getElem_replicate _

theorem State.reset_cell (x : Fin 32) (y : Fin 12) : State.reset.board.cellAt x y = ⟨32, 7⟩ := by
  revert x y
  decide +kernel

/-- Settles O3, block by block; the invariants hold after any reset. -/
theorem resetValues : Obligations.ResetValues := by
  refine ⟨⟨⟨rfl, rfl, rfl, rfl, rfl⟩, ⟨rfl, rfl, rfl, rfl, State.reset_laneEnd⟩, fun side => ?_,
    fun l => Vector.getElem_replicate _, ⟨rfl, fun l => ⟨Vector.getElem_replicate _, Vector.getElem_replicate _⟩⟩,
    rfl, ⟨State.reset_cell, rfl, rfl, rfl, rfl, rfl, rfl, rfl, rfl, fun d => ⟨?_, Vector.getElem_replicate _⟩, rfl, rfl, rfl, rfl, rfl⟩,
    ⟨rfl, rfl, rfl, rfl, rfl, rfl, rfl, rfl, rfl, rfl⟩⟩,
    State.reset.afterReset_raceFits, State.reset.afterReset_bounded, ⟨Sampler.reset_inRange, Sampler.reset_inRange⟩, fun l => ?_,
    State.reset.afterReset_mapFits, State.reset.afterReset_wallsFit, State.reset.afterReset_resultsFit⟩
  · rw [State.reset_sampler]
    exact ⟨rfl, rfl, rfl, rfl, rfl, State.reset_channel side⟩
  · revert d
    decide +kernel
  · rw [show State.reset.context l = LaneContext.reset from Vector.getElem_replicate _]
    exact .nil

end Sys2Proof.Machine


/-! ### One count of time (chapters 02, 03, 04, 10, 11) -/

namespace Sys2Proof.Machine

section
variable (s : State)

/-! #### What moves -/

theorem Ports.tick_laneEnd (p : Ports) (l : Lane) (side : PoolEnd) : p.tick.laneEnd l side = (p.laneEnd l side).tick :=
  Ports.laneEnd_mapLaneEnds p _ l side

theorem State.tick_sampler (side : PoolEnd) :
    s.tick.sampler side = { s.sampler side with spent := false, rotation := (s.sampler side).rotation + 1 } := by
  rw [State.sampler, State.tick_samplers]
  cases side <;> rfl

theorem State.tick_context (l : Lane) : s.tick.context l = s.context l := by
  rw [State.context, State.tick_lanes]
  rfl

theorem Clock.tick_phase (c : Clock) : c.tick.phase = c.phase := by
  obtain same | ⟨_, _, moved⟩ := c.tick_cases
  · rw [same]
  · rw [moved]

theorem Clock.tick_value (c : Clock) : c.tick.value =
    if (c.phase = .prestart ∨ c.phase = .running) ∧ c.value < 35999999 then c.value + 1 else c.value := by
  have counts : c.phase.counts = true ↔ c.phase = .prestart ∨ c.phase = .running := by cases c.phase <;> decide
  exact (apply_ite Clock.value _ _ _).trans (if_congr (and_congr_left fun _ => counts) rfl rfl)

/-- A count leaves board memory, map, area, masks and freeze. -/
theorem State.tick_board_frame : s.tick.board =
    { s.board with
      chain := s.tick.board.chain, clear := s.tick.board.clear, dirty := s.tick.board.dirty
      sinceRow1 := s.tick.board.sinceRow1, rotation := s.tick.board.rotation, modeSlot := s.tick.board.modeSlot
      moduleSlot := s.tick.board.moduleSlot } := by
  have frame := State.chooseFrame_frame (s.onLink Link.choose)
  rw [State.tick_board, State.chooseFrames]
  generalize State.chooseFrame _ = t at frame ⊢
  rw [frame]
  rfl

theorem State.tick_clear : s.tick.board.clear = s.board.clear.map fun c => { c with wait := c.wait - 1 } := by
  have frame := State.chooseFrame_frame (s.onLink Link.choose)
  rw [State.tick_board, State.chooseFrames]
  generalize State.chooseFrame _ = t at frame ⊢
  rw [frame]
  rfl

/-- A frame on the chain is sent on. -/
theorem State.tick_of_chain {f : ChainFrame} (busy : s.board.chain = some f) :
    s.tick.board.chain = some { f with left := f.left - 1 } ∧ s.tick.board.dirty = s.board.dirty
      ∧ s.tick.board.sinceRow1 = min 1000 (s.board.sinceRow1 + 1) := by
  have stays : s.chooseFrames = s.onLink Link.choose := State.chooseFrame_of_busy (s := s.onLink Link.choose) busy
  rw [State.tick_board, stays]
  refine ⟨?_, rfl, rfl⟩
  change s.board.chain.map _ = _
  rw [busy]
  rfl

/-- A count moves gap and line, and takes the oldest report off the queue at most. -/
theorem Link.tick_choose_frame (k : Link) :
    k.choose.tick = { k with rx := k.choose.tick.rx, line := k.choose.tick.line, queue := k.choose.tick.queue } := by
  obtain same | ⟨_, _, _, _, begun⟩ | ⟨_, _, _, _, _, _, begun⟩ := k.choose_cases
  · rw [same]; rfl
  · rw [begun]; rfl
  · rw [begun]; rfl

theorem Link.tick_choose_rx (k : Link) : k.choose.tick.rx = k.rx.tick := by
  obtain same | ⟨_, _, _, _, begun⟩ | ⟨_, _, _, _, _, _, begun⟩ := k.choose_cases
  · rw [same]; rfl
  · rw [begun]; rfl
  · rw [begun]; rfl

theorem Link.tick_of_line {k : Link} {f : LineFrame} (busy : k.line = some f) :
    k.choose.tick.line = some { f with left := f.left - Config.baud k.speed } ∧ k.choose.tick.queue = k.queue := by
  obtain same | ⟨_, free, _⟩ | ⟨_, _, free, _⟩ := k.choose_cases
  · rw [same, Link.tick, busy]
    exact ⟨rfl, rfl⟩
  · exact nomatch free.symm.trans busy
  · exact nomatch free.symm.trans busy

/-! #### The rows that fall due -/

theorem mem_dueRow {due : Bool} {row i : Instr} : i ∈ dueRow due row ↔ due = true ∧ i = row := by
  unfold dueRow
  split <;> simp_all

variable {s}

/-- The rows that join the queue in a count. -/
theorem State.mem_tick_pending (empty : s.pending = []) (i : Instr) : i ∈ s.tick.pending ↔
    ((∃ l, (s.tick.closeDue l).isSome = true ∧ Instr.closeTimerExpiry l = i)
      ∨ (∃ l, (s.tick.armDue l).isSome = true ∧ Instr.armTimerExpiry l = i)
      ∨ ∃ l side, s.tick.stuckDue l side = true ∧ i = Instr.stuckTimerExpiry l side)
    ∨ (s.tick.saturated = true ∧ i = .clockSaturation)
    ∨ (prestartLimitReached s.clock s.tick.clock = true ∧ i = .prestartClockLimit)
    ∨ (s.tick.freezeOver = true ∧ i = .freezeEnd) ∨ (s.tick.board.rowDue = true ∧ i = .clearRowFill)
    ∨ (s.tick.board.chain.any (fun f => f.left == 0) = true ∧ i = .boardFrameEnd)
    ∨ (s.rowOneDue s.tick = true ∧ i = .clockRowDue) ∨ (s.tick.link.rx.gapOver = true ∧ i = .frameGapTimeout)
    ∨ (s.tick.link.line.any (fun f => f.left == 0) = true ∧ i = .lineFrameEnd) := by
  have timers : i ∈ s.passCount.dueTimers ↔
      ((∃ l, (s.tick.closeDue l).isSome = true ∧ Instr.closeTimerExpiry l = i)
      ∨ (∃ l, (s.tick.armDue l).isSome = true ∧ Instr.armTimerExpiry l = i)
      ∨ ∃ l side, s.tick.stuckDue l side = true ∧ i = Instr.stuckTimerExpiry l side) := by
    have stuck : i ∈ (allLanes.map fun l => dueRow (s.tick.stuckDue l .start) (.stuckTimerExpiry l .start)
        ++ dueRow (s.tick.stuckDue l .turn) (.stuckTimerExpiry l .turn)).flatten ↔
        ∃ l side, s.tick.stuckDue l side = true ∧ i = Instr.stuckTimerExpiry l side := by
      rw [← List.flatMap_def]
      simp only [List.mem_flatMap, List.mem_append, mem_dueRow, mem_allLanes, true_and]
      refine exists_congr fun l => ⟨?_, ?_⟩
      · rintro (⟨due, rfl⟩ | ⟨due, rfl⟩)
        · exact ⟨.start, due, rfl⟩
        · exact ⟨.turn, due, rfl⟩
      · rintro ⟨side, due, rfl⟩
        cases side
        · exact .inl ⟨due, rfl⟩
        · exact .inr ⟨due, rfl⟩
    change i ∈ _ ++ _ ++ _ ↔ _
    rw [List.mem_append, List.mem_append, or_assoc]
    refine or_congr ?_ (or_congr ?_ stuck)
    · simp only [List.mem_map, List.mem_filter, mem_allLanes, true_and]
      rfl
    · simp only [List.mem_map, List.mem_filter, mem_allLanes, true_and]
      rfl
  rw [s.tick_pending empty, List.mem_append, List.mem_append, timers, or_assoc]
  refine or_congr Iff.rfl ?_
  simp only [State.dueRefresh, State.dueLink, List.mem_append, mem_dueRow, or_assoc]
  rfl

/-! #### When each row falls due -/

theorem State.tick_closeDue (l : Lane) : (s.tick.closeDue l).isSome = true ↔
    s.race = .running ∧ ∃ w, (s.context l).collecting = some w ∧ w.closeTime ≤ s.tick.clock.value := by
  unfold State.closeDue
  rw [State.tick_race, State.tick_context]
  split
  · next running => simp [running, Option.isSome_filter, Option.any_eq_true]
  · next other => simp [other]

theorem State.tick_armDue (l : Lane) : (s.tick.armDue l).isSome = true ↔
    s.race = .running ∧ ∃ e, (s.context l).expected = some e ∧ e.armed = false ∧ e.armTime ≤ s.tick.clock.value := by
  unfold State.armDue
  rw [State.tick_race, State.tick_context]
  split
  · next running => simp [running, Option.isSome_filter, Option.any_eq_true]
  · next other => simp [other]

theorem State.tick_stuckDue (l : Lane) (side : PoolEnd) : s.tick.stuckDue l side = true ↔
    (s.ports.laneEnd l side).stuck = false ∧ ∃ n, (s.ports.laneEnd l side).held = some n ∧ s.stuckLimit ≤ n + 1 := by
  have limit : s.tick.stuckLimit = s.stuckLimit := by
    unfold State.stuckLimit
    rw [State.tick_program]
  unfold State.stuckDue
  rw [State.tick_ports, Ports.tick_laneEnd, limit]
  cases held : (s.ports.laneEnd l side).held <;> simp [LaneEnd.tick, held, and_comm]

theorem State.tick_saturated : s.tick.saturated = true ↔ s.race = .running ∧ s.tick.clock.value = 35999999 := by
  simp only [State.saturated, State.tick_race, Bool.and_eq_true_iff, decide_eq_true_iff]
  rfl

theorem prestartLimitReached_iff (c : Clock) : prestartLimitReached c c.tick = true ↔
    c.phase = .prestart ∧ c.tick.value = 35999999 ∧ c.value ≠ 35999999 := by
  simp only [prestartLimitReached, Bool.and_eq_true_iff, beq_iff_eq, bne_iff_ne, Clock.tick_phase, and_assoc]
  rfl

theorem State.tick_freezeOver : s.tick.freezeOver = true ↔
    ∃ f, s.board.freeze = some f ∧ f.endMoment ≤ s.tick.clock.value := by
  obtain ⟨-, -, freeze⟩ := s.tick_keeps
  unfold State.freezeOver
  rw [freeze]
  simp [Option.any_eq_true]

theorem State.tick_rowDue : s.tick.board.rowDue = true ↔ ∃ c, s.board.clear = some c ∧ c.wait ≤ 1 := by
  rw [Board.rowDue, State.tick_clear]
  cases clear : s.board.clear with
  | none => simp
  | some c => simp [Nat.sub_eq_zero_iff_le]

theorem State.tick_gapOver : s.tick.link.rx.gapOver = true ↔ ∃ bytes gap, s.link.rx = .inFrame bytes gap ∧ 200 ≤ gap + 1 := by
  rw [State.tick_link, Link.tick_choose_rx]
  cases rx : s.link.rx <;> simp [Receiver.tick, Receiver.gapOver, Config.gapCounts]

theorem State.rowOneDue_iff (s t : State) : s.rowOneDue t = true ↔ t.clockRowDue = true ∧ s.board.sinceRow1 < 1000 := by
  simp only [State.rowOneDue, Bool.and_eq_true_iff, decide_eq_true_iff]
  rfl

/-- A free line takes the reply in the slot, or the oldest report. -/
theorem Link.tick_of_free {k : Link} (free : k.line = none) (calm : k.effectDue = false) :
    (∀ r, k.slot = .holding r →
        k.choose.tick.line = some ⟨true, r.frame, r.frame.length * 100000 - Config.baud k.speed⟩
          ∧ k.choose.tick.queue = k.queue)
      ∧ ∀ r rs, (∀ a, k.slot ≠ .holding a) → k.queue = r :: rs →
          k.choose.tick.line = some ⟨false, r.frame, r.frame.length * 100000 - Config.baud k.speed⟩
            ∧ k.choose.tick.queue = rs := by
  refine ⟨fun r holds => ?_, fun r rs none queue => ?_⟩
  · rw [Link.choose_of_reply free calm holds]
    exact ⟨rfl, rfl⟩
  · rw [Link.choose_of_report free calm none queue]
    exact ⟨rfl, rfl⟩

/-! #### The rows due at once -/

theorem State.mem_dueAtOnce (i : Instr) : i ∈ s.dueAtOnce ↔
    i ∈ s.link.dueEffect ∨ ((∃ z, s.zeroing = some z ∧ z.finished = true) ∧ i = .zeroingComplete)
      ∨ (∃ t ∈ s.takeoffs, i = .takeoff t.side t.lane) ∨ i ∈ s.dueCommand := by
  simp only [State.dueAtOnce, State.dueTakeoffs, List.mem_append, mem_dueRow, List.mem_map, or_assoc, Option.any_eq_true,
    eq_comm (a := i)]

theorem Link.mem_dueEffect {k : Link} (i : Instr) : i ∈ k.dueEffect ↔ k.effectDue = true
    ∧ ((∃ code, k.effect = some (.speed code)) ∧ i = .linkSpeedChange
      ∨ k.effect = some .reset ∧ i = .controllerResetTakesEffect) := by
  unfold Link.dueEffect
  split <;> simp_all

/-- The oldest frame waits for an empty slot and a calm link. -/
theorem State.dueCommand_of_free {f : Frame} {rest : List Frame} (inbound : s.link.inbound = f :: rest)
    (free : s.resetHeld = false) (slot : s.link.slot = .empty) (calm : s.link.effectDue = false) :
    s.dueCommand = [commandOf f] := by
  have takes : s.canTake f = true := by simp [State.canTake, free, slot, calm, inbound]
  unfold State.dueCommand
  rw [inbound]
  simp [takes, dueRow]

theorem State.dueCommand_cases : s.dueCommand = [] ∨ ∃ f rest, s.link.inbound = f :: rest ∧ s.dueCommand = [commandOf f] := by
  unfold State.dueCommand
  split
  · next f rest inbound =>
    unfold dueRow
    split
    · exact .inr ⟨f, rest, inbound, rfl⟩
    · exact .inl rfl
  · exact .inl rfl

/-- A frame is read as a console command, never as an event. -/
theorem frameOf_commandOf_ne_none (f : Frame) : frameOf (commandOf f) ≠ none := by
  have chosen {kind : Byte} {row : Option Instr} {refused : Instr} (named : ∀ i, row = some i → SpelledBy kind f.payload i)
      (left : frameOf refused ≠ none) : frameOf (row.getD refused) ≠ none := by
    cases row with
    | some i =>
      obtain ⟨-, framed⟩ := named i rfl
      exact fun none => nomatch framed.symm.trans none
    | none => exact left
  unfold commandOf
  split
  case h_14 => exact chosen (fun _ => lineSetRow_spelled) nofun
  case h_23 => exact chosen (fun _ => amendRow_spelled) nofun
  case h_34 => exact chosen (fun _ => boardModuleRow_spelled) nofun
  all_goals exact nofun

theorem State.event_not_mem_dueCommand {i : Instr} (event : frameOf i = none) : i ∉ s.dueCommand := by
  obtain none | ⟨f, _, _, waiting⟩ := s.dueCommand_cases
  · rw [none]
    exact List.not_mem_nil
  · rw [waiting, List.mem_singleton]
    rintro rfl
    exact frameOf_commandOf_ne_none f event

/-- An event is due at once with a change of the link, a zeroing or a takeoff alone. -/
theorem State.event_mem_dueAtOnce {i : Instr} (event : frameOf i = none) : i ∈ s.dueAtOnce ↔
    (s.link.effectDue = true ∧ ((∃ code, s.link.effect = some (.speed code)) ∧ i = .linkSpeedChange
      ∨ s.link.effect = some .reset ∧ i = .controllerResetTakesEffect))
      ∨ ((∃ z, s.zeroing = some z ∧ z.finished = true) ∧ i = .zeroingComplete)
      ∨ ∃ t ∈ s.takeoffs, i = .takeoff t.side t.lane := by
  rw [State.mem_dueAtOnce, Link.mem_dueEffect, or_iff_left (State.event_not_mem_dueCommand event)]

theorem State.dueCommand_of_blocked (blocked : s.link.inbound = [] ∨ s.link.slot ≠ .empty ∨ s.link.effectDue = true) :
    s.dueCommand = [] := by
  unfold State.dueCommand
  split
  · next f rest inbound =>
    have closed : s.canTake f = false := by
      obtain none | slot | due := blocked
      · exact nomatch inbound.symm.trans none
      · simp [State.canTake, slot]
      · simp [State.canTake, due]
    rw [closed]
    rfl
  · rfl

/-- Settles O2: `State.mem_tick_pending` names the rows of a count, the frames of a count what it leaves. -/
theorem idleTakesOneCount : Obligations.IdleTakesOneCount := by
  refine ⟨fun s empty free calm zeroing takeoffs blocked => ?_, fun s empty free due => ?_, fun s empty held => ?_⟩
  · have nothing : s.dueAtOnce = [] := by
      rw [State.dueAtOnce_eq_nil]
      refine ⟨List.eq_nil_iff_forall_not_mem.2 fun i hi => ?_, ?_, takeoffs, State.dueCommand_of_blocked blocked⟩
      · obtain ⟨due, ⟨⟨code, effect⟩, -⟩ | ⟨effect, -⟩⟩ := (Link.mem_dueEffect i).1 hi
        · exact calm ⟨due, by rw [effect]; exact nofun⟩
        · exact calm ⟨due, by rw [effect]; exact nofun⟩
      · cases zeroed : s.zeroing with
        | none => rfl
        | some z => exact zeroing z zeroed
    have ran : step s = .next s.tick := by
      rw [step_empty empty, State.idle, free, nothing]
      rfl
    refine ⟨s.tick, ran, ?_, ?_, ?_, ?_, s.tick_sampler, s.tick_program, s.tick_race, s.tick_source, s.tick_overrun,
      s.tick_startMark, s.tick_zeroing, s.tick_takeoffs.trans takeoffs, s.tick_lanes, s.tick_results, s.tick_log,
      s.tick_resetHeld, s.tick_board_frame, s.tick_clear, fun f => s.tick_of_chain, ?_, ?_, fun f busy => ?_, fun line due => ?_,
      fun l => ?_, fun l => ?_, fun l side => ?_, ?_, ?_, ?_, ?_, ?_, ?_, ?_, ?_⟩
    · rw [State.tick_clock, Clock.tick_phase]
    · rw [State.tick_clock, Clock.tick_value]
    · rw [State.tick_ports]
      rfl
    · intro l side
      rw [State.tick_ports, Ports.tick_laneEnd]
      rfl
    · rw [State.tick_link]
      exact Link.tick_choose_frame _
    · rw [State.tick_link, Link.tick_choose_rx]
      cases s.link.rx <;> rfl
    · rw [State.tick_link]
      exact Link.tick_of_line busy
    · rw [State.tick_link]
      exact Link.tick_of_free line due
    · rw [← State.tick_closeDue]
      simp [State.mem_tick_pending empty]
    · rw [← State.tick_armDue]
      simp [State.mem_tick_pending empty]
    · rw [← State.tick_stuckDue]
      simp [State.mem_tick_pending empty]
    · rw [← State.tick_saturated]
      simp [State.mem_tick_pending empty]
    · rw [State.tick_clock, ← prestartLimitReached_iff]
      simp [State.mem_tick_pending empty]
    · rw [← State.tick_freezeOver]
      simp [State.mem_tick_pending empty]
    · rw [← State.tick_rowDue]
      simp [State.mem_tick_pending empty]
    · simp [State.mem_tick_pending empty, Option.any_eq_true]
    · rw [← State.rowOneDue_iff]
      simp [State.mem_tick_pending empty]
    · rw [← State.tick_gapOver]
      simp [State.mem_tick_pending empty]
    · simp [State.mem_tick_pending empty, Option.any_eq_true]
  · refine ⟨s.dueAtOnce, ?_, ?_, ?_, ?_, fun side l => ?_, fun f rest inbound slot calm => ?_, fun i hi => ?_⟩
    · have some : s.dueAtOnce ≠ [] := by
        obtain ⟨due, effect⟩ | zeroed | taken | ⟨inbound, slot, calm⟩ := due
        · obtain ⟨e, named⟩ := Option.ne_none_iff_exists'.1 effect
          cases e with
          | speed code =>
            exact List.ne_nil_of_mem ((State.event_mem_dueAtOnce rfl).2 (.inl ⟨due, .inl ⟨⟨code, named⟩, rfl⟩⟩))
          | reset => exact List.ne_nil_of_mem ((State.event_mem_dueAtOnce rfl).2 (.inl ⟨due, .inr ⟨named, rfl⟩⟩))
        · exact List.ne_nil_of_mem ((State.event_mem_dueAtOnce rfl).2 (.inr (.inl ⟨zeroed, rfl⟩)))
        · obtain ⟨t, taken⟩ := List.exists_mem_of_ne_nil _ taken
          exact List.ne_nil_of_mem ((State.event_mem_dueAtOnce rfl).2 (.inr (.inr ⟨t, taken, rfl⟩)))
        · obtain ⟨f, rest, waiting⟩ := List.exists_cons_of_ne_nil inbound
          refine List.ne_nil_of_mem (a := commandOf f) ((State.mem_dueAtOnce _).2 (.inr (.inr (.inr ?_))))
          rw [State.dueCommand_of_free waiting free slot calm]
          exact List.mem_singleton_self _
      rw [step_empty empty, State.idle, free]
      simp [some]
    · simp [State.event_mem_dueAtOnce (i := .linkSpeedChange) rfl]
    · simp [State.event_mem_dueAtOnce (i := .controllerResetTakesEffect) rfl]
    · simp [State.event_mem_dueAtOnce (i := .zeroingComplete) rfl]
    · simp [State.event_mem_dueAtOnce (i := .takeoff side l) rfl, eq_comm (a := side), eq_comm (a := l)]
    · refine (State.mem_dueAtOnce _).2 (.inr (.inr (.inr ?_)))
      rw [State.dueCommand_of_free inbound free slot calm]
      exact List.mem_singleton_self _
    · obtain change | ⟨-, rfl⟩ | taken | command := (State.mem_dueAtOnce i).1 hi
      · obtain ⟨-, ⟨-, rfl⟩ | ⟨-, rfl⟩⟩ := (Link.mem_dueEffect i).1 change
        · exact .inl rfl
        · exact .inr (.inl rfl)
      · exact .inr (.inr (.inl rfl))
      · exact .inr (.inr (.inr (.inl taken)))
      · obtain none | ⟨f, rest, inbound, waiting⟩ := s.dueCommand_cases
        · rw [none] at command
          cases command
        · rw [waiting, List.mem_singleton] at command
          exact .inr (.inr (.inr (.inr ⟨f, rest, inbound, command⟩)))
  · rw [step_empty empty, State.idle, if_pos held]

end

end Sys2Proof.Machine


/-! ### Judgements stay in priority order (chapter 08, 8.1) -/

namespace Sys2Proof.Machine

/-! #### A lane's work -/

section
variable {w v u : LaneWork} {env : LaneEnv}

/-- Work on a lane keeps its judgements in order. -/
def LaneWork.KeepsOrder (w v : LaneWork) : Prop := w.ctx.JudgementsOrdered → v.ctx.JudgementsOrdered

theorem LaneWork.KeepsOrder.refl (w : LaneWork) : w.KeepsOrder w := id

theorem LaneWork.KeepsOrder.trans (h : w.KeepsOrder v) (k : v.KeepsOrder u) : w.KeepsOrder u := k ∘ h

theorem LaneWork.KeepsOrder.ite {c : Prop} [Decidable c] (h : w.KeepsOrder v) (k : w.KeepsOrder u) :
    w.KeepsOrder (if c then v else u) := by
  split
  · exact h
  · exact k

theorem LaneWork.keepsOrder_of_same (same : v.ctx.judgements = w.ctx.judgements) : w.KeepsOrder v := by
  intro ordered
  unfold LaneContext.JudgementsOrdered
  rw [same]
  exact ordered

theorem LaneWork.judge_keepsOrder (w : LaneWork) (l : Lane) (j : Judgement) : w.KeepsOrder (w.judge l j) :=
  LaneWork.judge_ordered l j

/-- Work that leaves the judgements, and then a judgement. -/
theorem LaneWork.judge_keepsOrder_of_same (same : v.ctx.judgements = w.ctx.judgements) (l : Lane) (j : Judgement) :
    w.KeepsOrder (v.judge l j) :=
  (LaneWork.keepsOrder_of_same same).trans (v.judge_keepsOrder l j)

theorem LaneWork.OnlyExpects.keepsOrder (h : w.OnlyExpects v) : w.KeepsOrder v :=
  LaneWork.keepsOrder_of_same (by rw [h])

theorem LaneWork.judgeRecord_keepsOrder (w : LaneWork) (env : LaneEnv) (r : WallRecord) :
    w.KeepsOrder (w.judgeRecord env r) := by
  have flagged : w.KeepsOrder (if r.disagree then w.judge env.lane (.padDisagree r.index) else w) :=
    .ite (w.judge_keepsOrder _ _) (.refl w)
  exact .ite (flagged.trans (LaneWork.judge_keepsOrder _ _ _)) flagged

theorem LaneWork.clearWatch_ctx (w : LaneWork) (side : PoolEnd) (leg : Nat) : (w.clearWatch side leg).ctx = w.ctx := by
  unfold LaneWork.clearWatch
  split <;> rfl

theorem LaneWork.clearWatch_judgements (w : LaneWork) (side : PoolEnd) (leg : Nat) :
    (w.clearWatch side leg).ctx.judgements = w.ctx.judgements := by
  rw [LaneWork.clearWatch_ctx]

theorem LaneWork.judgeExchange_keepsOrder (w : LaneWork) (env : LaneEnv) (k stamp official : Nat) :
    w.KeepsOrder (w.judgeExchange env k stamp official) :=
  .ite (LaneWork.judge_keepsOrder_of_same (by rfl) _ _) (LaneWork.keepsOrder_of_same (by rfl))

theorem LaneWork.settleExchange_keepsOrder (w : LaneWork) (env : LaneEnv) (index official : Nat) :
    w.KeepsOrder (w.settleExchange env index official) := by
  unfold LaneWork.settleExchange
  split
  · refine .ite (LaneWork.KeepsOrder.trans ?_ (LaneWork.judgeExchange_keepsOrder _ _ _ _ _)) (.refl w)
    exact LaneWork.keepsOrder_of_same (by rfl)
  · exact .refl w

theorem LaneWork.settleLegOne_keepsOrder (w : LaneWork) (env : LaneEnv) : w.KeepsOrder (w.settleLegOne env) :=
  .ite (LaneWork.judge_keepsOrder_of_same (by exact w.clearWatch_judgements .start 1) _ _) (.refl w)

theorem LaneWork.settleLeg_keepsOrder (w : LaneWork) (env : LaneEnv) (k : Nat) : w.KeepsOrder (w.settleLeg env k) := by
  unfold LaneWork.settleLeg
  split
  · exact LaneWork.judge_keepsOrder_of_same (by exact w.clearWatch_judgements _ k) _ _
  · exact .refl w

theorem LaneWork.settle_keepsOrder (w : LaneWork) (env : LaneEnv) (index official : Nat) :
    w.KeepsOrder (w.settle env index official) := by
  refine (w.settleExchange_keepsOrder env index official).trans (.ite (LaneWork.settleLegOne_keepsOrder _ _) ?_)
  split
  · exact LaneWork.settleLeg_keepsOrder _ _ _
  · exact .refl _

theorem LaneWork.settleOpen_keepsOrder (w : LaneWork) (env : LaneEnv) : w.KeepsOrder (w.settleOpen env) := by
  have legs (ks : List Nat) (v : LaneWork) : v.KeepsOrder (ks.foldl (fun v k => v.settleLeg env k) v) := by
    induction ks generalizing v with
    | nil => exact .refl v
    | cons k ks ih => exact (v.settleLeg_keepsOrder env k).trans (ih _)
  have started (v : LaneWork) : v.KeepsOrder (if v.watch.start = some 1 ∧ v.ctx.reaction = none then
      v.judge env.lane (.unjudged 1) else v) := .ite (v.judge_keepsOrder _ _) (.refl v)
  exact ((legs _ w).trans (started _)).trans (LaneWork.keepsOrder_of_same (by rfl))

theorem LaneWork.setFinal_keepsOrder (w : LaneWork) (env : LaneEnv) (time : Nat) (confirmed : Bool) (status : LaneStatus) :
    w.KeepsOrder (w.setFinal env time confirmed status) := LaneWork.keepsOrder_of_same (by rfl)

theorem LaneWork.advance_keepsOrder (w : LaneWork) (env : LaneEnv) (r : WallRecord) : w.KeepsOrder (w.advance env r) :=
  .ite (w.setFinal_keepsOrder env r.official true .finished) (w.armNext_frame env _ _).keepsOrder

theorem LaneWork.resolveAtClose_keepsOrder (w : LaneWork) (env : LaneEnv) (wall : CollectingWall) :
    w.KeepsOrder (w.resolveAtClose env wall) := by
  unfold LaneWork.resolveAtClose
  dsimp only
  refine LaneWork.KeepsOrder.trans ?_ (LaneWork.settle_keepsOrder _ _ _ _)
  refine LaneWork.KeepsOrder.trans ?_ (LaneWork.advance_keepsOrder _ _ _)
  exact LaneWork.KeepsOrder.trans (LaneWork.keepsOrder_of_same (by rfl)) (LaneWork.judgeRecord_keepsOrder _ _ _)

theorem LaneWork.resolveByClose_keepsOrder (w : LaneWork) (env : LaneEnv) (wall : CollectingWall) :
    w.KeepsOrder (w.resolveByClose env wall) := by
  have judged : w.KeepsOrder (((w.on fun c => { c with collecting := none }).addRecord env .close
      (recordOfWall env.program wall)).judgeRecord env (recordOfWall env.program wall)) :=
    LaneWork.KeepsOrder.trans (LaneWork.keepsOrder_of_same (by rfl)) (LaneWork.judgeRecord_keepsOrder _ _ _)
  exact LaneWork.KeepsOrder.trans (.ite (judged.trans (LaneWork.setFinal_keepsOrder _ _ _ _ _)) judged)
    (LaneWork.settle_keepsOrder _ _ _ _)

theorem LaneWork.resolveByAmend_keepsOrder (w : LaneWork) (env : LaneEnv) (status : LaneStatus) (wall : CollectingWall) :
    w.KeepsOrder (w.resolveByAmend env status wall) := by
  have judged : w.KeepsOrder (((w.on fun c => { c with collecting := none }).addRecord env .amend
      (recordOfWall env.program wall)).judgeRecord env (recordOfWall env.program wall)) :=
    LaneWork.KeepsOrder.trans (LaneWork.keepsOrder_of_same (by rfl)) (LaneWork.judgeRecord_keepsOrder _ _ _)
  exact LaneWork.KeepsOrder.trans (.ite (judged.trans (LaneWork.setFinal_keepsOrder _ _ _ _ _)) judged)
    (LaneWork.settleExchange_keepsOrder _ _ _ _)

theorem LaneWork.watchUnarmed_ctx (w : LaneWork) (env : LaneEnv) (index : Nat) (expected : Option ExpectedWall) :
    (w.watchUnarmed env index expected).ctx = w.ctx := by
  unfold LaneWork.watchUnarmed
  split
  · split <;> rfl
  · rfl

theorem LaneWork.resolveByHand_keepsOrder (w : LaneWork) (env : LaneEnv) (index time : Nat) :
    w.KeepsOrder (w.resolveByHand env index time) := by
  unfold LaneWork.resolveByHand
  dsimp only
  refine LaneWork.KeepsOrder.trans ?_ (LaneWork.settle_keepsOrder _ _ _ _)
  refine LaneWork.KeepsOrder.trans ?_ (LaneWork.keepsOrder_of_same (congrArg LaneContext.judgements (LaneWork.watchUnarmed_ctx ..)))
  exact LaneWork.KeepsOrder.trans (LaneWork.judge_keepsOrder_of_same (by rfl) _ _) (LaneWork.advance_keepsOrder _ _ _)

theorem LaneWork.afterTouch_keepsOrder (w : LaneWork) (env : LaneEnv) (index stamp : Nat) (confirmed : Bool) :
    w.KeepsOrder (w.afterTouch env index stamp confirmed) :=
  .ite (w.setFinal_keepsOrder env stamp confirmed .finished) (w.expect_frame env _ _).keepsOrder

theorem LaneWork.touch_keepsOrder (w : LaneWork) (env : LaneEnv) (e : ExpectedWall) (stamp : Nat) :
    w.KeepsOrder (w.touch env e stamp) := by
  refine .ite (LaneWork.KeepsOrder.trans ?_ (LaneWork.afterTouch_keepsOrder _ _ _ _ _))
    (LaneWork.KeepsOrder.trans (LaneWork.KeepsOrder.trans ?_ (LaneWork.afterTouch_keepsOrder _ _ _ _ _))
      (LaneWork.settle_keepsOrder _ _ _ _))
  · exact LaneWork.keepsOrder_of_same (by rfl)
  · exact LaneWork.keepsOrder_of_same (by rfl)

theorem LaneWork.fillPad_keepsOrder (w : LaneWork) (env : LaneEnv) (wall : CollectingWall) (stamp : Nat) :
    w.KeepsOrder (w.fillPad env wall stamp) :=
  LaneWork.KeepsOrder.trans (LaneWork.keepsOrder_of_same (by rfl)) (LaneWork.afterTouch_keepsOrder _ _ _ _ _)

theorem LaneWork.react_keepsOrder (w : LaneWork) (env : LaneEnv) (reaction : Int) : w.KeepsOrder (w.react env reaction) :=
  .ite (LaneWork.judge_keepsOrder_of_same (by rfl) _ _)
    (.ite (LaneWork.judge_keepsOrder_of_same (by rfl) _ _) (LaneWork.keepsOrder_of_same (by rfl)))

theorem LaneWork.startSignal_keepsOrder (w : LaneWork) (env : LaneEnv) (mark : Nat) (source : StartSource) :
    w.KeepsOrder (w.startSignal env mark source) := by
  have swimming : w.KeepsOrder ((w.on fun c => { c with status := .swimming, source := some source }).expect env 1
      env.program.armDelay) :=
    LaneWork.KeepsOrder.trans (LaneWork.keepsOrder_of_same (by rfl)) (LaneWork.expect_frame _ _ _ _).keepsOrder
  unfold LaneWork.startSignal
  dsimp only
  split
  · exact (swimming.trans (LaneWork.keepsOrder_of_same (by rfl))).trans (LaneWork.react_keepsOrder _ _ _)
  · exact swimming

theorem LaneWork.close_keepsOrder (w : LaneWork) (env : LaneEnv) : w.KeepsOrder (w.close env) := by
  unfold LaneWork.close
  dsimp only
  split
  · exact (w.resolveByClose_keepsOrder env _).trans (LaneWork.settleOpen_keepsOrder _ _)
  · exact w.settleOpen_keepsOrder env

theorem LaneContext.closeStatus_judgements (c : LaneContext) : c.closeStatus.judgements = c.judgements := by
  unfold LaneContext.closeStatus
  split <;> rfl

theorem LaneWork.strike_keepsOrder (w : LaneWork) (env : LaneEnv) (status : LaneStatus) :
    w.KeepsOrder (w.strike env status) := by
  refine .ite ?_ (LaneWork.keepsOrder_of_same (by rfl))
  unfold LaneWork.takeOut
  dsimp only
  split
  · next wall _ =>
    have resolved : w.KeepsOrder ((w.on fun c => { c with expected := none }).resolveByAmend env status wall) :=
      LaneWork.KeepsOrder.trans (LaneWork.keepsOrder_of_same (by rfl)) (LaneWork.resolveByAmend_keepsOrder _ _ _ _)
    exact resolved.trans (LaneWork.keepsOrder_of_same (by rfl))
  · exact LaneWork.keepsOrder_of_same (by rfl)

theorem LaneWork.restore_keepsOrder (w : LaneWork) (env : LaneEnv) : w.KeepsOrder (w.restore env) := by
  unfold LaneWork.restore
  split
  · exact LaneWork.keepsOrder_of_same (by rfl)
  · refine .ite (LaneWork.KeepsOrder.trans ?_ (LaneWork.expect_frame _ _ _ _).keepsOrder) (LaneWork.keepsOrder_of_same (by rfl))
    exact LaneWork.keepsOrder_of_same (by rfl)

end

/-! #### The lanes of the race -/

section
variable {s t u : State}

/-- Every lane whose judgements stood in order has them in order afterwards. -/
def State.KeepsOrder (s t : State) : Prop := ∀ l, (s.context l).JudgementsOrdered → (t.context l).JudgementsOrdered

theorem State.KeepsOrder.refl (s : State) : s.KeepsOrder s := fun _ => id

theorem State.KeepsOrder.trans (h : s.KeepsOrder t) (k : t.KeepsOrder u) : s.KeepsOrder u := fun l => k l ∘ h l

theorem State.KeepsOrder.ite {c : Prop} [Decidable c] (h : s.KeepsOrder t) (k : s.KeepsOrder u) :
    s.KeepsOrder (if c then t else u) := by
  split
  · exact h
  · exact k

theorem State.KeepsOrder.foldl {α : Type} (f : State → α → State) (hf : ∀ (s : State) (a : α), s.KeepsOrder (f s a))
    (xs : List α) (s : State) : s.KeepsOrder (xs.foldl f s) := by
  induction xs generalizing s with
  | nil => exact .refl s
  | cons a xs ih => exact (hf s a).trans (ih (f s a))

theorem State.keepsOrder_of_lanes (lanes : t.lanes = s.lanes) : s.KeepsOrder t := by
  intro l ordered
  rw [State.context, lanes]
  exact ordered

theorem State.answer_keepsOrder (s : State) (kind : Byte) (code : ResultCode) (data : List Byte) :
    s.KeepsOrder (s.answer kind code data) := State.keepsOrder_of_lanes rfl

theorem State.KeepsOrder.answer (h : s.KeepsOrder t) (kind : Byte) (code : ResultCode) (data : List Byte) :
    s.KeepsOrder (t.answer kind code data) := h.trans (t.answer_keepsOrder kind code data)

theorem State.OnlyRanking.keepsOrder (h : s.OnlyRanking t) : s.KeepsOrder t := State.keepsOrder_of_lanes h.lanes

theorem State.OnlyReports.keepsOrder (h : s.OnlyReports t) : s.KeepsOrder t := h.toOnlyRanking.keepsOrder

theorem State.logEntry_keepsOrder (s : State) (stamp : Stamp) (source : LogSource) (wall : Option Nat) (d : Disposition) :
    s.KeepsOrder (s.logEntry stamp source wall d) := by
  rw [State.logEntry_frame]
  exact State.keepsOrder_of_lanes rfl

theorem State.setLane_keepsOrder (s : State) {l : Lane} {c : LaneContext} (same : c.judgements = (s.context l).judgements) :
    s.KeepsOrder (s.setLane l c) := by
  intro m ordered
  by_cases here : m = l
  · subst here
    rw [State.context_setLane_same]
    unfold LaneContext.JudgementsOrdered
    rw [same]
    exact ordered
  · rw [State.context_setLane_other _ _ (Ne.symm here)]
    exact ordered

theorem State.commit_keepsOrder (s : State) {l : Lane} {w : LaneWork} (kept : (s.laneWork l).KeepsOrder w) :
    s.KeepsOrder (s.commit l w) := by
  intro m ordered
  by_cases here : m = l
  · subst here
    rw [State.commit_context_same]
    exact kept ordered
  · rw [State.commit_context_other _ _ here]
    exact ordered

theorem State.laneEvent_keepsOrder (s : State) {l : Lane} {w : LaneWork} (kept : (s.laneWork l).KeepsOrder w) :
    s.KeepsOrder (s.laneEvent l w) := by
  intro m ordered
  by_cases here : m = l
  · subst here
    rw [State.laneEvent_context_same]
    exact kept ordered
  · rw [State.laneEvent_context_other _ _ here]
    exact ordered

theorem State.raiseStuck_keepsOrder (s : State) (l : Lane) (side : PoolEnd) : s.KeepsOrder (s.raiseStuck l side) := by
  have raised : s.KeepsOrder
      ((s.setLaneEnd l side { s.ports.laneEnd l side with stuck := true }).report (.fault (.padStuck l side) true)) :=
    State.keepsOrder_of_lanes rfl
  exact .ite (raised.trans (State.commit_keepsOrder _ (LaneWork.judge_keepsOrder _ _ _))) raised

theorem State.raiseStuckIfDue_keepsOrder (s : State) (l : Lane) (side : PoolEnd) :
    s.KeepsOrder (s.raiseStuckIfDue l side) :=
  .ite (s.raiseStuck_keepsOrder l side) (.refl s)

theorem State.raiseAllStuck_keepsOrder (s : State) : s.KeepsOrder s.raiseAllStuck :=
  .foldl _ (fun t l => (t.raiseStuckIfDue_keepsOrder l .start).trans (State.raiseStuckIfDue_keepsOrder _ l .turn)) allLanes s

/-- An event of a lane after a log entry and a report works on the lane as it stood. -/
theorem State.notedEvent_keepsOrder {l : Lane} {w : LaneWork} (before : s.KeepsOrder t)
    (same : t.context l = s.context l) (kept : (s.laneWork l).KeepsOrder w) : s.KeepsOrder (t.laneEvent l w) := by
  refine before.trans (State.laneEvent_keepsOrder t fun ordered => kept ?_)
  change (s.context l).JudgementsOrdered
  rw [← same]
  exact ordered

theorem State.notedCommit_keepsOrder {l : Lane} {w : LaneWork} (before : s.KeepsOrder t)
    (same : t.context l = s.context l) (kept : (s.laneWork l).KeepsOrder w) : s.KeepsOrder (t.commit l w) := by
  refine before.trans (State.commit_keepsOrder t fun ordered => kept ?_)
  change (s.context l).JudgementsOrdered
  rw [← same]
  exact ordered

theorem State.padEvent_keepsOrder (s : State) (l : Lane) (side : PoolEnd) (stamp : Stamp) :
    s.KeepsOrder (s.padEvent l side stamp) := by
  have noted (p : Program) (wall v : Nat) (use : TouchUse) {w : LaneWork} (kept : (s.laneWork l).KeepsOrder w) :
      s.KeepsOrder (((s.logEntry stamp (.pad l side) (some wall) .accepted).touchNote p l side wall v use).laneEvent l w) :=
    State.notedEvent_keepsOrder ((s.logEntry_keepsOrder _ _ _ _).trans (State.touchNote_frame _ _ _ _ _ _ _).keepsOrder)
      (State.logEntry_context _ _ _ _ _ l) kept
  unfold State.padEvent
  split
  · exact s.logEntry_keepsOrder _ _ _ _
  · exact noted _ _ _ _ (LaneWork.fillPad_keepsOrder _ _ _ _)
  · exact noted _ _ _ _ (LaneWork.touch_keepsOrder _ _ _ _)
  · exact s.logEntry_keepsOrder _ _ _ _

theorem State.buttonEvent_keepsOrder (s : State) (l : Lane) (side : PoolEnd) (b : Fin 3) (stamp : Stamp) :
    s.KeepsOrder (s.buttonEvent l side b stamp) := by
  unfold State.buttonEvent
  split
  · exact s.logEntry_keepsOrder _ _ _ _
  · exact (s.logEntry_keepsOrder _ _ _ _).trans (State.setLane_keepsOrder _ (by rw [State.logEntry_context]; rfl))
  · exact (s.logEntry_keepsOrder _ _ _ _).trans (State.setLane_keepsOrder _ (by rw [State.logEntry_context]; rfl))
  · exact s.logEntry_keepsOrder _ _ _ _

theorem State.takeoffEvent_keepsOrder (s : State) (t : Takeoff) : s.KeepsOrder (s.takeoffEvent t) := by
  unfold State.takeoffEvent
  dsimp only
  split
  · exact s.logEntry_keepsOrder _ _ _ _
  · exact (s.logEntry_keepsOrder _ _ _ _).trans (State.setLane_keepsOrder _ (by rw [State.logEntry_context]))
  · exact State.notedCommit_keepsOrder (s.logEntry_keepsOrder _ _ _ _) (State.logEntry_context _ _ _ _ _ _)
      (LaneWork.react_keepsOrder _ _ _)
  · exact State.notedCommit_keepsOrder (s.logEntry_keepsOrder _ _ _ _) (State.logEntry_context _ _ _ _ _ _)
      (LaneWork.KeepsOrder.trans (LaneWork.keepsOrder_of_same (by rfl)) (LaneWork.judgeExchange_keepsOrder _ _ _ _ _))
  · exact (s.logEntry_keepsOrder _ _ _ _).trans (State.setLane_keepsOrder _ (by rw [State.logEntry_context]))
  · exact s.logEntry_keepsOrder _ _ _ _

theorem State.amending_keepsOrder (s : State) (lane : Byte) {act : Program → Lane → State}
    (keeps : ∀ p l, s.KeepsOrder (act p l)) : s.KeepsOrder (s.amending lane act) := by
  have refused (code : ResultCode) : s.KeepsOrder (s.refuseAmend code) := State.keepsOrder_of_lanes rfl
  unfold State.amending
  refine .ite ?_ (refused _)
  split
  · split
    · exact .ite (keeps _ _) (refused _)
    · exact refused _
  · exact refused _

theorem State.amendedEvent_keepsOrder (s : State) {l : Lane} (code : Option Nat) {w : LaneWork} (action : Byte)
    (more : List Byte) (kept : (s.laneWork l).KeepsOrder w) :
    s.KeepsOrder (((s.setAmendment l code).laneEvent l w).amended l action more) :=
  State.notedEvent_keepsOrder (t := s.setAmendment l code) (State.keepsOrder_of_lanes rfl) rfl kept

theorem State.disqualify_keepsOrder (lane code : Byte) (s : State) : s.KeepsOrder (s.disqualify lane code) :=
  s.amending_keepsOrder lane fun _ _ =>
    .ite (State.keepsOrder_of_lanes rfl) (s.amendedEvent_keepsOrder _ _ _ (LaneWork.strike_keepsOrder _ _ _))

theorem State.didNotStart_keepsOrder (lane : Byte) (s : State) : s.KeepsOrder (s.didNotStart lane) :=
  s.amending_keepsOrder lane fun _ _ => s.amendedEvent_keepsOrder _ _ _ (LaneWork.strike_keepsOrder _ _ _)

theorem State.restore_keepsOrder (lane : Byte) (s : State) : s.KeepsOrder (s.restore lane) :=
  s.amending_keepsOrder lane fun _ _ =>
    .ite (s.amendedEvent_keepsOrder _ _ _ (LaneWork.restore_keepsOrder _ _)) (State.keepsOrder_of_lanes rfl)

theorem State.timeWall_keepsOrder (lane : Byte) (time : Nat) (s : State) : s.KeepsOrder (s.timeWall lane time) := by
  refine s.amending_keepsOrder lane fun p l => .ite (State.keepsOrder_of_lanes rfl) ?_
  split
  · exact State.keepsOrder_of_lanes rfl
  · exact .ite (s.amendedEvent_keepsOrder _ _ _ (LaneWork.resolveByHand_keepsOrder _ _ _ _)) (State.keepsOrder_of_lanes rfl)

theorem State.amendAny_keepsOrder (payload : Payload) (s : State) : s.KeepsOrder (s.amendAny payload) := by
  unfold State.amendAny
  split
  · exact s.disqualify_keepsOrder _ _
  · exact s.didNotStart_keepsOrder _
  · exact s.restore_keepsOrder _
  · exact s.timeWall_keepsOrder _ _
  · exact .ite (State.keepsOrder_of_lanes rfl) (State.keepsOrder_of_lanes rfl)

theorem State.boardLayout_keepsOrder (payload : Payload) (s : State) : s.KeepsOrder (s.boardLayout payload) := by
  unfold State.boardLayout
  split
  · next y _ =>
    refine State.KeepsOrder.trans ?_ (State.keepsOrder_of_lanes rfl)
    rw [(s.setLayout_setsLayout y).only]
    exact State.keepsOrder_of_lanes rfl
  · exact State.keepsOrder_of_lanes rfl

/-- Empty contexts hold no judgement. -/
theorem State.discardRace_keepsOrder (s : State) (race : RaceState) : s.KeepsOrder (s.discardRace race) := by
  obtain ⟨contexts, -⟩ := s.discardRace_ranking race
  intro l _
  rw [contexts]
  unfold emptyContext
  split <;> exact .nil

theorem State.takenOff_keepsOrder (s : State) (race previous : RaceState) (cause : RaceCause) (event clock : Nat) :
    s.KeepsOrder ((s.discardRace race).clearOverrun.raiseAllStuck.raceNote previous cause event clock) := by
  have calm (t : State) : t.KeepsOrder t.clearOverrun := .ite (State.keepsOrder_of_lanes rfl) (.refl t)
  exact (((s.discardRace_keepsOrder race).trans (calm _)).trans (State.raiseAllStuck_keepsOrder _)).trans
    (State.raceNote_frame _ _ _ _ _).keepsOrder

theorem State.enter_keepsOrder (s : State) (race : RaceState) (clock : Clock) : s.KeepsOrder (s.enter race clock) :=
  State.keepsOrder_of_lanes (s.enter_lanes race clock)

theorem State.startRace_keepsOrder (s : State) (mark first : Nat) (source : StartSource) (cause : RaceCause) :
    s.KeepsOrder (s.startRace mark first source cause) := by
  have lane (p : Program) (t : State) (l : Lane) : t.KeepsOrder (State.startLane p mark source t l) :=
    .ite (t.commit_keepsOrder (LaneWork.startSignal_keepsOrder _ _ _ _)) (.refl t)
  unfold State.startRace
  dsimp only
  generalize begun : State.onBoard _ _ = b
  have begins : s.KeepsOrder b := by
    subst begun
    exact State.keepsOrder_of_lanes rfl
  have noted : s.KeepsOrder ((b.enter .running ⟨.running, first⟩).raceNote .armed cause s.eventId mark) :=
    (begins.trans (b.enter_keepsOrder _ _)).trans (State.raceNote_frame _ _ _ _ _).keepsOrder
  split
  · exact noted.trans (.foldl _ (lane _) allLanes _)
  · exact noted

theorem State.closeRace_keepsOrder (s : State) (cause : RaceCause) : s.KeepsOrder (s.closeRace cause) := by
  have lane (p : Program) (t : State) (l : Lane) : t.KeepsOrder (State.closeLane p t l) :=
    .ite (t.commit_keepsOrder (LaneWork.close_keepsOrder _ _)) (.refl t)
  have status (p : Program) (t : State) (l : Lane) : t.KeepsOrder (State.closeLaneStatus p t l) :=
    .ite (t.commit_keepsOrder (LaneWork.keepsOrder_of_same (LaneContext.closeStatus_judgements _))) (.refl t)
  have closed (t : State) (clock : Clock) (event value : Nat) :
      t.KeepsOrder ((t.rerank.enter .complete clock).raceNote .running cause event value) :=
    (t.rerank_frame.keepsOrder.trans (State.enter_keepsOrder _ _ _)).trans (State.raceNote_frame _ _ _ _ _).keepsOrder
  unfold State.closeRace
  dsimp only
  split
  · next p _ =>
    have ended (t : State) : t.KeepsOrder t.endWatches := State.keepsOrder_of_lanes t.endWatches_lanes
    exact (((State.KeepsOrder.foldl _ (lane p) allLanes s).trans (ended _)).trans (.foldl _ (status p) allLanes _)).trans
      (closed _ _ _ _)
  · exact closed s _ _ _

theorem State.arm_keepsOrder (s : State) : s.KeepsOrder s.arm := by
  rw [State.arm_frame]
  exact State.keepsOrder_of_lanes (s.enter_lanes .armed ⟨.prestart, 0⟩)

theorem State.recognisePress_keepsOrder (s : State) (line : Line) (stamp : Stamp) :
    s.KeepsOrder (s.recognisePress line stamp) := by
  have ported (f : Ports → Ports) : s.KeepsOrder (s.onPorts f) := State.keepsOrder_of_lanes rfl
  cases line with
  | pad l side =>
    have held := ported fun p => p.setLaneEnd l side { s.ports.laneEnd l side with pad := .pressed, held := some 1 }
    exact .ite (held.trans (State.padEvent_keepsOrder _ _ _ _)) held
  | button l side b =>
    have pressed := ported fun p => p.setLine (.button l side b) .pressed
    exact .ite (pressed.trans (State.buttonEvent_keepsOrder _ _ _ _ _)) pressed
  | startLine =>
    refine (ported fun p => p.setLine .startLine .pressed).trans ?_
    change State.KeepsOrder _ (State.startEdgeEvent _ stamp)
    unfold State.startEdgeEvent
    split
    · exact (State.logEntry_keepsOrder _ _ _ _ _).trans (State.startRace_keepsOrder _ _ _ _ _)
    · exact State.logEntry_keepsOrder _ _ _ _ _

theorem State.secondPress_keepsOrder (s : State) (line : Line) : s.KeepsOrder (s.secondPress line) := by
  unfold State.secondPress
  split
  · exact s.recognisePress_keepsOrder line _
  · exact .refl s

theorem State.sample_keepsOrder (s : State) (line : Line) (closed : Bool) : s.KeepsOrder (s.sample line closed) := by
  unfold State.sample
  split
  case h_3 => exact s.recognisePress_keepsOrder line _
  case h_8 =>
    cases line with
    | pad l side => exact .ite (State.keepsOrder_of_lanes rfl) (State.keepsOrder_of_lanes rfl)
    | button l side b => exact State.keepsOrder_of_lanes rfl
    | startLine => exact State.keepsOrder_of_lanes rfl
  all_goals exact State.keepsOrder_of_lanes rfl

theorem State.saturate_keepsOrder (s : State) : s.KeepsOrder s.saturate := by
  have faulted : s.KeepsOrder (({ s with overrun := true } : State).report (.fault .clockOverrun true)) :=
    State.keepsOrder_of_lanes rfl
  exact faulted.trans (State.closeRace_keepsOrder _ _)

theorem State.deliverTakeoff_keepsOrder (side : PoolEnd) (l : Lane) (s : State) : s.KeepsOrder (s.deliverTakeoff side l) := by
  unfold State.deliverTakeoff
  split
  · next k _ =>
    have landed : s.KeepsOrder { s with takeoffs := s.takeoffs.erase k } := State.keepsOrder_of_lanes rfl
    exact landed.trans (State.takeoffEvent_keepsOrder _ k)
  · exact .refl s

theorem State.expireArm_keepsOrder (s : State) (l : Lane) : s.KeepsOrder (s.expireArm l) := by
  unfold State.expireArm
  split
  · exact s.commit_keepsOrder (LaneWork.placeExpected_frame _ _ _).keepsOrder
  · exact .refl s

theorem State.expireClose_keepsOrder (s : State) (l : Lane) : s.KeepsOrder (s.expireClose l) := by
  unfold State.expireClose
  split
  · exact s.laneEvent_keepsOrder (LaneWork.resolveAtClose_keepsOrder _ _ _)
  · exact .refl s

theorem State.endFreeze_keepsOrder (s : State) : s.KeepsOrder s.endFreeze := by
  obtain ⟨_, h⟩ | ⟨_, h⟩ := s.endFreeze_cases <;> rw [h]
  · exact State.keepsOrder_of_lanes rfl
  · exact .refl s

theorem State.storeProgram_keepsOrder (p : Program) (s : State) : s.KeepsOrder (s.storeProgram p) := by
  have set : s.KeepsOrder { s with program := some p } := State.keepsOrder_of_lanes rfl
  exact set.trans (State.takenOff_keepsOrder _ _ _ _ _ _)

theorem State.removeProgram_keepsOrder (s : State) : s.KeepsOrder s.removeProgram := by
  have set : s.KeepsOrder { s with program := none } := State.keepsOrder_of_lanes rfl
  exact set.trans (State.takenOff_keepsOrder _ _ _ _ _ _)

theorem State.programLoad_keepsOrder (payload : Payload) (s : State) : s.KeepsOrder (s.programLoad payload) := by
  refine .ite (s.answer_keepsOrder _ _ _) ?_
  split
  · exact s.answer_keepsOrder _ _ _
  · exact (s.storeProgram_keepsOrder _).answer _ _ _

theorem State.raceClear_keepsOrder (s : State) : s.KeepsOrder s.raceClear :=
  .ite (s.answer_keepsOrder _ _ _) (.ite (s.answer_keepsOrder _ _ _) (s.removeProgram_keepsOrder.answer _ _ _))

theorem State.release_keepsOrder (s : State) : s.KeepsOrder s.release :=
  (s.enter_keepsOrder _ _).trans (State.raceNote_frame _ _ _ _ _).keepsOrder

theorem State.recall_keepsOrder (s : State) : s.KeepsOrder s.recall :=
  (s.discardRace_keepsOrder _).trans (State.raceNote_frame _ _ _ _ _).keepsOrder

theorem raceWork_keepsOrder (i : Instr) (s : State) : s.KeepsOrder (raceWork i s) := by
  cases i with
  | programLoad payload => exact s.programLoad_keepsOrder payload
  | raceArm _ => exact .ite (.ite (s.arm_keepsOrder.answer _ _ _) (s.answer_keepsOrder _ _ _)) (s.answer_keepsOrder _ _ _)
  | startManual _ => exact .ite (State.KeepsOrder.answer (s.startRace_keepsOrder _ _ _ _) _ _ _) (s.answer_keepsOrder _ _ _)
  | raceRecall _ => exact .ite (State.KeepsOrder.answer s.recall_keepsOrder _ _ _) (s.answer_keepsOrder _ _ _)
  | raceClose _ => exact .ite (State.KeepsOrder.answer (s.closeRace_keepsOrder _) _ _ _) (s.answer_keepsOrder _ _ _)
  | resultsRelease _ => exact .ite (State.KeepsOrder.answer s.release_keepsOrder _ _ _) (s.answer_keepsOrder _ _ _)
  | raceClear _ => exact s.raceClear_keepsOrder
  | clockSaturation => exact .ite s.saturate_keepsOrder (.refl s)
  | padPress _ _ | buttonPress _ _ _ | startLineEdge => exact s.secondPress_keepsOrder _
  | contactLineSample line closed => exact s.sample_keepsOrder line closed
  | amendDisqualify lane code _ => exact s.disqualify_keepsOrder lane code
  | amendDidNotStart lane _ _ => exact s.didNotStart_keepsOrder lane
  | amendRestore lane _ _ => exact s.restore_keepsOrder lane
  | amendTimeWall lane _ time => exact s.timeWall_keepsOrder lane time.toNat
  | amend payload => exact s.amendAny_keepsOrder payload
  | boardLayout payload => exact s.boardLayout_keepsOrder payload
  | stuckTimerExpiry l side => exact s.raiseStuckIfDue_keepsOrder l side
  | takeoff side l => exact s.deliverTakeoff_keepsOrder side l
  | armTimerExpiry l => exact s.expireArm_keepsOrder l
  | closeTimerExpiry l => exact s.expireClose_keepsOrder l
  | freezeEnd => exact .ite s.endFreeze_keepsOrder (.refl s)
  | _ => exact .refl s

theorem State.afterReset_judgementsOrdered (s : State) : s.afterReset.JudgementsOrdered := by
  intro l
  rw [show s.afterReset.context l = LaneContext.reset from Vector.getElem_replicate _]
  exact .nil

theorem exec_judgementsOrdered {i : Instr} {s t : State} (h : s.JudgementsOrdered) (ran : exec i s = .next t) :
    t.JudgementsOrdered := by
  by_cases row : changesRace i = true
  · by_cases reset : isReset i = true
    · obtain rfl | rfl | rfl | rfl := exec_reset ran reset
      · exact h
      · exact s.afterReset_judgementsOrdered
      · exact s.afterReset_judgementsOrdered
      · exact s.afterReset_judgementsOrdered
    · obtain ⟨f, _, rfl | rfl⟩ := exec_raceWork ran row (Bool.eq_false_iff.2 reset)
      · exact h
      · exact fun l => raceWork_keepsOrder i (s.onLink f) l (h l)
  · exact fun l => State.keepsOrder_of_lanes (exec_aside ran (Bool.eq_false_iff.2 row)).lanes l (h l)

theorem step_judgementsOrdered {s t : State} (h : s.JudgementsOrdered) (ran : step s = .next t) : t.JudgementsOrdered := by
  obtain ⟨_, rfl⟩ | ⟨i, rest, _, ran⟩ := step_cases ran
  · obtain ⟨_, idle⟩ | ⟨_, _, idle⟩ | ⟨_, _, idle⟩ := s.idle_cases <;> rw [idle]
    · exact h
    · exact h
    · exact fun l => State.keepsOrder_of_lanes s.tick_lanes l (h l)
  · exact exec_judgementsOrdered (s := { s with pending := rest }) h ran

end

end Sys2Proof.Machine


/-! ### The walls of one lane (chapters 05, 06) -/

namespace Sys2Proof.Machine

/-! #### What the walls rest on -/

/-- The walls of a lane fit program, race state and clock. -/
def LaneContext.WallsFit (p : Program) (race : RaceState) (now : Nat) (l : Lane) (c : LaneContext) : Prop :=
  c.ResolvedFit p now ∧ c.CollectingFits p race now l ∧ c.ExpectedFits p race now l

/-- Two contexts with the same status, walls and final time. -/
structure LaneContext.SameWalls (c d : LaneContext) : Prop where
  status : d.status = c.status
  expected : d.expected = c.expected
  collecting : d.collecting = c.collecting
  resolved : d.resolved = c.resolved
  final : d.final = c.final

section
variable {p : Program} {race : RaceState} {now : Nat} {l : Lane} {c d e : LaneContext}

theorem LaneContext.SameWalls.refl (c : LaneContext) : c.SameWalls c := ⟨rfl, rfl, rfl, rfl, rfl⟩

theorem LaneContext.SameWalls.trans (h : c.SameWalls d) (k : d.SameWalls e) : c.SameWalls e :=
  ⟨k.status.trans h.status, k.expected.trans h.expected, k.collecting.trans h.collecting, k.resolved.trans h.resolved,
    k.final.trans h.final⟩

theorem LaneContext.lastTime_congr (resolved : d.resolved = c.resolved) : d.lastTime = c.lastTime := by
  rw [LaneContext.lastTime, LaneContext.lastTime, resolved]

theorem LaneContext.SameWalls.wallsFit (h : c.SameWalls d) (fits : c.WallsFit p race now l) : d.WallsFit p race now l := by
  simpa only [LaneContext.WallsFit, LaneContext.ResolvedFit, LaneContext.CollectingFits, LaneContext.ExpectedFits, h.status,
    h.expected, h.collecting, h.resolved, h.final, LaneContext.lastTime_congr h.resolved] using fits

theorem LaneContext.SameWalls.resolvedFit (h : c.SameWalls d) (fits : c.ResolvedFit p now) : d.ResolvedFit p now := by
  simpa only [LaneContext.ResolvedFit, h.status, h.collecting, h.resolved, h.final] using fits

theorem LaneContext.SameWalls.bare (h : c.SameWalls d) (bare : c.Bare) : d.Bare := by
  simpa only [LaneContext.Bare, h.status, h.expected, h.collecting, h.resolved, h.final] using bare

theorem LaneWork.OnlySettles.sameWalls {w v : LaneWork} (h : w.OnlySettles v) : w.ctx.SameWalls v.ctx := by
  rw [h]
  exact ⟨rfl, rfl, rfl, rfl, rfl⟩

theorem LaneWork.OnlyJudges.sameWalls {w v : LaneWork} (h : w.OnlyJudges v) : w.ctx.SameWalls v.ctx :=
  h.toOnlySettles.sameWalls

/-! #### Resolved walls -/

/-- No wall was resolved later than the last one. -/
theorem LaneContext.official_le_lastTime (rising : c.resolved.Pairwise fun a b => a.official < b.official) {r : WallRecord}
    (among : r ∈ c.resolved) : r.official ≤ c.lastTime := by
  obtain none | ⟨front, last, walls⟩ := List.eq_nil_or_concat c.resolved
  · rw [none] at among
    cases among
  · rw [List.concat_eq_append] at walls
    have time : c.lastTime = last.official := by simp [LaneContext.lastTime, walls]
    rw [walls, List.pairwise_append] at rising
    obtain ⟨-, -, before⟩ := rising
    rw [walls, List.mem_append, List.mem_singleton] at among
    rw [time]
    obtain early | rfl := among
    · exact (before r early last (List.mem_singleton_self _)).le
    · exact le_rfl

theorem LaneContext.lastTime_append {r : WallRecord} (resolved : d.resolved = c.resolved ++ [r]) : d.lastTime = r.official := by
  simp [LaneContext.lastTime, resolved]

/-- A lane that has not reached the length count, and does not collect the final wall, has no final time. -/
theorem LaneContext.ResolvedFit.final_none (h : c.ResolvedFit p now) (early : c.resolved.length ≠ p.lengths)
    (other : ∀ w, c.collecting = some w → w.index ≠ p.lengths) : c.final = none := by
  obtain ⟨-, -, -, reached, open', -⟩ := h
  cases final : c.final with
  | none => rfl
  | some f =>
    cases confirmed : f.confirmed with
    | true => exact absurd (reached.2 ⟨f, final, confirmed⟩) early
    | false =>
      obtain ⟨w, collecting, index⟩ := open' f final confirmed
      exact absurd index (other w collecting)

/-- The next wall is resolved: the final wall with a confirmed final, any other without one. -/
theorem LaneContext.ResolvedFit.append (h : c.ResolvedFit p now) {r : WallRecord} (index : r.index = c.resolved.length + 1)
    (side : r.side = wallEnd r.index) (room : r.index ≤ p.lengths) (later : c.lastTime < r.official) (past : r.official ≤ now)
    (resolved : d.resolved = c.resolved ++ [r])
    (final : if r.index = p.lengths then ∃ time, d.final = some ⟨time, true⟩ else d.final = none)
    (status : d.status = .finished → d.final ≠ none) : d.ResolvedFit p now := by
  obtain ⟨walls, rising, -, -, -, -⟩ := h
  have length : d.resolved.length = r.index := by rw [resolved, List.length_append, index]; rfl
  refine ⟨fun i q found => ?_, ?_, by rw [length]; exact room, ?_, fun f found open' => ?_, status⟩
  · rw [resolved] at found
    obtain early | rfl | beyond := Nat.lt_trichotomy i c.resolved.length
    · rw [List.getElem?_append_left early] at found
      exact walls i q found
    · rw [List.getElem?_concat_length, Option.some.injEq] at found
      subst found
      exact ⟨index, by rw [side, index], Nat.zero_lt_of_lt later, past⟩
    · rw [List.getElem?_append_right beyond.le, List.getElem?_eq_none (by simp; omega)] at found
      cases found
  · rw [resolved, List.pairwise_append]
    refine ⟨rising, List.pairwise_singleton _ _, fun a ha b hb => ?_⟩
    obtain rfl := List.mem_singleton.1 hb
    exact Nat.lt_of_le_of_lt (LaneContext.official_le_lastTime rising ha) later
  · rw [length]
    split at final
    next last =>
      obtain ⟨time, final⟩ := final
      exact iff_of_true last ⟨_, final, rfl⟩
    next other => exact iff_of_false other fun ⟨f, found, _⟩ => nomatch final.symm.trans found
  · split at final
    next last =>
      obtain ⟨time, final⟩ := final
      cases final.symm.trans found
      cases open'
    next other => exact nomatch final.symm.trans found

/-- Neither a collecting nor an expected wall: the walls fit in any race state. -/
theorem LaneContext.ResolvedFit.alone (h : c.ResolvedFit p now) (collecting : c.collecting = none)
    (expected : c.expected = none) : c.WallsFit p race now l :=
  ⟨h, fun _ some => (nomatch collecting.symm.trans some), fun _ some => (nomatch expected.symm.trans some)⟩

/-! #### Collecting walls -/

/-- The settings of a collecting wall, named. -/
structure CollectingWall.Fits (p : Program) (now : Nat) (c : LaneContext) (w : CollectingWall) : Prop where
  index : w.index = c.resolved.length + 1
  side : w.side = wallEnd w.index
  station : p.station = some w.side
  room : w.index ≤ p.lengths
  given : w.pad ≠ none ∨ w.presses ≠ []
  pad : ∀ v, w.pad = some v → c.lastTime < v ∧ v < now ∧ w.closeTime ≤ v + p.window
  presses : ∀ q ∈ w.presses, c.lastTime < q.stamp ∧ q.stamp < now
  few : w.presses.length ≤ 3
  buttons : (w.presses.map Press.button).Nodup
  ahead : now ≤ w.closeTime
  near : w.closeTime < now + p.window

theorem LaneContext.CollectingFits.wall (h : c.CollectingFits p race now l) {w : CollectingWall}
    (collecting : c.collecting = some w) : race = .running ∧ p.inRace l = true
      ∧ (c.status = .swimming ∨ c.status = .finished) ∧ w.Fits p now c := by
  obtain ⟨running, inRace, status, index, side, station, room, given, pad, presses, few, buttons, ahead, near⟩ := h w collecting
  exact ⟨running, inRace, status, ⟨index, side, station, room, given, pad, presses, few, buttons, ahead, near⟩⟩

theorem CollectingWall.Fits.collectingFits {w : CollectingWall} (h : w.Fits p now d) (collecting : d.collecting = some w)
    (inRace : p.inRace l = true) (status : d.status = .swimming ∨ d.status = .finished) :
    d.CollectingFits p .running now l := by
  intro v some
  cases collecting.symm.trans some
  exact ⟨rfl, inRace, status, h.index, h.side, h.station, h.room, h.given, h.pad, h.presses, h.few, h.buttons, h.ahead, h.near⟩

/-- A press or a pad time of a collecting wall comes after the last official time, and the clock after it. -/
theorem CollectingWall.Fits.lastTime_lt {w : CollectingWall} (h : w.Fits p now c) {v : Nat} (timely : now = v + 1) :
    c.lastTime < v := by
  obtain pad | presses := h.given
  · obtain ⟨t, given⟩ := Option.ne_none_iff_exists'.1 pad
    obtain ⟨after, before, -⟩ := h.pad t given
    omega
  · obtain ⟨q, among⟩ := List.exists_mem_of_ne_nil _ presses
    obtain ⟨after, before⟩ := h.presses q among
    omega

/-- The backup reference lies between its presses (R97). -/
theorem backupReference_between {low high : Nat} {presses : List Press}
    (between : ∀ q ∈ presses, low < q.stamp ∧ q.stamp < high) {t : Nat} (ref : backupReference presses = some t) :
    low < t ∧ t < high := by
  unfold backupReference at ref
  split at ref
  · cases ref
  · cases ref
    exact between _ (List.mem_singleton_self _)
  · next a b =>
    cases ref
    have first := between a (by simp)
    have second := between b (by simp)
    omega
  · next a b c _ =>
    cases ref
    have first := between a (by simp)
    have second := between b (by simp)
    have third := between c (by simp)
    unfold medianOf
    omega

theorem backupReference_isSome {presses : List Press} (given : presses ≠ []) : ∃ t, backupReference presses = some t := by
  unfold backupReference
  split
  · exact absurd rfl given
  · exact ⟨_, rfl⟩
  · exact ⟨_, rfl⟩
  · exact ⟨_, rfl⟩

theorem recordOfWall_index (p : Program) (w : CollectingWall) : (recordOfWall p w).index = w.index := by
  unfold recordOfWall
  dsimp only
  split
  · split <;> rfl
  · rfl

theorem recordOfWall_side (p : Program) (w : CollectingWall) : (recordOfWall p w).side = w.side := by
  unfold recordOfWall
  dsimp only
  split
  · split <;> rfl
  · rfl

/-- The official time of a resolution lies among the times of its wall (R99). -/
theorem CollectingWall.Fits.official {w : CollectingWall} (h : w.Fits p now c) :
    c.lastTime < (recordOfWall p w).official ∧ (recordOfWall p w).official < now := by
  have reference {t : Nat} (ref : backupReference w.presses = some t) := backupReference_between h.presses ref
  unfold recordOfWall
  dsimp only
  split
  · next pad given =>
    obtain ⟨after, before, -⟩ := h.pad pad given
    split
    · cases ref : backupReference w.presses with
      | none => exact ⟨after, before⟩
      | some t => exact reference ref
    · exact ⟨after, before⟩
  · next absent =>
    obtain ⟨t, ref⟩ := backupReference_isSome (h.given.resolve_left (not_not_intro absent))
    rw [ref]
    exact reference ref

/-- A collecting wall that is not the final wall belongs to a SWIMMING lane without a final time. -/
theorem LaneContext.WallsFit.swimming (h : c.WallsFit p race now l) {w : CollectingWall} (collecting : c.collecting = some w)
    (other : w.index ≠ p.lengths) : c.status = .swimming ∧ c.final = none := by
  obtain ⟨resolved, collects, -⟩ := h
  obtain ⟨-, -, status, fits⟩ := collects.wall collecting
  have early : c.resolved.length ≠ p.lengths := by
    have := fits.index
    have := fits.room
    omega
  have none : c.final = none := resolved.final_none early fun v same => by
    cases collecting.symm.trans same
    exact other
  obtain ⟨-, -, -, -, -, finished⟩ := resolved
  exact ⟨status.resolve_right fun f => finished f none, none⟩

end

end Sys2Proof.Machine


/-! ### The walls of a lane under the Lane Engine's work (chapters 05, 06) -/

namespace Sys2Proof.Machine

section
variable {env : LaneEnv} {race : RaceState} {w J : LaneWork} {c d : LaneContext}

/-- The walls of a lane fit what the Lane Engine looks at. -/
def LaneEnv.Fits (env : LaneEnv) (race : RaceState) (c : LaneContext) : Prop :=
  c.WallsFit env.program race env.now env.lane

/-! #### Expected walls -/

theorem LaneWork.placeExpected_ctx (w : LaneWork) (env : LaneEnv) (e : ExpectedWall) : (w.placeExpected env e).ctx =
    { w.ctx with expected := some ({ e with
      armed := decide (e.armTime ≤ env.now), everArmed := e.everArmed || decide (e.armTime ≤ env.now) }) } := by
  have frame := w.placeExpected_frame env e
  rw [← w.placeExpected_expected env e, frame]

/-- An expected wall is placed in a SWIMMING lane of the race: the wall after the collecting one, else after the last. -/
theorem LaneWork.placeExpected_fits {e : ExpectedWall} (resolved : w.ctx.ResolvedFit env.program env.now)
    (collects : w.ctx.CollectingFits env.program .running env.now env.lane) (inRace : env.program.inRace env.lane = true)
    (swimming : w.ctx.status = .swimming) (side : e.side = wallEnd e.index) (room : e.index ≤ env.program.lengths)
    (alone : w.ctx.collecting = none →
      e.index = w.ctx.resolved.length + 1 ∧ e.armTime = w.ctx.lastTime + env.program.armDelay)
    (after : ∀ v, w.ctx.collecting = some v → e.index = v.index + 1 ∧ ∃ t, v.pad = some t ∧ e.armTime = t + env.program.armDelay) :
    env.Fits .running (w.placeExpected env e).ctx := by
  rw [LaneEnv.Fits, LaneWork.placeExpected_ctx]
  refine ⟨resolved, collects, fun x found => ?_⟩
  cases found
  exact ⟨rfl, inRace, swimming, side, room, of_decide_eq_true, alone, after⟩

/-- The wall after the collecting one. -/
theorem LaneContext.WallsFit.expected_after {p : Program} {now : Nat} {l : Lane} (h : c.WallsFit p race now l)
    {v : CollectingWall} (collecting : c.collecting = some v) {e : ExpectedWall} (expected : c.expected = some e) :
    race = .running ∧ e.index = v.index + 1 ∧ e.side = wallEnd e.index ∧ e.index ≤ p.lengths := by
  obtain ⟨-, -, expects⟩ := h
  obtain ⟨running, -, -, side, room, -, -, after⟩ := expects e expected
  exact ⟨running, (after v collecting).1, side, room⟩

/-- No wall is expected while a wall without a pad time is collecting. -/
theorem LaneContext.WallsFit.expected_none {p : Program} {now : Nat} {l : Lane} (h : c.WallsFit p race now l)
    {v : CollectingWall} (collecting : c.collecting = some v) (untouched : v.pad = none) : c.expected = none := by
  cases expected : c.expected with
  | none => rfl
  | some e =>
    obtain ⟨-, -, expects⟩ := h
    obtain ⟨-, -, -, -, -, -, -, after⟩ := expects e expected
    obtain ⟨-, t, given, -⟩ := after v collecting
    exact nomatch untouched.symm.trans given

/-- No wall is collecting or expected in a race that is not running, nor in a lane that is out. -/
theorem LaneContext.WallsFit.nothing_open {p : Program} {now : Nat} {l : Lane} (h : c.WallsFit p race now l)
    (ended : race ≠ .running ∨ c.status.isOut = true) : c.collecting = none ∧ c.expected = none := by
  obtain ⟨-, collects, expects⟩ := h
  constructor
  · cases collecting : c.collecting with
    | none => rfl
    | some v =>
      obtain ⟨running, -, status, -⟩ := collects.wall collecting
      obtain other | out := ended
      · exact absurd running other
      · obtain status | status := status <;> rw [status] at out <;> cases out
  · cases expected : c.expected with
    | none => rfl
    | some e =>
      obtain ⟨running, -, status, -⟩ := expects e expected
      obtain other | out := ended
      · exact absurd running other
      · rw [status] at out
        cases out

/-- The walls of a lane whose status alone has changed. -/
theorem LaneContext.ResolvedFit.of_status {p : Program} {now : Nat} (h : c.ResolvedFit p now)
    (resolved : d.resolved = c.resolved) (final : d.final = c.final) (collecting : d.collecting = c.collecting)
    (status : d.status = .finished → d.final ≠ none) : d.ResolvedFit p now := by
  obtain ⟨walls, rising, room, reached, open', -⟩ := h
  unfold LaneContext.ResolvedFit
  rw [resolved, final, collecting]
  exact ⟨walls, rising, room, reached, open', by rw [← final]; exact status⟩

/-- The arm timer of the expected wall. -/
theorem LaneWork.arm_fits {e : ExpectedWall} (h : env.Fits race w.ctx) (expected : w.ctx.expected = some e) :
    env.Fits race (w.arm env e).ctx := by
  obtain ⟨resolved, collects, expects⟩ := h
  obtain ⟨rfl, inRace, swimming, side, room, -, alone, after⟩ := expects e expected
  exact LaneWork.placeExpected_fits resolved collects inRace swimming side room alone after

/-! #### A resolved wall -/

/-- The work on a lane whose next wall has just been resolved by record r: nothing collects, and a wall that is still
expected is the one after r. -/
structure LaneWork.Resolves (env : LaneEnv) (race : RaceState) (c : LaneContext) (r : WallRecord) (J : LaneWork) : Prop where
  before : env.Fits race c
  running : env.running = true ↔ race = .running
  inRace : env.program.inRace env.lane = true
  index : r.index = c.resolved.length + 1
  side : r.side = wallEnd r.index
  room : r.index ≤ env.program.lengths
  later : c.lastTime < r.official
  past : r.official ≤ env.now
  open' : r.index ≠ env.program.lengths → c.final = none ∧ (race = .running → c.status = .swimming)
  resolved : J.ctx.resolved = c.resolved ++ [r]
  collecting : J.ctx.collecting = none
  status : J.ctx.status = c.status
  final : J.ctx.final = c.final
  expected : ∀ e, J.ctx.expected = some e →
    race = .running ∧ e.index = r.index + 1 ∧ e.side = wallEnd e.index ∧ e.index ≤ env.program.lengths

theorem Program.isFinal_iff {p : Program} {n : Nat} : p.isFinal n = true ↔ n = p.lengths := decide_eq_true_iff

theorem LaneWork.Resolves.expected_none {r : WallRecord} (h : J.Resolves env race c r) (last : r.index = env.program.lengths) :
    J.ctx.expected = none := by
  cases expected : J.ctx.expected with
  | none => rfl
  | some e =>
    obtain ⟨-, index, -, room⟩ := h.expected e expected
    omega

/-- The walls after the final wall has been resolved, whatever the status. -/
theorem LaneWork.Resolves.last_fits {r : WallRecord} (h : J.Resolves env race c r) (last : r.index = env.program.lengths)
    {status : LaneStatus} {time : Nat} :
    ({ J.ctx with final := some ⟨time, true⟩, status } : LaneContext).ResolvedFit env.program env.now := by
  obtain ⟨resolved, -⟩ := h.before
  refine resolved.append h.index h.side h.room h.later h.past h.resolved ?_ nofun
  rw [if_pos last]
  exact ⟨time, rfl⟩

/-- The walls after any other wall has been resolved. -/
theorem LaneWork.Resolves.next_fits {r : WallRecord} (h : J.Resolves env race c r) (other : r.index ≠ env.program.lengths) :
    J.ctx.ResolvedFit env.program env.now := by
  obtain ⟨resolved, -⟩ := h.before
  obtain ⟨none, -⟩ := h.open' other
  refine resolved.append h.index h.side h.room h.later h.past h.resolved ?_ fun f => ?_
  · rw [if_neg other, h.final, none]
  · obtain ⟨-, -, -, -, -, finished⟩ := resolved
    rw [h.status] at f
    exact absurd none (finished f)

theorem LaneWork.advance_fits {r : WallRecord} (h : J.Resolves env race c r) : env.Fits race (J.advance env r).ctx := by
  unfold LaneWork.advance
  split
  next last =>
    have last := Program.isFinal_iff.1 last
    exact (h.last_fits last).alone h.collecting (h.expected_none last)
  next other =>
    have other : r.index ≠ env.program.lengths := fun last => other (Program.isFinal_iff.2 last)
    have next := h.next_fits other
    have collects (v : RaceState) : J.ctx.CollectingFits env.program v env.now env.lane :=
      fun v found => nomatch h.collecting.symm.trans found
    have after (v : CollectingWall) : J.ctx.collecting ≠ some v := by rw [h.collecting]; exact nofun
    have length : J.ctx.resolved.length = r.index := by rw [h.resolved, List.length_append, h.index]; rfl
    have time : J.ctx.lastTime = r.official := LaneContext.lastTime_append h.resolved
    unfold LaneWork.armNext
    split
    next goes =>
      have running := h.running.1 goes.1
      subst running
      have swimming : J.ctx.status = .swimming := h.status.trans ((h.open' other).2 rfl)
      dsimp only
      split
      next e expected =>
        obtain ⟨-, index, side, room⟩ := h.expected e expected
        exact LaneWork.placeExpected_fits next (collects _) h.inRace swimming side room
          (fun _ => ⟨by rw [length]; exact index, by rw [time]⟩) fun v found => absurd found (after v)
      next =>
        have room := h.room
        exact LaneWork.placeExpected_fits next (collects _) h.inRace swimming rfl (by change r.index + 1 ≤ _; omega)
          (fun _ => ⟨by rw [length], by rw [time]⟩) fun v found => absurd found (after v)
    next stays =>
      refine next.alone h.collecting ?_
      cases expected : J.ctx.expected with
      | none => rfl
      | some e =>
        obtain ⟨running, -⟩ := h.expected e expected
        exact absurd ⟨h.running.2 running, by simp [Program.isFinal, other]⟩ stays

/-- A collecting wall of the lane is resolved by R99, its record added. -/
theorem LaneWork.resolves_collecting (h : env.Fits race w.ctx) (running : env.running = true ↔ race = .running)
    {v : CollectingWall} (collecting : w.ctx.collecting = some v) {expected : Option ExpectedWall}
    (kept : ∀ e, expected = some e → w.ctx.expected = some e)
    (same : LaneContext.SameWalls { w.ctx with
      expected, collecting := none, resolved := w.ctx.resolved ++ [recordOfWall env.program v] } J.ctx) :
    J.Resolves env race w.ctx (recordOfWall env.program v) := by
  have fit := h
  obtain ⟨-, collects, -⟩ := h
  obtain ⟨-, inRace, -, fits⟩ := collects.wall collecting
  obtain ⟨later, past⟩ := fits.official
  have index := recordOfWall_index env.program v
  exact {
    before := fit
    running := running
    inRace := inRace
    index := index.trans fits.index
    side := by rw [recordOfWall_side, index, fits.side]
    room := by rw [index]; exact fits.room
    later := later
    past := past.le
    open' := fun other => by
      rw [index] at other
      obtain ⟨swimming, none⟩ := fit.swimming collecting other
      exact ⟨none, fun _ => swimming⟩
    resolved := same.resolved
    collecting := same.collecting
    status := same.status
    final := same.final
    expected := fun e expected => by
      rw [index]
      exact fit.expected_after collecting (kept e (same.expected.symm.trans expected)) }

/-- The record of a wall joins, and its judgements. -/
theorem LaneWork.recorded_sameWalls (w : LaneWork) (env : LaneEnv) (cause : WallCause) (r : WallRecord) :
    LaneContext.SameWalls { w.ctx with collecting := none, resolved := w.ctx.resolved ++ [r] }
      (((w.on fun c => { c with collecting := none }).addRecord env cause r).judgeRecord env r).ctx :=
  (LaneWork.judgeRecord_frame ((w.on fun c => { c with collecting := none }).addRecord env cause r) env r).sameWalls

theorem LaneWork.resolveAtClose_fits (h : env.Fits race w.ctx) (running : env.running = true ↔ race = .running)
    {v : CollectingWall} (collecting : w.ctx.collecting = some v) : env.Fits race (w.resolveAtClose env v).ctx := by
  have resolves := LaneWork.resolves_collecting h running collecting (fun _ => id) (w.recorded_sameWalls env .closeTimer _)
  exact (LaneWork.settle_frame _ env _ _).sameWalls.wallsFit (LaneWork.advance_fits resolves)

/-- A hand time resolves the earliest unresolved wall (R106, R107). -/
theorem LaneWork.resolveByHand_fits {index time : Nat} (h : env.Fits race w.ctx)
    (running : env.running = true ↔ race = .running) (inRace : env.program.inRace env.lane = true)
    (earliest : w.ctx.earliestUnresolved env.program env.running = some index)
    (later : w.ctx.lastTime < time) (past : time ≤ env.now) : env.Fits race (w.resolveByHand env index time).ctx := by
  have fit := h
  obtain ⟨resolved, collects, expects⟩ := h
  have taken : LaneWork.Resolves env race w.ctx (handRecord index time w.ctx.collecting)
      (((w.on fun c => { c with
          collecting := none, expected := if w.ctx.collecting.isSome then c.expected else none }).addRecord env .hand
        (handRecord index time w.ctx.collecting)).judge env.lane (.handTimed index)) := by
    have same := (LaneWork.judge_frame ((w.on fun c => { c with
          collecting := none, expected := if w.ctx.collecting.isSome then c.expected else none }).addRecord env .hand
        (handRecord index time w.ctx.collecting)) env.lane (.handTimed index)).sameWalls
    generalize LaneWork.judge env.lane (.handTimed index) _ = K at same ⊢
    have next : index = w.ctx.resolved.length + 1 ∧ index ≤ env.program.lengths
        ∧ (index ≠ env.program.lengths → w.ctx.final = none ∧ (race = .running → w.ctx.status = .swimming)) := by
      unfold LaneContext.earliestUnresolved at earliest
      cases collecting : w.ctx.collecting with
      | some v =>
        obtain ⟨rfl, -, -, fits⟩ := collects.wall collecting
        rw [if_pos (running.2 rfl), collecting] at earliest
        cases earliest
        refine ⟨fits.index, fits.room, fun other => ?_⟩
        obtain ⟨swimming, none⟩ := fit.swimming collecting other
        exact ⟨none, fun _ => swimming⟩
      | none =>
        split at earliest
        next goes =>
          rw [collecting] at earliest
          cases expected : w.ctx.expected with
          | none => rw [expected] at earliest; cases earliest
          | some e =>
            rw [expected] at earliest
            cases earliest
            obtain ⟨-, -, swimming, -, room, -, alone, -⟩ := expects e expected
            obtain ⟨at', -⟩ := alone collecting
            refine ⟨at', room, fun other => ⟨?_, fun _ => swimming⟩⟩
            exact resolved.final_none (by omega) fun v found => nomatch collecting.symm.trans found
        next ended =>
          split at earliest
          next early =>
            cases earliest
            refine ⟨rfl, early, fun other => ⟨?_, fun goes => absurd (running.2 goes) ended⟩⟩
            exact resolved.final_none (by omega) fun v found => nomatch collecting.symm.trans found
          next => cases earliest
    obtain ⟨at', room, open'⟩ := next
    exact {
      before := fit
      running := running
      inRace := inRace
      index := at'
      side := rfl
      room := room
      later := later
      past := past
      open' := open'
      resolved := same.resolved
      collecting := same.collecting
      status := same.status
      final := same.final
      expected := fun e expected => by
        have expected := same.expected.symm.trans expected
        change (if w.ctx.collecting.isSome = true then w.ctx.expected else none) = some e at expected
        cases collecting : w.ctx.collecting with
        | none =>
          rw [collecting] at expected
          cases expected
        | some v =>
          rw [collecting, Option.isSome_some, if_pos rfl] at expected
          obtain ⟨rfl, -, -, fits⟩ := collects.wall collecting
          obtain ⟨goes, after, side, room⟩ := fit.expected_after collecting expected
          refine ⟨goes, ?_, side, room⟩
          rw [after, fits.index, ← at']
          rfl }
  have advanced := LaneWork.advance_fits taken
  unfold LaneWork.resolveByHand
  dsimp only
  refine (LaneWork.settle_frame _ env _ _).sameWalls.wallsFit ?_
  rw [LaneWork.watchUnarmed_ctx]
  exact advanced

/-! #### Touches and presses -/

/-- An armed expected wall that a press in this count finds open: nothing collects, and the press comes after its arm time. -/
theorem LaneContext.WallsFit.touchable {p : Program} {now : Nat} {l : Lane} (h : c.WallsFit p race now l) (fits : p.Fits)
    {e : ExpectedWall} (expected : c.expected = some e) {stamp : Nat} (timely : now = stamp + 1) (later : e.armTime < stamp) :
    c.collecting = none := by
  cases collecting : c.collecting with
  | none => rfl
  | some v =>
    obtain ⟨-, collects, expects⟩ := h
    obtain ⟨-, -, -, -, -, -, -, after⟩ := expects e expected
    obtain ⟨-, t, given, armTime⟩ := after v collecting
    obtain ⟨-, -, -, wall⟩ := collects.wall collecting
    obtain ⟨-, -, close⟩ := wall.pad t given
    obtain ⟨-, -, -, window⟩ := fits
    have delay := window (by rw [wall.station]; exact nofun)
    have ahead := wall.ahead
    omega

/-- A final wall that begins to collect with a pad time: FINISHED, not confirmed. -/
theorem LaneContext.ResolvedFit.touched {p : Program} {now : Nat} (h : c.ResolvedFit p now)
    (early : c.resolved.length ≠ p.lengths) (resolved : d.resolved = c.resolved) {v : CollectingWall} (collecting : d.collecting = some v) (last : v.index = p.lengths)
    {time : Nat} (final : d.final = some ⟨time, false⟩) : d.ResolvedFit p now := by
  obtain ⟨walls, rising, room, -, -, -⟩ := h
  unfold LaneContext.ResolvedFit
  rw [resolved, final, collecting]
  refine ⟨walls, rising, room, ?_, fun f _ _ => ⟨v, rfl, last⟩, nofun⟩
  refine iff_of_false early ?_
  rintro ⟨f, found, confirmed⟩
  cases found
  cases confirmed

/-- A collecting wall with a pad time just taken, then the next wall or the final. -/
theorem LaneWork.afterTouch_collecting_fits {stamp : Nat} (h : c.ResolvedFit env.program env.now)
    (open' : c.resolved.length + 1 ≠ env.program.lengths → c.final = none ∧ c.status = .swimming)
    (inRace : env.program.inRace env.lane = true) {v : CollectingWall} (wall : v.Fits env.program env.now c)
    (pad : v.pad = some stamp) (resolved : w.ctx.resolved = c.resolved) (collecting : w.ctx.collecting = some v)
    (status : w.ctx.status = c.status) (final : w.ctx.final = c.final) (expected : w.ctx.expected = none) :
    env.Fits .running (w.afterTouch env v.index stamp false).ctx := by
  have time : w.ctx.lastTime = c.lastTime := LaneContext.lastTime_congr resolved
  have index := wall.index
  have room := wall.room
  have fits : v.Fits env.program env.now w.ctx := by
    obtain ⟨index, side, station, room, given, pads, presses, few, buttons, ahead, near⟩ := wall
    exact ⟨by rw [resolved]; exact index, side, station, room, given, by rw [time]; exact pads, by rw [time]; exact presses,
      few, buttons, ahead, near⟩
  unfold LaneWork.afterTouch
  split
  next last =>
    refine ⟨h.touched (d := (w.setFinal env stamp false .finished).ctx) (by omega) resolved collecting
      (Program.isFinal_iff.1 last) rfl, ?_, fun e found => nomatch expected.symm.trans found⟩
    exact CollectingWall.Fits.collectingFits (d := (w.setFinal env stamp false .finished).ctx) ⟨fits.index, fits.side,
      fits.station, fits.room, fits.given, fits.pad, fits.presses, fits.few, fits.buttons, fits.ahead, fits.near⟩ collecting
      inRace (.inr rfl)
  next other =>
    have other : v.index ≠ env.program.lengths := fun last => other (Program.isFinal_iff.2 last)
    obtain ⟨none, swimming⟩ := open' (by rw [← index]; exact other)
    have swims : w.ctx.status = .swimming := status.trans swimming
    refine LaneWork.placeExpected_fits ?_ (fits.collectingFits collecting inRace (.inl swims)) inRace swims rfl
      (by change v.index + 1 ≤ _; omega) (fun free => nomatch free.symm.trans collecting) fun u found => ?_
    · obtain ⟨walls, rising, bound, reached, -, finished⟩ := h
      unfold LaneContext.ResolvedFit
      rw [resolved, final, status]
      exact ⟨walls, rising, bound, reached, fun f found => (nomatch none.symm.trans found), finished⟩
    · cases collecting.symm.trans found
      exact ⟨rfl, stamp, pad, rfl⟩

/-- With no wall expected, a touch that resolves its wall goes on as any resolution does. -/
theorem LaneWork.afterTouch_eq_advance {r : WallRecord} (running : env.running = true) (expected : J.ctx.expected = none) :
    J.afterTouch env r.index r.official true = J.advance env r := by
  unfold LaneWork.afterTouch LaneWork.advance LaneWork.armNext
  split
  · rfl
  · next other =>
    rw [if_pos ⟨running, by simpa using other⟩, expected]

/-- A touch of the expected wall (R79 to R81). -/
theorem LaneWork.touch_fits {e : ExpectedWall} {stamp : Nat} (h : env.Fits .running w.ctx) (fits : env.program.Fits)
    (running : env.running = true) (expected : w.ctx.expected = some e) (timely : env.now = stamp + 1)
    (later : e.armTime < stamp) : env.Fits .running (w.touch env e stamp).ctx := by
  have free := h.touchable fits expected timely later
  have fit := h
  obtain ⟨resolved, -, expects⟩ := h
  obtain ⟨-, inRace, swimming, side, room, -, alone, -⟩ := expects e expected
  obtain ⟨index, armTime⟩ := alone free
  have none : w.ctx.final = none :=
    resolved.final_none (by omega) fun v found => nomatch free.symm.trans found
  have after : w.ctx.lastTime < stamp := by omega
  unfold LaneWork.touch
  dsimp only
  split
  next station =>
    have station : env.program.station = some e.side := by rw [side]; exact of_decide_eq_true station
    obtain ⟨-, window, -, -⟩ := fits
    have wall : CollectingWall.Fits env.program env.now w.ctx ⟨e.index, e.side, some stamp, [], stamp + env.program.window⟩ := {
      index := index
      side := side
      station := station
      room := room
      given := .inl nofun
      pad := fun v found => by
        cases found
        exact ⟨after, by omega, le_rfl⟩
      presses := nofun
      few := Nat.zero_le _
      buttons := .nil
      ahead := by change env.now ≤ stamp + _; omega
      near := by change stamp + _ < _; omega }
    exact LaneWork.afterTouch_collecting_fits resolved (fun _ => ⟨none, swimming⟩) inRace wall rfl rfl rfl rfl rfl rfl
  next =>
    refine (LaneWork.settle_frame _ env _ _).sameWalls.wallsFit ?_
    have taken : LaneWork.Resolves env .running w.ctx ⟨e.index, e.side, stamp, .pad, some stamp, Option.none, 0, false⟩
        ((w.on fun c => { c with expected := Option.none }).addRecord env .touch
          ⟨e.index, e.side, stamp, .pad, some stamp, Option.none, 0, false⟩) := {
      before := fit
      running := iff_of_true running rfl
      inRace := inRace
      index := index
      side := side
      room := room
      later := after
      past := by change stamp ≤ _; omega
      open' := fun _ => ⟨none, fun _ => swimming⟩
      resolved := rfl
      collecting := free
      status := rfl
      final := rfl
      expected := nofun }
    have advanced := LaneWork.advance_fits taken
    rw [← LaneWork.afterTouch_eq_advance running rfl] at advanced
    exact advanced

/-- A pad time for a collecting wall without one (R82). -/
theorem LaneWork.fillPad_fits {v : CollectingWall} {stamp : Nat} (h : env.Fits .running w.ctx)
    (collecting : w.ctx.collecting = some v) (untouched : v.pad = none) (timely : env.now = stamp + 1) :
    env.Fits .running (w.fillPad env v stamp).ctx := by
  have fit := h
  obtain ⟨resolved, collects, -⟩ := h
  obtain ⟨-, inRace, status, wall⟩ := collects.wall collecting
  have near := wall.near
  have filled : CollectingWall.Fits env.program env.now w.ctx { v with pad := some stamp } := {
    wall with
    given := .inl nofun
    pad := fun t found => by
      cases found
      exact ⟨wall.lastTime_lt timely, by omega, by change v.closeTime ≤ _; omega⟩ }
  refine LaneWork.afterTouch_collecting_fits (v := { v with pad := some stamp }) resolved (fun other => ?_) inRace filled rfl rfl rfl rfl rfl
    (fit.expected_none collecting untouched)
  obtain ⟨swimming, none⟩ := fit.swimming collecting (by rw [wall.index]; exact other)
  exact ⟨none, swimming⟩

/-- A press that joins the collecting wall (R94). -/
theorem LaneContext.WallsFit.joinPress {p : Program} {now : Nat} {l : Lane} (h : c.WallsFit p race now l)
    {v : CollectingWall} (collecting : c.collecting = some v) {b : Fin 3} (fresh : ∀ q ∈ v.presses, q.button ≠ b) {stamp : Nat}
    (timely : now = stamp + 1) : (c.joinPress v b stamp).WallsFit p race now l := by
  obtain ⟨resolved, collects, expects⟩ := h
  obtain ⟨rfl, inRace, status, wall⟩ := collects.wall collecting
  have buttons : ((v.presses ++ [(⟨b, stamp⟩ : Press)]).map Press.button).Nodup := by
    rw [List.map_append, List.nodup_append]
    refine ⟨wall.buttons, List.nodup_singleton _, fun x old y new => ?_⟩
    obtain ⟨q, among, rfl⟩ := List.mem_map.1 old
    obtain rfl := List.mem_singleton.1 new
    exact fresh q among
  have joined : CollectingWall.Fits p now c { v with presses := v.presses ++ [⟨b, stamp⟩] } := {
    wall with
    given := .inr (by simp)
    presses := fun q among => by
      obtain old | new := List.mem_append.1 among
      · exact wall.presses q old
      · obtain rfl := List.mem_singleton.1 new
        exact ⟨wall.lastTime_lt timely, by change stamp < now; omega⟩
    few := by
      have bound := buttons.length_le_card
      rwa [List.length_map, Fintype.card_fin] at bound
    buttons := buttons }
  refine ⟨?_, CollectingWall.Fits.collectingFits (d := c.joinPress v b stamp) ⟨joined.index, joined.side, joined.station,
    joined.room, joined.given, joined.pad, joined.presses, joined.few, joined.buttons, joined.ahead, joined.near⟩ rfl inRace status,
    fun e expected => ?_⟩
  · obtain ⟨walls, rising, room, reached, open', finished⟩ := resolved
    refine ⟨walls, rising, room, reached, fun f final confirmed => ?_, finished⟩
    obtain ⟨u, found, last⟩ := open' f final confirmed
    cases collecting.symm.trans found
    exact ⟨_, rfl, last⟩
  · obtain ⟨running, inRace, swimming, side, room, armed, -, after⟩ := expects e expected
    refine ⟨running, inRace, swimming, side, room, armed, nofun, fun u found => ?_⟩
    cases found
    exact after v collecting

/-- A press that opens the expected wall (R94). -/
theorem LaneContext.WallsFit.openByPress {p : Program} {now : Nat} {l : Lane} (h : c.WallsFit p race now l) (fits : p.Fits)
    {e : ExpectedWall} (free : c.collecting = none) (expected : c.expected = some e) (station : p.station = some e.side)
    {b : Fin 3} {stamp : Nat} (timely : now = stamp + 1) (later : e.armTime < stamp) :
    (c.openByPress p e b stamp).WallsFit p race now l := by
  obtain ⟨resolved, -, expects⟩ := h
  obtain ⟨rfl, inRace, swimming, side, room, -, alone, -⟩ := expects e expected
  obtain ⟨index, armTime⟩ := alone free
  have none : c.final = none :=
    resolved.final_none (by omega) fun v found => nomatch free.symm.trans found
  obtain ⟨-, window, -, -⟩ := fits
  have wall : CollectingWall.Fits p now (c.openByPress p e b stamp)
      ⟨e.index, e.side, Option.none, [⟨b, stamp⟩], stamp + p.window⟩ := {
    index := index
    side := side
    station := station
    room := room
    given := .inr nofun
    pad := nofun
    presses := fun q among => by
      obtain rfl := List.mem_singleton.1 among
      change c.lastTime < stamp ∧ stamp < now
      omega
    few := by change 1 ≤ 3; decide
    buttons := List.nodup_singleton _
    ahead := by change now ≤ stamp + _; omega
    near := by change stamp + _ < _; omega }
  refine ⟨?_, wall.collectingFits rfl inRace (.inl swimming), nofun⟩
  obtain ⟨walls, rising, bound, reached, -, finished⟩ := resolved
  exact ⟨walls, rising, bound, reached, fun f final => (nomatch none.symm.trans final), finished⟩

/-! #### Start, amendments and close -/

/-- The start signal in a bare lane of the race (R23). -/
theorem LaneWork.startSignal_fits {mark : Nat} {source : StartSource} (bare : w.ctx.Bare) (fits : env.program.Fits)
    (inRace : env.program.inRace env.lane = true) : env.Fits .running (w.startSignal env mark source).ctx := by
  obtain ⟨expected, collecting, resolved, final, status⟩ := bare
  obtain ⟨lengths, -, -, -⟩ := fits
  have time : w.ctx.lastTime = 0 := by simp [LaneContext.lastTime, resolved]
  have swimming : env.Fits .running ((w.on fun c => { c with status := .swimming, source := some source }).expect env 1
      env.program.armDelay).ctx := by
    refine LaneWork.placeExpected_fits ?_ (fun v found => nomatch collecting.symm.trans found) inRace rfl rfl lengths
      (fun _ => ⟨?_, ?_⟩) fun v found => nomatch collecting.symm.trans found
    · unfold LaneContext.ResolvedFit
      change (∀ i r, w.ctx.resolved[i]? = some r → _) ∧ w.ctx.resolved.Pairwise _ ∧ w.ctx.resolved.length ≤ _
        ∧ (w.ctx.resolved.length = _ ↔ ∃ f, w.ctx.final = some f ∧ _) ∧ (∀ f, w.ctx.final = some f → _) ∧ _
      rw [resolved, final]
      refine ⟨nofun, .nil, Nat.zero_le _, iff_of_false ?_ nofun, nofun, nofun⟩
      change 0 ≠ _
      omega
    · change 1 = w.ctx.resolved.length + 1
      rw [resolved]
      rfl
    · change _ = w.ctx.lastTime + _
      rw [time, Nat.zero_add]
  unfold LaneWork.startSignal
  dsimp only
  split
  · exact (LaneWork.react_frame _ _ _).sameWalls.wallsFit swimming
  · exact swimming

/-- The walls of a lane that is taken out without a collecting wall. -/
theorem LaneContext.WallsFit.takenOut {p : Program} {now : Nat} {l : Lane} (h : c.WallsFit p race now l)
    (free : c.collecting = none) (status : d.status ≠ .finished) (resolved : d.resolved = c.resolved) (final : d.final = c.final)
    (collecting : d.collecting = c.collecting) (expected : d.expected = none) : d.WallsFit p race now l := by
  obtain ⟨resolves, -⟩ := h
  exact (resolves.of_status resolved final collecting fun f => absurd f status).alone (collecting.trans free) expected

/-- DISQUALIFY and DID_NOT_START (R140 to R142). -/
theorem LaneWork.strike_fits {status : LaneStatus} (h : env.Fits race w.ctx) (running : env.running = true ↔ race = .running)
    (out : status.isOut = true) : env.Fits race (w.strike env status).ctx := by
  have unfinished : status ≠ .finished := by rintro rfl; cases out
  unfold LaneWork.strike
  split
  next goes =>
    unfold LaneWork.takeOut
    dsimp only
    split
    next v collecting =>
      have resolves := LaneWork.resolves_collecting (expected := none) h running collecting nofun
        ((w.on fun c => { c with expected := none }).recorded_sameWalls env .amend (recordOfWall env.program v))
      unfold LaneWork.resolveByAmend
      dsimp only
      have expected := ((w.on fun c => { c with expected := none }).recorded_sameWalls env .amend
        (recordOfWall env.program v)).expected
      generalize LaneWork.judgeRecord env _ _ = J at resolves expected ⊢
      have settled (T : LaneWork) := (T.settleExchange_frame env (recordOfWall env.program v).index
        (recordOfWall env.program v).official).sameWalls
      split
      next last =>
        have last := Program.isFinal_iff.1 last
        have kept := settled (J.setFinal env (recordOfWall env.program v).official true status)
        exact LaneContext.SameWalls.wallsFit (c := { J.ctx with
          final := some ⟨(recordOfWall env.program v).official, true⟩, status }) ⟨rfl, kept.expected, kept.collecting,
          kept.resolved, kept.final⟩ ((resolves.last_fits last).alone resolves.collecting expected)
      next other =>
        have other : (recordOfWall env.program v).index ≠ env.program.lengths := fun last => other (Program.isFinal_iff.2 last)
        have kept := settled J
        refine LaneContext.SameWalls.wallsFit (c := { J.ctx with status }) ⟨rfl, kept.expected, kept.collecting,
          kept.resolved, kept.final⟩ (LaneContext.ResolvedFit.alone ?_ resolves.collecting expected)
        exact (resolves.next_fits other).of_status rfl rfl rfl fun f => absurd f unfinished
    next free => exact h.takenOut free unfinished rfl rfl rfl rfl
  next stays =>
    have ended : race ≠ .running ∨ w.ctx.status.isOut = true := by
      by_cases goes : race = .running
      · refine .inr ?_
        by_contra inside
        exact stays ⟨running.2 goes, by simpa using inside⟩
      · exact .inl goes
    obtain ⟨free, expected⟩ := h.nothing_open ended
    exact h.takenOut free unfinished rfl rfl rfl expected

/-- RESTORE of a lane that is out (R143). -/
theorem LaneWork.restore_fits (h : env.Fits race w.ctx) (running : env.running = true ↔ race = .running)
    (inRace : env.program.inRace env.lane = true) (out : w.ctx.status.isOut = true) : env.Fits race (w.restore env).ctx := by
  obtain ⟨free, expected⟩ := h.nothing_open (.inr out)
  have fit := h
  obtain ⟨resolved, -⟩ := h
  unfold LaneWork.restore
  split
  next f final =>
    exact (resolved.of_status (d := (w.on fun c => { c with status := .finished }).ctx) rfl rfl rfl
      fun _ none => nomatch final.symm.trans none).alone free expected
  next none =>
    split
    next goes =>
      obtain rfl := running.1 goes
      obtain ⟨-, -, bound, reached, -, -⟩ := resolved
      have early : w.ctx.resolved.length ≠ env.program.lengths := fun last => by
        obtain ⟨f, found, -⟩ := reached.1 last
        exact nomatch none.symm.trans found
      refine LaneWork.placeExpected_fits (fit.1.of_status rfl rfl rfl nofun) (fun v found => nomatch free.symm.trans found) inRace
        rfl rfl ?_ (fun _ => ⟨rfl, rfl⟩) fun v found => nomatch free.symm.trans found
      change w.ctx.resolved.length + 1 ≤ _
      omega
    next =>
      exact (resolved.of_status (d := (w.on fun c => { c with status := .noTime }).ctx) rfl rfl rfl nofun).alone free expected

/-- The walls after stages 1 and 2 of a close: only a SWIMMING lane still expects a wall. -/
theorem LaneWork.close_walls (h : env.Fits race w.ctx) (running : env.running = true ↔ race = .running) :
    (w.close env).ctx.ResolvedFit env.program env.now ∧ (w.close env).ctx.collecting = none
      ∧ ((w.close env).ctx.expected ≠ none → (w.close env).ctx.status = .swimming) := by
  have opened (v : LaneWork) := (v.settleOpen_frame env).sameWalls
  have same {v u : LaneContext} (k : v.SameWalls u) (walls : v.ResolvedFit env.program env.now ∧ v.collecting = none
      ∧ (v.expected ≠ none → v.status = .swimming)) : u.ResolvedFit env.program env.now ∧ u.collecting = none
      ∧ (u.expected ≠ none → u.status = .swimming) := by
    obtain ⟨resolved, free, swims⟩ := walls
    rw [← k.collecting] at free
    exact ⟨k.resolvedFit resolved, free, by rw [k.expected, k.status]; exact swims⟩
  have fit := h
  obtain ⟨resolved, -, expects⟩ := h
  have swims : w.ctx.expected ≠ none → w.ctx.status = .swimming := fun some => by
    obtain ⟨e, expected⟩ := Option.ne_none_iff_exists'.1 some
    obtain ⟨-, -, swimming, -⟩ := expects e expected
    exact swimming
  unfold LaneWork.close
  dsimp only
  split
  next v collecting =>
    have resolves := LaneWork.resolves_collecting fit running collecting (fun _ => id) (w.recorded_sameWalls env .close _)
    refine same (opened _) ?_
    unfold LaneWork.resolveByClose
    dsimp only
    refine same (LaneWork.settle_frame _ env _ _).sameWalls ?_
    have expected := (w.recorded_sameWalls env .close (recordOfWall env.program v)).expected
    generalize LaneWork.judgeRecord env _ _ = J at resolves expected ⊢
    split
    next last =>
      have last := Program.isFinal_iff.1 last
      exact ⟨resolves.last_fits last, resolves.collecting, fun some => absurd (resolves.expected_none last) some⟩
    next other =>
      have other : (recordOfWall env.program v).index ≠ env.program.lengths := fun last => other (Program.isFinal_iff.2 last)
      refine ⟨resolves.next_fits other, resolves.collecting, ?_⟩
      rw [expected, resolves.status]
      exact swims
  next free => exact same (opened w) ⟨resolved, free, swims⟩

/-- A closed lane expects nothing (R29). -/
theorem LaneContext.closeStatus_fits {p : Program} {now : Nat} {l : Lane} (resolved : c.ResolvedFit p now)
    (free : c.collecting = none) (swims : c.expected ≠ none → c.status = .swimming) (ended : RaceState) :
    c.closeStatus.WallsFit p ended now l := by
  have nothing (other : c.status ≠ .swimming) : c.expected = none := by_contra fun some => other (swims some)
  unfold LaneContext.closeStatus
  split
  next status => exact resolved.alone free (nothing (by rw [status]; exact nofun))
  next status => exact resolved.alone free (nothing (by rw [status]; exact nofun))
  next status => exact resolved.alone free (nothing (by rw [status]; exact nofun))
  next =>
    exact LaneContext.ResolvedFit.alone (c := { c with status := .noTime, expected := none })
      (resolved.of_status rfl rfl rfl nofun) free rfl

/-! #### Time -/

/-- The clock moves on, but not past the close time of a collecting wall. -/
theorem LaneContext.WallsFit.later {p : Program} {now then' : Nat} {l : Lane} (h : c.WallsFit p race now l)
    (later : now ≤ then') (ahead : ∀ v, c.collecting = some v → then' ≤ v.closeTime) : c.WallsFit p race then' l := by
  obtain ⟨⟨walls, rising, bound, reached, open', finished⟩, collects, expects⟩ := h
  refine ⟨⟨fun i r found => ?_, rising, bound, reached, open', finished⟩, fun v collecting => ?_, fun e expected => ?_⟩
  · obtain ⟨index, side, positive, past⟩ := walls i r found
    exact ⟨index, side, positive, past.trans later⟩
  · obtain ⟨running, inRace, status, index, side, station, room, given, pad, presses, few, buttons, -, near⟩ :=
      collects v collecting
    refine ⟨running, inRace, status, index, side, station, room, given, fun t found => ?_, fun q among => ?_, few, buttons,
      ahead v collecting, by omega⟩
    · obtain ⟨after, before, close⟩ := pad t found
      exact ⟨after, by omega, close⟩
    · obtain ⟨after, before⟩ := presses q among
      exact ⟨after, by omega⟩
  · obtain ⟨running, inRace, swimming, side, room, armed, alone, after⟩ := expects e expected
    exact ⟨running, inRace, swimming, side, room, fun a => (armed a).trans later, alone, after⟩

end

end Sys2Proof.Machine


/-! ### The walls of every lane, row by row (chapters 02, 05, 06) -/

namespace Sys2Proof.Machine

/-! #### The invariant without the queue -/

section
variable {s t u : State}

/-- Walls, program and race state fit each other. -/
structure State.Walls (s : State) : Prop where
  bare : s.race.started = false → ∀ l, (s.context l).Bare
  settings : ∀ p, s.program = some p → p.Fits
  stored : s.race ≠ .empty → s.program ≠ none
  held : s.resetHeld = true → s.race.started = false
  lanes : ∀ p l, s.race.started = true → s.program = some p → (s.context l).WallsFit p s.race s.clock.value l

/-- The clock has reached the close time of a collecting wall of the lane. -/
def State.Due (s : State) (l : Lane) : Prop := ∃ w, (s.context l).collecting = some w ∧ w.closeTime ≤ s.clock.value

theorem State.wallsFit_iff : s.WallsFit ↔ s.Walls ∧ ∀ l, s.Due l → Instr.closeTimerExpiry l ∈ s.pending := by
  constructor
  · rintro ⟨bare, settings, stored, held, lanes, queued⟩
    exact ⟨⟨bare, settings, stored, held, lanes⟩, fun l ⟨w, collecting, late⟩ => queued l w collecting late⟩
  · rintro ⟨⟨bare, settings, stored, held, lanes⟩, queued⟩
    exact ⟨bare, settings, stored, held, lanes, fun l w collecting late => queued l ⟨w, collecting, late⟩⟩

/-- A started race has a program. -/
theorem State.Walls.program (h : s.Walls) (started : s.race.started = true) : ∃ p, s.program = some p :=
  Option.ne_none_iff_exists'.1 (h.stored fun e => by rw [e] at started; cases started)

/-- A collecting wall stands in a running race with a program. -/
theorem State.Walls.running (h : s.Walls) {l : Lane} {w : CollectingWall} (collecting : (s.context l).collecting = some w) :
    s.race = .running ∧ ∃ p, s.program = some p ∧ (s.context l).WallsFit p s.race s.clock.value l := by
  cases started : s.race.started with
  | false =>
    obtain ⟨-, free, -⟩ := h.bare started l
    exact nomatch free.symm.trans collecting
  | true =>
    obtain ⟨p, program⟩ := h.program started
    have fits := h.lanes p l started program
    obtain ⟨running, -⟩ := fits.2.1.wall collecting
    exact ⟨running, p, program, fits⟩

/-- What an operation keeps: the walls fit afterwards, no close time has been reached that was not before, and the queue is
as it was. -/
structure State.WallsKept (s t : State) : Prop where
  pending : t.pending = s.pending
  walls : s.Walls → t.Walls
  due : s.Walls → ∀ l, t.Due l → s.Due l

theorem State.WallsKept.refl (s : State) : s.WallsKept s := ⟨rfl, id, fun _ _ => id⟩

theorem State.WallsKept.trans (h : s.WallsKept t) (k : t.WallsKept u) : s.WallsKept u :=
  ⟨k.pending.trans h.pending, k.walls ∘ h.walls, fun w l late => h.due w l (k.due (h.walls w) l late)⟩

theorem State.WallsKept.ite {c : Prop} [Decidable c] (h : s.WallsKept t) (k : s.WallsKept u) :
    s.WallsKept (if c then t else u) := by
  split
  · exact h
  · exact k

/-- Nothing differs of what the walls rest on. -/
structure State.SameLanes (s t : State) : Prop where
  pending : t.pending = s.pending
  resetHeld : t.resetHeld = s.resetHeld
  race : t.race = s.race
  clock : t.clock = s.clock
  program : t.program = s.program
  lanes : ∀ l, (s.context l).SameWalls (t.context l)

theorem State.SameLanes.refl (s : State) : s.SameLanes s := ⟨rfl, rfl, rfl, rfl, rfl, fun _ => .refl _⟩

theorem State.SameLanes.trans (h : s.SameLanes t) (k : t.SameLanes u) : s.SameLanes u :=
  ⟨k.pending.trans h.pending, k.resetHeld.trans h.resetHeld, k.race.trans h.race, k.clock.trans h.clock,
    k.program.trans h.program, fun l => (h.lanes l).trans (k.lanes l)⟩

theorem State.SameLanes.ite {c : Prop} [Decidable c] (h : s.SameLanes t) (k : s.SameLanes u) :
    s.SameLanes (if c then t else u) := by
  split
  · exact h
  · exact k

theorem State.SameLanes.foldl {α : Type} (f : State → α → State) (hf : ∀ (s : State) (a : α), s.SameLanes (f s a))
    (xs : List α) (s : State) : s.SameLanes (xs.foldl f s) := by
  induction xs generalizing s with
  | nil => exact .refl s
  | cons a xs ih => exact (hf s a).trans (ih (f s a))

theorem State.SameLanes.kept (h : s.SameLanes t) : s.WallsKept t := by
  refine ⟨h.pending, fun walls => ?_, fun _ l ⟨w, collecting, late⟩ => ?_⟩
  · refine ⟨fun early l => ?_, fun p program => ?_, fun stored => ?_, fun held => ?_, fun p l started program => ?_⟩
    · exact (h.lanes l).bare (walls.bare (h.race ▸ early) l)
    · exact walls.settings p (h.program ▸ program)
    · rw [h.program]
      exact walls.stored (h.race ▸ stored)
    · rw [h.race]
      exact walls.held (h.resetHeld ▸ held)
    · rw [h.race, h.clock]
      exact (h.lanes l).wallsFit (walls.lanes p l (h.race ▸ started) (h.program ▸ program))
  · rw [(h.lanes l).collecting] at collecting
    rw [h.clock] at late
    exact ⟨w, collecting, late⟩

theorem State.sameLanes_of_same (pending : t.pending = s.pending) (resetHeld : t.resetHeld = s.resetHeld)
    (race : t.race = s.race) (clock : t.clock = s.clock) (program : t.program = s.program) (lanes : t.lanes = s.lanes) :
    s.SameLanes t :=
  ⟨pending, resetHeld, race, clock, program, fun l => by rw [State.context, State.context, lanes]; exact .refl _⟩

theorem State.OnlyRanking.sameLanes (h : s.OnlyRanking t) : s.SameLanes t :=
  State.sameLanes_of_same h.pending h.resetHeld h.race h.clock h.program h.lanes

theorem State.OnlyReports.sameLanes (h : s.OnlyReports t) : s.SameLanes t := h.toOnlyRanking.sameLanes

theorem State.KeepsRace.sameLanes {sampling : Bool} (k : s.KeepsRace sampling t) : s.SameLanes t :=
  State.sameLanes_of_same k.pending k.resetHeld k.race k.clock k.program k.lanes

theorem State.OnlyLane.sameLanes (h : s.OnlyLane t) (lanes : ∀ l, (s.context l).SameWalls (t.context l)) : s.SameLanes t :=
  ⟨h.pending, h.resetHeld, h.race, h.clock, h.program, lanes⟩

theorem State.logEntry_sameLanes (s : State) (stamp : Stamp) (source : LogSource) (wall : Option Nat) (d : Disposition) :
    s.SameLanes (s.logEntry stamp source wall d) := by
  rw [State.logEntry_frame]
  exact State.sameLanes_of_same rfl rfl rfl rfl rfl rfl

theorem State.answer_sameLanes (s : State) (kind : Byte) (code : ResultCode) (data : List Byte) :
    s.SameLanes (s.answer kind code data) := State.sameLanes_of_same rfl rfl rfl rfl rfl rfl

theorem State.answer_wallsKept (s : State) (kind : Byte) (code : ResultCode) (data : List Byte) :
    s.WallsKept (s.answer kind code data) := (s.answer_sameLanes kind code data).kept

theorem State.WallsKept.answer (h : s.WallsKept t) (kind : Byte) (code : ResultCode) (data : List Byte) :
    s.WallsKept (t.answer kind code data) := h.trans (t.answer_wallsKept kind code data)

/-! #### One lane changes -/

theorem State.onLane_sameLanes (h : s.OnlyLane t) {l : Lane} (others : ∀ m, m ≠ l → t.context m = s.context m)
    (same : (s.context l).SameWalls (t.context l)) : s.SameLanes t := by
  refine h.sameLanes fun m => ?_
  by_cases here : m = l
  · subst here
    exact same
  · rw [others m here]
    exact .refl _

theorem State.setLane_sameLanes {l : Lane} {c : LaneContext} (same : (s.context l).SameWalls c) : s.SameLanes (s.setLane l c) :=
  State.onLane_sameLanes (State.setLane_frame s l c) (fun _ away => State.context_setLane_other _ _ (Ne.symm away))
    (by rwa [State.context_setLane_same])

theorem State.commit_sameLanes {l : Lane} {w : LaneWork} (same : (s.context l).SameWalls w.ctx) : s.SameLanes (s.commit l w) :=
  State.onLane_sameLanes (State.commit_frame s l w) (fun _ away => State.commit_context_other _ _ away)
    (by rwa [State.commit_context_same])

/-- The new walls of a lane of a started race: they fit, and none is due that was not. -/
structure State.LaneFits (s : State) (l : Lane) (c : LaneContext) : Prop where
  started : s.race.started = true
  fits : ∀ p, s.program = some p → c.WallsFit p s.race s.clock.value l
  due : ∀ v, c.collecting = some v → v.closeTime ≤ s.clock.value → s.Due l

/-- A lane of a started race gets new walls that fit. -/
theorem State.onLane_wallsKept {l : Lane} {c : LaneContext} (h : s.OnlyLane t) (others : ∀ m, m ≠ l → t.context m = s.context m)
    (here : t.context l = c) (fits : s.Walls → s.LaneFits l c) : s.WallsKept t := by
  refine ⟨h.pending, fun walls => ?_, fun walls m ⟨w, collecting, late⟩ => ?_⟩
  · obtain ⟨started, fits, -⟩ := fits walls
    refine ⟨fun early => ?_, fun p program => walls.settings p (h.program ▸ program), fun stored => ?_, fun held => ?_,
      fun p m _ program => ?_⟩
    · rw [h.race, started] at early
      cases early
    · rw [h.program]
      exact walls.stored (h.race ▸ stored)
    · rw [h.race]
      exact walls.held (h.resetHeld ▸ held)
    · rw [h.race, h.clock]
      rw [h.program] at program
      by_cases place : m = l
      · subst place
        rw [here]
        exact fits p program
      · rw [others m place]
        exact walls.lanes p m started program
  · rw [h.clock] at late
    by_cases place : m = l
    · subst place
      rw [here] at collecting
      exact (fits walls).due w collecting late
    · rw [others m place] at collecting
      exact ⟨w, collecting, late⟩

theorem State.setLane_wallsKept {l : Lane} {c : LaneContext} (fits : s.Walls → s.LaneFits l c) : s.WallsKept (s.setLane l c) :=
  State.onLane_wallsKept (State.setLane_frame s l c) (fun _ away => State.context_setLane_other _ _ (Ne.symm away))
    (s.context_setLane_same l c) fits

theorem State.commit_wallsKept {l : Lane} {w : LaneWork} (fits : s.Walls → s.LaneFits l w.ctx) : s.WallsKept (s.commit l w) :=
  State.onLane_wallsKept (State.commit_frame s l w) (fun _ away => State.commit_context_other _ _ away)
    (s.commit_context_same l w) fits

/-- The race completes without a wall that is expected or collecting. -/
theorem State.checkCompletion_wallsKept (s : State) : s.WallsKept s.checkCompletion := by
  have ended := s.checkCompletion_frame
  have lanes := s.checkCompletion_lanes
  have completes (running : s.race = .running) := (State.checkCompletion_completes running).1
  have moved := s.checkCompletion_race
  generalize s.checkCompletion = t at ended lanes completes moved ⊢
  obtain ⟨race, clock⟩ | ⟨running, race, clock⟩ := moved
  · exact (State.sameLanes_of_same ended.pending ended.resetHeld race clock ended.program lanes).kept
  · have finished := s.allDone_iff.1 (completes running race)
    have context (l : Lane) : t.context l = s.context l := congrArg (fun lanes : Vector LaneContext 10 => lanes[l]) lanes
    refine ⟨ended.pending, fun walls => ?_, fun _ l ⟨w, collecting, _⟩ => ?_⟩
    · have started : s.race.started = true := by rw [running]; rfl
      refine ⟨fun early => ?_, fun p program => walls.settings p (ended.program ▸ program), fun _ => ?_, fun held => ?_,
        fun p l _ program => ?_⟩
      · rw [race] at early
        cases early
      · rw [ended.program]
        exact walls.stored (by rw [running]; exact nofun)
      · rw [ended.resetHeld] at held
        rw [walls.held held] at started
        cases started
      · rw [ended.program] at program
        rw [race, clock, context]
        obtain ⟨resolved, -, expects⟩ := walls.lanes p l started program
        refine resolved.alone (finished l).2 ?_
        cases expected : (s.context l).expected with
        | none => rfl
        | some e =>
          obtain ⟨-, inRace, swimming, -⟩ := expects e expected
          have terminal := (finished l).1 (by rw [State.inRace, program]; exact inRace)
          rw [LaneContext.terminal, swimming] at terminal
          cases terminal
    · rw [context, (finished l).2] at collecting
      cases collecting

theorem State.laneEvent_wallsKept {l : Lane} {w : LaneWork} (fits : s.Walls → s.LaneFits l w.ctx) :
    s.WallsKept (s.laneEvent l w) := by
  have put := State.commit_wallsKept fits
  have ranked : s.WallsKept (if needsRerank (s.context l) w.ctx then (s.commit l w).rerank else s.commit l w) :=
    .ite (put.trans (State.rerank_frame _).sameLanes.kept) put
  exact ranked.trans (State.checkCompletion_wallsKept _)

/-- Lanes that look the same take the same new walls. -/
theorem State.SameLanes.laneFits (h : s.SameLanes t) {l : Lane} {c : LaneContext} (fits : s.LaneFits l c) : t.LaneFits l c := by
  obtain ⟨started, fits, due⟩ := fits
  refine ⟨by rw [h.race, started], fun p program => ?_, fun v collecting late => ?_⟩
  · rw [h.race, h.clock]
    exact fits p (h.program ▸ program)
  · obtain ⟨w, found, reached⟩ := due v collecting (h.clock ▸ late)
    exact ⟨w, (h.lanes l).collecting.trans found, by rw [h.clock]; exact reached⟩

theorem State.SameLanes.symm (h : s.SameLanes t) : t.SameLanes s :=
  ⟨h.pending.symm, h.resetHeld.symm, h.race.symm, h.clock.symm, h.program.symm, fun l =>
    ⟨(h.lanes l).status.symm, (h.lanes l).expected.symm, (h.lanes l).collecting.symm, (h.lanes l).resolved.symm,
      (h.lanes l).final.symm⟩⟩

/-- An event after a log entry and its reports. -/
theorem State.SameLanes.laneEvent (h : s.SameLanes t) {l : Lane} {w : LaneWork} (fits : s.Walls → s.LaneFits l w.ctx) :
    s.WallsKept (t.laneEvent l w) :=
  h.kept.trans (State.laneEvent_wallsKept fun walls => h.laneFits (fits (h.symm.kept.walls walls)))

theorem State.SameLanes.setLane (h : s.SameLanes t) {l : Lane} {c : LaneContext} (fits : s.Walls → s.LaneFits l c) :
    s.WallsKept (t.setLane l c) :=
  h.kept.trans (State.setLane_wallsKept fun walls => h.laneFits (fits (h.symm.kept.walls walls)))

end

end Sys2Proof.Machine


/-! ### The walls under the events of lanes and race (chapters 02, 05 to 08) -/

namespace Sys2Proof.Machine

/-! #### Uses of a press -/

section
variable {s : State} {l : Lane} {side : PoolEnd} {b : Fin 3} {stamp : Stamp}

theorem LaneContext.touchExpected_touch {c : LaneContext} {e : ExpectedWall} {v t : Nat}
    (used : c.touchExpected side t = .touch e v) : v = t ∧ c.expected = some e ∧ e.armTime < t := by
  unfold LaneContext.touchExpected at used
  split at used
  · cases used
  · next x found =>
    obtain ⟨expected, -⟩ := Option.filter_eq_some_iff.1 found
    split at used
    · next open' =>
      cases used
      exact ⟨rfl, expected, open'.2⟩
    · cases used

theorem LaneContext.touchExpected_ne_padTime {c : LaneContext} {w : CollectingWall} {v t : Nat} :
    c.touchExpected side t ≠ .padTime w v := by
  unfold LaneContext.touchExpected
  split
  · exact nofun
  · split <;> exact nofun

/-- A touch is taken in a running race, by the expected wall, after its arm time. -/
theorem State.padUse_touch {e : ExpectedWall} {v : Nat} (used : s.padUse l side stamp = .touch e v) :
    s.race = .running ∧ stamp = .race v ∧ s.inRace l = true ∧ (s.context l).expected = some e ∧ e.armTime < v := by
  unfold State.padUse at used
  split at used
  next t running =>
    split at used
    next inRace =>
      unfold LaneContext.padUse at used
      split at used
      · cases used
      · split at used
        · split at used
          · cases used
          · split at used
            · cases used
            · obtain ⟨rfl, expected, later⟩ := LaneContext.touchExpected_touch used
              exact ⟨running, rfl, inRace, expected, later⟩
        · obtain ⟨rfl, expected, later⟩ := LaneContext.touchExpected_touch used
          exact ⟨running, rfl, inRace, expected, later⟩
    next => cases used
  next => cases used

/-- A pad time is taken in a running race, by a collecting wall without one. -/
theorem State.padUse_padTime {w : CollectingWall} {v : Nat} (used : s.padUse l side stamp = .padTime w v) :
    s.race = .running ∧ stamp = .race v ∧ s.inRace l = true ∧ (s.context l).collecting = some w ∧ w.pad = none
      ∧ v < w.closeTime := by
  unfold State.padUse at used
  split at used
  next t running =>
    split at used
    next inRace =>
      unfold LaneContext.padUse at used
      split at used
      · cases used
      · split at used
        next x found =>
          obtain ⟨collecting, -⟩ := Option.filter_eq_some_iff.1 found
          split at used
          · cases used
          · next untouched =>
            split at used
            · next early =>
              cases used
              exact ⟨running, rfl, inRace, collecting, by simpa using untouched, early⟩
            · exact absurd used LaneContext.touchExpected_ne_padTime
        next => exact absurd used LaneContext.touchExpected_ne_padTime
    next => cases used
  next => cases used

/-- A press joins the collecting wall of a running race that does not hold its button. -/
theorem State.buttonUse_join {w : CollectingWall} {v : Nat} (used : s.buttonUse l side b stamp = .join w v) :
    s.race = .running ∧ stamp = .race v ∧ (s.context l).collecting = some w ∧ ∀ q ∈ w.presses, q.button ≠ b := by
  unfold State.buttonUse at used
  split at used
  next running _ =>
    split at used
    · cases used
    · split at used
      · cases used
      · unfold LaneContext.buttonUse at used
        split at used
        next collecting =>
          split at used
          · cases used
          · next fresh =>
            cases used
            exact ⟨running, rfl, collecting, by simpa using fresh⟩
        next =>
          split at used
          · split at used <;> cases used
          · cases used
  next => cases used
  next => cases used

/-- A press opens the expected wall at the station end of a running race. -/
theorem State.buttonUse_opens {e : ExpectedWall} {v : Nat} {p : Program} (program : s.program = some p)
    (used : s.buttonUse l side b stamp = .opens e v) :
    s.race = .running ∧ stamp = .race v ∧ (s.context l).collecting = none ∧ (s.context l).expected = some e
      ∧ p.station = some e.side ∧ e.armTime < v := by
  unfold State.buttonUse at used
  split at used
  next running same =>
    cases program.symm.trans same
    split at used
    · cases used
    · split at used
      · cases used
      · next station =>
        unfold LaneContext.buttonUse at used
        split at used
        next =>
          split at used <;> cases used
        next free =>
          split at used
          · next found =>
            obtain ⟨expected, here⟩ := Option.filter_eq_some_iff.1 found
            split at used
            · next open' =>
              cases used
              exact ⟨running, rfl, free, expected, (not_ne_iff.1 station).trans (by rw [of_decide_eq_true here]), open'.2⟩
            · cases used
          · cases used
  next => cases used
  next => cases used

end

/-! #### Events of a lane -/

section
variable {s t : State}

theorem State.laneEnv_running {p : Program} {l : Lane} : (s.laneEnv p l).running = true ↔ s.race = .running := decide_eq_true_iff

/-- The work on a lane of a running race, in the lane's own terms. -/
theorem State.laneFits_of_running (walls : s.Walls) (running : s.race = .running) {l : Lane} {c : LaneContext} {p : Program}
    (program : s.program = some p) (fits : (s.laneEnv p l).Fits .running (s.context l) → (s.laneEnv p l).Fits .running c)
    (ahead : ∀ v, c.collecting = some v → v.closeTime ≤ s.clock.value → s.Due l) : s.LaneFits l c := by
  have started : s.race.started = true := by rw [running]; rfl
  refine ⟨started, fun q same => ?_, ahead⟩
  cases program.symm.trans same
  have before := walls.lanes p l started program
  rw [running] at before ⊢
  exact fits before

/-- A collecting wall that has just been given its times has a close time ahead of the clock. -/
theorem LaneContext.WallsFit.ahead {p : Program} {race : RaceState} {now : Nat} {l : Lane} {c : LaneContext}
    (h : c.WallsFit p race now l) {v : CollectingWall} (collecting : c.collecting = some v) : now ≤ v.closeTime := by
  obtain ⟨-, -, -, wall⟩ := h.2.1.wall collecting
  exact wall.ahead

theorem LaneWork.expect_collecting (w : LaneWork) (env : LaneEnv) (n armTime : Nat) :
    (w.expect env n armTime).ctx.collecting = w.ctx.collecting := by
  rw [LaneWork.expect_frame]

theorem LaneWork.afterTouch_collecting (w : LaneWork) (env : LaneEnv) (index stamp : Nat) (confirmed : Bool) :
    (w.afterTouch env index stamp confirmed).ctx.collecting = w.ctx.collecting := by
  unfold LaneWork.afterTouch
  split
  · rfl
  · exact w.expect_collecting env _ _

/-- A touch opens a wall at the station end, or leaves what is collecting. -/
theorem LaneWork.touch_collecting (w : LaneWork) (env : LaneEnv) (e : ExpectedWall) (stamp : Nat) {v : CollectingWall}
    (collecting : (w.touch env e stamp).ctx.collecting = some v) :
    w.ctx.collecting = some v ∨ v.closeTime = stamp + env.program.window := by
  unfold LaneWork.touch at collecting
  dsimp only at collecting
  split at collecting
  · rw [LaneWork.afterTouch_collecting] at collecting
    cases collecting
    exact .inr rfl
  · rw [(LaneWork.settle_frame _ env _ _).sameWalls.collecting, LaneWork.afterTouch_collecting] at collecting
    exact .inl collecting

theorem LaneWork.fillPad_collecting (w : LaneWork) (env : LaneEnv) (wall : CollectingWall) (stamp : Nat) :
    (w.fillPad env wall stamp).ctx.collecting = some { wall with pad := some stamp } :=
  LaneWork.afterTouch_collecting _ _ _ _ _

theorem LaneWork.advance_collecting (w : LaneWork) (env : LaneEnv) (r : WallRecord) :
    (w.advance env r).ctx.collecting = w.ctx.collecting := by
  unfold LaneWork.advance
  split
  · rfl
  · rw [LaneWork.armNext_frame]

theorem LaneWork.resolveAtClose_collecting (w : LaneWork) (env : LaneEnv) (wall : CollectingWall) :
    (w.resolveAtClose env wall).ctx.collecting = none := by
  unfold LaneWork.resolveAtClose
  dsimp only
  rw [(LaneWork.settle_frame _ env _ _).sameWalls.collecting, LaneWork.advance_collecting,
    (w.recorded_sameWalls env .closeTimer (recordOfWall env.program wall)).collecting]

theorem LaneWork.resolveByHand_collecting (w : LaneWork) (env : LaneEnv) (index time : Nat) :
    (w.resolveByHand env index time).ctx.collecting = none := by
  unfold LaneWork.resolveByHand
  dsimp only
  rw [(LaneWork.settle_frame _ env _ _).sameWalls.collecting, LaneWork.watchUnarmed_ctx, LaneWork.advance_collecting,
    (LaneWork.judge_frame _ _ _).sameWalls.collecting]
  rfl

/-- A pad press handed to the Lane Engine one count after its first sample. -/
theorem State.padEvent_wallsKept (s : State) (l : Lane) (side : PoolEnd) (stamp : Stamp)
    (timely : ∀ v, stamp = .race v → s.race = .running → s.clock.value = v + 1) : s.WallsKept (s.padEvent l side stamp) := by
  have noted (p : Program) (wall v : Nat) (use : TouchUse) {w : LaneWork} (fits : s.Walls → s.LaneFits l w.ctx) :
      s.WallsKept (((s.logEntry stamp (.pad l side) (some wall) .accepted).touchNote p l side wall v use).laneEvent l w) :=
    ((s.logEntry_sameLanes _ _ _ _).trans (State.touchNote_frame _ _ _ _ _ _ _).sameLanes).laneEvent fits
  unfold State.padEvent
  split
  · exact (s.logEntry_sameLanes _ _ _ _).kept
  · next w v p used program =>
    obtain ⟨running, at', -, collecting, untouched, early⟩ := State.padUse_padTime used
    have now := timely v at' running
    refine noted _ _ _ _ fun walls => State.laneFits_of_running walls running program
      (fun fits => LaneWork.fillPad_fits fits collecting untouched now) fun u found late => ?_
    rw [LaneWork.fillPad_collecting] at found
    cases found
    exact ⟨w, collecting, late⟩
  · next e v p used program =>
    obtain ⟨running, at', -, expected, later⟩ := State.padUse_touch used
    have now := timely v at' running
    refine noted _ _ _ _ fun walls => State.laneFits_of_running walls running program
      (fun fits => LaneWork.touch_fits fits (walls.settings p program) (State.laneEnv_running.2 running) expected now later)
      fun u found late => ?_
    obtain same | close := LaneWork.touch_collecting _ _ _ _ found
    · exact ⟨u, same, late⟩
    · obtain ⟨-, window, -, -⟩ := walls.settings p program
      change u.closeTime = v + p.window at close
      omega
  · exact (s.logEntry_sameLanes _ _ _ _).kept

theorem State.buttonEvent_wallsKept (s : State) (l : Lane) (side : PoolEnd) (b : Fin 3) (stamp : Stamp)
    (timely : ∀ v, stamp = .race v → s.race = .running → s.clock.value = v + 1) :
    s.WallsKept (s.buttonEvent l side b stamp) := by
  unfold State.buttonEvent
  split
  · exact (s.logEntry_sameLanes _ _ _ _).kept
  · next w v used =>
    obtain ⟨running, at', collecting, fresh⟩ := State.buttonUse_join used
    have now := timely v at' running
    refine (s.logEntry_sameLanes _ _ _ _).setLane fun walls => ?_
    obtain ⟨-, p, program, -⟩ := walls.running collecting
    refine State.laneFits_of_running walls running program
      (fun fits => LaneContext.WallsFit.joinPress fits collecting fresh now) fun u found late => ?_
    cases found
    exact ⟨w, collecting, late⟩
  · next e v p used program =>
    obtain ⟨running, at', free, expected, station, later⟩ := State.buttonUse_opens program used
    have now := timely v at' running
    refine (s.logEntry_sameLanes _ _ _ _).setLane fun walls => ?_
    refine State.laneFits_of_running walls running program
      (fun fits => LaneContext.WallsFit.openByPress fits (walls.settings p program) free expected station now later)
      fun u found late => ?_
    obtain ⟨-, window, -, -⟩ := walls.settings p program
    cases found
    change v + p.window ≤ _ at late
    omega
  · exact (s.logEntry_sameLanes _ _ _ _).kept

theorem State.takeoffEvent_sameLanes (s : State) (t : Takeoff) : s.SameLanes (s.takeoffEvent t) := by
  unfold State.takeoffEvent
  dsimp only
  split
  · exact s.logEntry_sameLanes _ _ _ _
  · refine (s.logEntry_sameLanes _ _ _ _).trans (State.setLane_sameLanes ?_)
    rw [State.logEntry_context]
    exact ⟨rfl, rfl, rfl, rfl, rfl⟩
  · next stamp p _ _ =>
    refine (s.logEntry_sameLanes _ _ _ _).trans (State.commit_sameLanes ?_)
    rw [State.logEntry_context]
    have same := (LaneWork.react_frame (s.laneEnv p t.lane) (reactionOf stamp (s.startMark.getD 0)) (s.laneWork t.lane)).sameWalls
    exact ⟨same.status, same.expected, same.collecting, same.resolved, same.final⟩
  · next official _ p _ _ =>
    refine (s.logEntry_sameLanes _ _ _ _).trans (State.commit_sameLanes ?_)
    rw [State.logEntry_context]
    have same := (LaneWork.judgeExchange_frame ((s.laneWork t.lane).on fun c => { c with takeoff := none })
      (s.laneEnv p t.lane) t.leg t.stamp.value official).sameWalls
    exact ⟨same.status, same.expected, same.collecting, same.resolved, same.final⟩
  · refine (s.logEntry_sameLanes _ _ _ _).trans (State.setLane_sameLanes ?_)
    rw [State.logEntry_context]
    exact ⟨rfl, rfl, rfl, rfl, rfl⟩
  · exact s.logEntry_sameLanes _ _ _ _

theorem State.deliverTakeoff_sameLanes (side : PoolEnd) (l : Lane) (s : State) : s.SameLanes (s.deliverTakeoff side l) := by
  unfold State.deliverTakeoff
  split
  · next k _ =>
    have landed : s.SameLanes { s with takeoffs := s.takeoffs.erase k } := State.sameLanes_of_same rfl rfl rfl rfl rfl rfl
    exact landed.trans (State.takeoffEvent_sameLanes _ k)
  · exact .refl s

theorem State.raiseStuck_sameLanes (s : State) (l : Lane) (side : PoolEnd) : s.SameLanes (s.raiseStuck l side) := by
  have raised : s.SameLanes
      ((s.setLaneEnd l side { s.ports.laneEnd l side with stuck := true }).report (.fault (.padStuck l side) true)) :=
    State.sameLanes_of_same rfl rfl rfl rfl rfl rfl
  unfold State.raiseStuck
  dsimp only
  generalize (s.setLaneEnd l side { s.ports.laneEnd l side with stuck := true }).report (.fault (.padStuck l side) true) = t
    at raised ⊢
  exact .ite (raised.trans (State.commit_sameLanes (LaneWork.judge_frame (t.laneWork l) l (.padStuck side)).sameWalls)) raised

theorem State.raiseStuckIfDue_sameLanes (s : State) (l : Lane) (side : PoolEnd) : s.SameLanes (s.raiseStuckIfDue l side) :=
  .ite (s.raiseStuck_sameLanes l side) (.refl s)

theorem State.raiseAllStuck_sameLanes (s : State) : s.SameLanes s.raiseAllStuck :=
  .foldl _ (fun t l => (t.raiseStuckIfDue_sameLanes l .start).trans (State.raiseStuckIfDue_sameLanes _ l .turn)) allLanes s

theorem State.armDue_eq {l : Lane} {e : ExpectedWall} (due : s.armDue l = some e) :
    s.race = .running ∧ (s.context l).expected = some e := by
  unfold State.armDue at due
  split at due
  · next running => exact ⟨running, (Option.filter_eq_some_iff.1 due).1⟩
  · cases due

theorem State.closeDue_eq {l : Lane} {w : CollectingWall} (due : s.closeDue l = some w) :
    s.race = .running ∧ (s.context l).collecting = some w := by
  unfold State.closeDue at due
  split at due
  · next running => exact ⟨running, (Option.filter_eq_some_iff.1 due).1⟩
  · cases due

theorem State.expireArm_wallsKept (s : State) (l : Lane) : s.WallsKept (s.expireArm l) := by
  unfold State.expireArm
  split
  · next e p due program =>
    obtain ⟨running, expected⟩ := State.armDue_eq due
    refine State.commit_wallsKept fun walls => State.laneFits_of_running walls running program
      (fun fits => LaneWork.arm_fits fits expected) fun v found late => ?_
    rw [LaneWork.arm, LaneWork.placeExpected_ctx] at found
    exact ⟨v, found, late⟩
  · exact .refl s

theorem State.expireClose_wallsKept (s : State) (l : Lane) : s.WallsKept (s.expireClose l) := by
  unfold State.expireClose
  split
  · next w p due program =>
    obtain ⟨running, collecting⟩ := State.closeDue_eq due
    refine State.laneEvent_wallsKept fun walls => State.laneFits_of_running walls running program
      (fun fits => LaneWork.resolveAtClose_fits fits (iff_of_true (State.laneEnv_running.2 running) rfl) collecting) fun v found late => ?_
    rw [LaneWork.resolveAtClose_collecting] at found
    cases found
  · exact .refl s

/-- After its close timer a lane has no wall that is due. -/
theorem State.expireClose_not_due (walls : s.Walls) (l : Lane) : ¬ (s.expireClose l).Due l := by
  rintro ⟨v, found, late⟩
  unfold State.expireClose at found late
  split at found
  · rw [State.laneEvent_context_same, LaneWork.resolveAtClose_collecting] at found
    cases found
  · next nothing =>
    obtain ⟨running, p, program, -⟩ := walls.running found
    have due : s.closeDue l = some v := by
      rw [State.closeDue, if_pos running]
      have late : v.closeTime ≤ s.clock.value := by
        split at late
        · next w p due program => exact absurd program (nothing w p due)
        · exact late
      exact Option.filter_eq_some_iff.2 ⟨found, decide_eq_true late⟩
    exact nothing v p due program

theorem State.endFreeze_sameLanes (s : State) : s.SameLanes s.endFreeze := by
  obtain ⟨_, h⟩ | ⟨_, h⟩ := s.endFreeze_cases <;> rw [h]
  · exact State.sameLanes_of_same rfl rfl rfl rfl rfl rfl
  · exact .refl s

/-! #### AMEND and BOARD_LAYOUT -/

/-- An AMEND keeps the walls when its action does for a lane of a started race. -/
theorem State.amending_wallsKept (s : State) (lane : Byte) {act : Program → Lane → State}
    (keeps : ∀ p l, s.race.started = true → s.program = some p → p.inRace l = true → s.WallsKept (act p l)) :
    s.WallsKept (s.amending lane act) := by
  unfold State.amending
  split
  · next takes =>
    have started : s.race.started = true := by revert takes; cases s.race <;> decide
    split
    · next l _ =>
      split
      · next p program =>
        split
        · next inRace => exact keeps p l started program inRace
        · exact s.answer_wallsKept _ _ _
      · exact s.answer_wallsKept _ _ _
    · exact s.answer_wallsKept _ _ _
  · exact s.answer_wallsKept _ _ _

theorem State.setAmendment_sameLanes (s : State) (l : Lane) (code : Option Nat) : s.SameLanes (s.setAmendment l code) :=
  State.sameLanes_of_same rfl rfl rfl rfl rfl rfl

/-- The work of an amendment on a lane of a started race. -/
theorem State.amendedEvent_wallsKept (s : State) {l : Lane} {code : Option Nat} {w : LaneWork} {action : Byte}
    {more : List Byte} {p : Program} (started : s.race.started = true) (program : s.program = some p)
    (fits : (s.laneEnv p l).Fits s.race (s.context l) → (s.laneEnv p l).Fits s.race w.ctx)
    (ahead : ∀ v, w.ctx.collecting = some v → (s.context l).collecting = some v) :
    s.WallsKept (((s.setAmendment l code).laneEvent l w).amended l action more) := by
  refine State.WallsKept.answer ((s.setAmendment_sameLanes l code).laneEvent fun walls => ⟨started, fun q same => ?_,
    fun v found late => ⟨v, ahead v found, late⟩⟩) _ _ _
  cases program.symm.trans same
  exact fits (walls.lanes p l started program)

theorem LaneWork.strike_collecting (w : LaneWork) (env : LaneEnv) (status : LaneStatus) {v : CollectingWall}
    (found : (w.strike env status).ctx.collecting = some v) : w.ctx.collecting = some v := by
  unfold LaneWork.strike at found
  split at found
  · unfold LaneWork.takeOut at found
    dsimp only at found
    split at found
    · next u _ =>
      have resolved : ((w.on fun c => { c with expected := none }).resolveByAmend env status u).ctx.collecting = none := by
        have same := ((w.on fun c => { c with expected := none }).recorded_sameWalls env .amend
          (recordOfWall env.program u)).collecting
        unfold LaneWork.resolveByAmend
        dsimp only
        rw [(LaneWork.settleExchange_frame _ env _ _).sameWalls.collecting]
        split
        · exact same
        · exact same
      exact nomatch resolved.symm.trans found
    · exact found
  · exact found

theorem LaneWork.restore_collecting (w : LaneWork) (env : LaneEnv) : (w.restore env).ctx.collecting = w.ctx.collecting := by
  unfold LaneWork.restore
  split
  · rfl
  · split
    · exact LaneWork.expect_collecting _ env _ _
    · rfl

theorem State.strike_wallsKept (s : State) {p : Program} {l : Lane} {status : LaneStatus} {code : Option Nat} {action : Byte}
    (started : s.race.started = true) (program : s.program = some p) (out : status.isOut = true) :
    s.WallsKept ((s.strike p l status code).amended l action []) :=
  s.amendedEvent_wallsKept started program (fun fits => LaneWork.strike_fits fits State.laneEnv_running out)
    fun _ => LaneWork.strike_collecting _ _ _

theorem State.disqualify_wallsKept (lane code : Byte) (s : State) : s.WallsKept (s.disqualify lane code) :=
  s.amending_wallsKept lane fun _ _ started program _ =>
    .ite (s.answer_wallsKept _ _ _) (s.strike_wallsKept started program rfl)

theorem State.didNotStart_wallsKept (lane : Byte) (s : State) : s.WallsKept (s.didNotStart lane) :=
  s.amending_wallsKept lane fun _ _ started program _ => s.strike_wallsKept started program rfl

theorem State.restore_wallsKept (lane : Byte) (s : State) : s.WallsKept (s.restore lane) := by
  refine s.amending_wallsKept lane fun p l started program inRace => ?_
  split
  · next out =>
    refine s.amendedEvent_wallsKept started program (fun fits => LaneWork.restore_fits fits State.laneEnv_running inRace out)
      fun v found => ?_
    rwa [LaneWork.restore_collecting] at found
  · exact s.answer_wallsKept _ _ _

theorem State.timeWall_wallsKept (lane : Byte) (time : Nat) (s : State) : s.WallsKept (s.timeWall lane time) := by
  refine s.amending_wallsKept lane fun p l started program inRace => .ite (s.answer_wallsKept _ _ _) ?_
  split
  · exact s.answer_wallsKept _ _ _
  · next index earliest =>
    split
    · next fits =>
      obtain ⟨later, past⟩ := Bool.and_eq_true_iff.1 fits
      refine s.amendedEvent_wallsKept started program (fun fit => LaneWork.resolveByHand_fits fit State.laneEnv_running inRace
        earliest (of_decide_eq_true later) (of_decide_eq_true past)) fun v found => ?_
      rw [LaneWork.resolveByHand_collecting] at found
      cases found
    · exact s.answer_wallsKept _ _ _

theorem State.amendAny_wallsKept (payload : Payload) (s : State) : s.WallsKept (s.amendAny payload) := by
  unfold State.amendAny
  split
  · exact s.disqualify_wallsKept _ _
  · exact s.didNotStart_wallsKept _
  · exact s.restore_wallsKept _
  · exact s.timeWall_wallsKept _ _
  · exact .ite (s.answer_wallsKept _ _ _) (s.answer_wallsKept _ _ _)

theorem State.boardLayout_wallsKept (payload : Payload) (s : State) : s.WallsKept (s.boardLayout payload) := by
  unfold State.boardLayout
  split
  · next y _ =>
    refine State.WallsKept.answer ?_ _ _ _
    have only := (s.setLayout_setsLayout y).only
    generalize s.setLayout y = t at only ⊢
    rw [only]
    exact State.SameLanes.kept (t := { s with board := t.board }) (State.sameLanes_of_same rfl rfl rfl rfl rfl rfl)
  · exact s.answer_wallsKept _ _ _

end

end Sys2Proof.Machine


/-! ### The walls under every row (chapters 02, 05, 06) -/

namespace Sys2Proof.Machine

/-! #### One lane after another -/

/-- An operation on one lane after another: each lane gets what its own turn gives it. -/
theorem State.foldl_lanes {s : State} {f : State → Lane → State} {A B : Lane → LaneContext → Prop}
    (frame : ∀ (t : State) (l : Lane), t.OnlyLane (f t l))
    (others : ∀ (t : State) (l m : Lane), m ≠ l → (f t l).context m = t.context m)
    (gives : ∀ (t : State) (l : Lane), s.OnlyLane t → A l (t.context l) → B l ((f t l).context l)) {ls : List Lane} (nodup : ls.Nodup) {t : State}
    (only : s.OnlyLane t) : (∀ l ∈ ls, A l (t.context l) → B l ((ls.foldl f t).context l))
      ∧ ∀ l, l ∉ ls → (ls.foldl f t).context l = t.context l := by
  induction ls generalizing t with
  | nil => exact ⟨nofun, fun _ _ => rfl⟩
  | cons k ls ih =>
    obtain ⟨fresh, nodup⟩ := List.nodup_cons.1 nodup
    obtain ⟨given, kept⟩ := ih nodup (only.trans (frame t k))
    refine ⟨fun l among before => ?_, fun l away => ?_⟩
    · obtain rfl | among := List.mem_cons.1 among
      · rw [List.foldl_cons, kept l fresh]
        exact gives t l only before
      · refine given l among ?_
        rw [others t k l (fun same => fresh (same ▸ among))]
        exact before
    · obtain ⟨other, away⟩ := not_or.1 (mt List.mem_cons.2 away)
      rw [List.foldl_cons, kept l away, others t k l other]

/-- Every lane gets what its own turn gives it. -/
theorem State.forLanes_lanes {s : State} {f : State → Lane → State} {A B : Lane → LaneContext → Prop}
    (frame : ∀ (t : State) (l : Lane), t.OnlyLane (f t l))
    (others : ∀ (t : State) (l m : Lane), m ≠ l → (f t l).context m = t.context m)
    (gives : ∀ (t : State) (l : Lane), s.OnlyLane t → A l (t.context l) → B l ((f t l).context l)) (l : Lane) (before : A l (s.context l)) :
    B l ((s.forLanes f).context l) :=
  (State.foldl_lanes frame others gives (ls := allLanes) (by decide) (.refl s)).1 l (mem_allLanes l) before

section
variable {s t : State}

theorem State.startLane_others (p : Program) (mark : Nat) (source : StartSource) (t : State) (l m : Lane) (away : m ≠ l) :
    (State.startLane p mark source t l).context m = t.context m := by
  unfold State.startLane
  split
  · exact t.commit_context_other _ away
  · rfl

theorem State.closeLane_others (p : Program) (t : State) (l m : Lane) (away : m ≠ l) :
    (State.closeLane p t l).context m = t.context m := by
  unfold State.closeLane
  split
  · exact t.commit_context_other _ away
  · rfl

theorem State.closeLaneStatus_others (p : Program) (t : State) (l m : Lane) (away : m ≠ l) :
    (State.closeLaneStatus p t l).context m = t.context m := by
  unfold State.closeLaneStatus
  split
  · exact t.commit_context_other _ away
  · rfl

/-! #### A race taken off -/

theorem LaneContext.Bare.wallsFit {c : LaneContext} (bare : c.Bare) {p : Program} (lengths : 1 ≤ p.lengths) (race : RaceState)
    (now : Nat) (l : Lane) : c.WallsFit p race now l := by
  obtain ⟨expected, collecting, resolved, final, status⟩ := bare
  refine LaneContext.ResolvedFit.alone ?_ collecting expected
  unfold LaneContext.ResolvedFit
  rw [resolved, final]
  refine ⟨nofun, .nil, Nat.zero_le _, iff_of_false ?_ nofun, nofun, fun finished => absurd finished status⟩
  change 0 ≠ _
  omega

theorem emptyContext_bare (program : Option Program) (l : Lane) : (emptyContext program l).Bare := by
  have status := emptyContext_unfinished program l
  unfold emptyContext at status ⊢
  split <;> exact ⟨rfl, rfl, rfl, rfl, by assumption⟩

theorem LaneContext.reset_bare : LaneContext.reset.Bare := ⟨rfl, rfl, rfl, rfl, nofun⟩

/-- A state before any start, with bare lanes. -/
theorem State.walls_of_bare (unstarted : s.race.started = false) (bare : ∀ l, (s.context l).Bare)
    (settings : ∀ p, s.program = some p → p.Fits) (stored : s.race ≠ .empty → s.program ≠ none) :
    s.Walls ∧ ∀ l, ¬ s.Due l := by
  refine ⟨⟨fun _ => bare, settings, stored, fun _ => unstarted, fun p l started => ?_⟩, fun l ⟨w, collecting, _⟩ => ?_⟩
  · rw [unstarted] at started
    cases started
  · obtain ⟨-, free, -⟩ := bare l
    exact nomatch free.symm.trans collecting

theorem State.wallsKept_of_nothing_due (pending : t.pending = s.pending) (walls : s.Walls → t.Walls ∧ ∀ l, ¬ t.Due l) :
    s.WallsKept t :=
  ⟨pending, fun before => (walls before).1, fun before l due => absurd due ((walls before).2 l)⟩

/-- Discarding a race leaves bare lanes, whatever they held. -/
theorem State.discardRace_wallsKept {race : RaceState} (pending : t.pending = s.pending) (unstarted : race.started = false)
    (settings : s.Walls → ∀ p, t.program = some p → p.Fits) (stored : s.Walls → race ≠ .empty → t.program ≠ none) :
    s.WallsKept (t.discardRace race) := by
  have only := t.discardRace_frame race
  have moved := t.discardRace_race race
  obtain ⟨contexts, -⟩ := t.discardRace_ranking race
  generalize t.discardRace race = u at only moved contexts ⊢
  refine State.wallsKept_of_nothing_due (only.pending.trans pending) fun walls => State.walls_of_bare (moved ▸ unstarted) (fun l => ?_)
    (fun p program => settings walls p (only.program ▸ program)) fun some => ?_
  · rw [contexts]
    exact emptyContext_bare _ l
  · rw [only.program]
    exact stored walls (moved ▸ some)

/-- What follows the taking off of a race. -/
theorem State.takenOff_sameLanes (s : State) (previous : RaceState) (cause : RaceCause) (event clock : Nat) :
    s.SameLanes (s.clearOverrun.raiseAllStuck.raceNote previous cause event clock) := by
  have calm : s.SameLanes s.clearOverrun := .ite (State.sameLanes_of_same rfl rfl rfl rfl rfl rfl) (.refl s)
  exact (calm.trans (State.raiseAllStuck_sameLanes _)).trans (State.raceNote_frame _ _ _ _ _).sameLanes

theorem storedProgram_fits {payload : Payload} (good : firstBadField payload = none) : (storedProgram payload).Fits := by
  obtain ⟨⟨armDelay, -⟩, ⟨window, -⟩, -, -, -, -, raised⟩ := storedProgram_ranges payload
  refine ⟨?_, window, armDelay, fun station => raised (Option.isSome_iff_ne_none.2 station)⟩
  have lengths : (storedProgram payload).lengths = num8 payload 4 := rfl
  rw [firstBadField_eq] at good
  rw [lengths]
  split at good
  · split at good
    · next fits => exact fits.1
    · cases good
  · cases good

theorem State.storeProgram_wallsKept {p : Program} (fits : p.Fits) (s : State) : s.WallsKept (s.storeProgram p) := by
  have off : s.WallsKept (({ s with program := some p } : State).discardRace .loaded) :=
    State.discardRace_wallsKept rfl rfl (fun _ q same => by cases same; exact fits) fun _ _ => nofun
  exact off.trans (State.takenOff_sameLanes _ _ _ _ _).kept

theorem State.removeProgram_wallsKept (s : State) : s.WallsKept s.removeProgram := by
  have off : s.WallsKept (({ s with program := none } : State).discardRace .empty) :=
    State.discardRace_wallsKept rfl rfl (fun _ q => nofun) fun _ some => absurd rfl some
  exact off.trans (State.takenOff_sameLanes _ _ _ _ _).kept

theorem State.recall_wallsKept (s : State) (underWay : s.race.isUnderWay = true) : s.WallsKept s.recall := by
  have off : s.WallsKept (s.discardRace .loaded) :=
    State.discardRace_wallsKept rfl rfl (fun walls => walls.settings) fun walls _ =>
      walls.stored fun empty => by rw [empty] at underWay; cases underWay
  exact off.trans (State.raceNote_frame _ _ _ _ _).sameLanes.kept

theorem State.programLoad_wallsKept (payload : Payload) (s : State) : s.WallsKept (s.programLoad payload) := by
  unfold State.programLoad
  refine .ite (s.answer_wallsKept _ _ _) ?_
  split
  · exact s.answer_wallsKept _ _ _
  · next good => exact (s.storeProgram_wallsKept (storedProgram_fits good)).answer _ _ _

theorem State.raceRecall_wallsKept (s : State) : s.WallsKept s.raceRecall := by
  unfold State.raceRecall
  split
  · next underWay => exact (s.recall_wallsKept underWay).answer _ _ _
  · exact s.answer_wallsKept _ _ _

theorem State.raceClear_wallsKept (s : State) : s.WallsKept s.raceClear :=
  .ite (s.answer_wallsKept _ _ _) (.ite (s.answer_wallsKept _ _ _) (s.removeProgram_wallsKept.answer _ _ _))

/-! #### Arm, start, close and release -/

/-- Race state and clock move while the lanes stay bare. -/
theorem State.arm_wallsKept (s : State) (loaded : s.race = .loaded) : s.WallsKept s.arm := by
  obtain ⟨program, race, -⟩ := s.arm_items
  have lanes : s.arm.lanes = s.lanes := by
    rw [State.arm_frame]
    exact s.enter_lanes .armed ⟨.prestart, 0⟩
  have pending : s.arm.pending = s.pending := by
    rw [State.arm_frame]
    exact s.enter_pending .armed ⟨.prestart, 0⟩
  refine State.wallsKept_of_nothing_due pending fun walls => State.walls_of_bare (by rw [race]; rfl) (fun l => ?_)
    (fun p same => walls.settings p (program ▸ same)) fun _ => ?_
  · rw [State.context, lanes]
    exact walls.bare (by rw [loaded]; rfl) l
  · rw [program]
    exact walls.stored (by rw [loaded]; exact nofun)

theorem State.raceArm_wallsKept (s : State) : s.WallsKept s.raceArm := by
  unfold State.raceArm
  split
  · next loaded => exact .ite ((s.arm_wallsKept loaded).answer _ _ _) (s.answer_wallsKept _ _ _)
  · exact s.answer_wallsKept _ _ _

theorem LaneWork.startSignal_collecting (env : LaneEnv) (mark : Nat) (source : StartSource) (w : LaneWork) :
    (w.startSignal env mark source).ctx.collecting = w.ctx.collecting := by
  unfold LaneWork.startSignal
  dsimp only
  split
  · rw [(LaneWork.react_frame _ _ _).sameWalls.collecting]
    exact LaneWork.expect_collecting _ env _ _
  · exact LaneWork.expect_collecting _ env _ _

/-- A lane at the start: bare before, its first wall expected after. -/
theorem State.startLane_walls {p : Program} (fits : p.Fits) (mark : Nat) (source : StartSource) {now : Nat} (t : State) (l : Lane)
    (clock : t.clock.value = now) (bare : (t.context l).Bare) :
    ((State.startLane p mark source t l).context l).WallsFit p .running now l
      ∧ ((State.startLane p mark source t l).context l).collecting = none := by
  have free : (t.context l).collecting = none := by
    obtain ⟨-, free, -⟩ := bare
    exact free
  unfold State.startLane
  split
  · next inRace =>
    rw [State.commit_context_same, LaneWork.startSignal_collecting, ← clock]
    exact ⟨LaneWork.startSignal_fits (w := t.laneWork l) (env := t.laneEnv p l) bare fits inRace, free⟩
  · exact ⟨bare.wallsFit fits.1 _ _ _, free⟩

theorem State.startRace_wallsKept (s : State) (armed : s.race = .armed) (free : s.resetHeld = false) (mark first : Nat)
    (source : StartSource) (cause : RaceCause) : s.WallsKept (s.startRace mark first source cause) := by
  have only := s.startRace_frame mark first source cause
  obtain ⟨race, clock, -⟩ := s.startRace_items mark first source cause
  refine State.wallsKept_of_nothing_due only.pending fun walls => ?_
  obtain ⟨p, program⟩ := Option.ne_none_iff_exists'.1 (walls.stored (by rw [armed]; exact nofun))
  have fits := walls.settings p program
  have started : ∀ l, ((s.startRace mark first source cause).context l).WallsFit p .running first l
      ∧ ((s.startRace mark first source cause).context l).collecting = none := by
    intro l
    have bare := walls.bare (by rw [armed]; rfl) l
    unfold State.startRace
    dsimp only
    rw [program]
    dsimp only
    generalize begun : State.raceNote _ _ _ _ _ = b
    have same : b.clock = ⟨.running, first⟩ ∧ b.lanes = s.lanes := by
      subst begun
      exact ⟨State.enter_clock _ _ _, State.enter_lanes _ _ _⟩
    obtain ⟨clock, lanes⟩ := same
    refine State.forLanes_lanes (A := fun _ c => c.Bare) (B := fun l c => c.WallsFit p .running first l ∧ c.collecting = none)
      (State.startLane_frame p mark source) (State.startLane_others p mark source)
      (fun t m only => State.startLane_walls fits mark source t m ?_) l ?_
    · rw [only.clock, clock]
    · rw [State.context, lanes]
      exact bare
  generalize s.startRace mark first source cause = t at only race clock started ⊢
  refine ⟨⟨fun early => ?_, fun q same => walls.settings q (only.program ▸ same), fun _ => ?_, fun held => ?_, fun q l _ same => ?_⟩,
    fun l ⟨w, collecting, _⟩ => nomatch (started l).2.symm.trans collecting⟩
  · rw [race] at early
    cases early
  · rw [only.program, program]
    exact nofun
  · rw [only.resetHeld, free] at held
    cases held
  · rw [only.program, program] at same
    cases same
    rw [race, clock]
    exact (started l).1

theorem State.startManual_wallsKept (s : State) (free : s.resetHeld = false) : s.WallsKept s.startManual := by
  unfold State.startManual
  split
  · next armed => exact (s.startRace_wallsKept armed free _ _ _ _).answer _ _ _
  · exact s.answer_wallsKept _ _ _

/-- The walls after stages 1 and 2 of a close: nothing collects, and only a SWIMMING lane of the race expects a wall. -/
def LaneContext.Closed (p : Program) (now : Nat) (l : Lane) (c : LaneContext) : Prop :=
  c.ResolvedFit p now ∧ c.collecting = none ∧ (c.expected ≠ none → c.status = .swimming ∧ p.inRace l = true)

theorem State.closeLane_walls {p : Program} {now : Nat} (t : State) (l : Lane) (running : t.race = .running)
    (clock : t.clock.value = now) (fits : (t.context l).WallsFit p .running now l) :
    ((State.closeLane p t l).context l).Closed p now l := by
  unfold State.closeLane
  split
  · next inRace =>
    rw [State.commit_context_same]
    subst clock
    obtain ⟨resolved, free, swims⟩ := LaneWork.close_walls (w := t.laneWork l) (env := t.laneEnv p l) fits
      (iff_of_true (State.laneEnv_running.2 running) rfl)
    exact ⟨resolved, free, fun some => ⟨swims some, inRace⟩⟩
  · next outside =>
    obtain ⟨resolved, collects, expects⟩ := fits
    refine ⟨resolved, ?_, fun some => ?_⟩
    · cases collecting : (t.context l).collecting with
      | none => rfl
      | some w =>
        obtain ⟨-, inRace, -⟩ := collects w collecting
        exact absurd inRace outside
    · obtain ⟨e, expected⟩ := Option.ne_none_iff_exists'.1 some
      obtain ⟨-, inRace, -⟩ := expects e expected
      exact absurd inRace outside

theorem State.closeLaneStatus_walls {p : Program} {now : Nat} (t : State) (l : Lane) (closed : (t.context l).Closed p now l) :
    ((State.closeLaneStatus p t l).context l).WallsFit p .complete now l
      ∧ ((State.closeLaneStatus p t l).context l).collecting = none := by
  obtain ⟨resolved, free, swims⟩ := closed
  unfold State.closeLaneStatus
  split
  · have same : (t.context l).closeStatus.collecting = (t.context l).collecting := by
      unfold LaneContext.closeStatus
      split <;> rfl
    rw [State.commit_context_same]
    exact ⟨LaneContext.closeStatus_fits resolved free (fun some => (swims some).1) _, same.trans free⟩
  · next outside => exact ⟨resolved.alone free (by_contra fun some => outside (swims some).2), free⟩

theorem State.closeRace_wallsKept (s : State) (running : s.race = .running) (cause : RaceCause) :
    s.WallsKept (s.closeRace cause) := by
  have only := s.closeRace_frame cause
  have race := s.closeRace_race cause
  have clock := s.closeRace_clock cause
  have started : s.race.started = true := by rw [running]; rfl
  refine State.wallsKept_of_nothing_due only.pending fun walls => ?_
  obtain ⟨p, program⟩ := walls.program started
  have closed : ∀ l, ((s.closeRace cause).context l).WallsFit p .complete s.clock.value l
      ∧ ((s.closeRace cause).context l).collecting = none := by
    intro l
    have fits := walls.lanes p l started program
    rw [running] at fits
    have settled := State.forLanes_lanes (s := s) (A := fun l c => c.WallsFit p .running s.clock.value l)
      (B := fun l c => c.Closed p s.clock.value l) (State.closeLane_frame p) (State.closeLane_others p)
      (fun t m only => State.closeLane_walls t m (only.race.trans running) (congrArg Clock.value only.clock)) l fits
    unfold State.closeRace
    dsimp only
    rw [program]
    dsimp only
    generalize s.forLanes (State.closeLane p) = t at settled ⊢
    have ended : (t.endWatches.context l).Closed p s.clock.value l := by
      rw [State.context, t.endWatches_lanes]
      exact settled
    have final := State.forLanes_lanes (A := fun l c => c.Closed p s.clock.value l)
      (B := fun l c => c.WallsFit p .complete s.clock.value l ∧ c.collecting = none) (State.closeLaneStatus_frame p)
      (State.closeLaneStatus_others p) (fun t m _ => State.closeLaneStatus_walls t m) l ended
    generalize t.endWatches.forLanes (State.closeLaneStatus p) = u at final ⊢
    have same : ((u.rerank.enter .complete { s.clock with phase := .held }).raceNote .running cause s.eventId
        s.clock.value).lanes = u.lanes := (State.enter_lanes _ _ _).trans u.rerank_frame.lanes
    rw [State.context, same]
    exact final
  generalize s.closeRace cause = t at only race clock closed ⊢
  refine ⟨⟨fun early => ?_, fun q same => walls.settings q (only.program ▸ same), fun _ => ?_, fun held => ?_, fun q l _ same => ?_⟩,
    fun l ⟨w, collecting, _⟩ => nomatch (closed l).2.symm.trans collecting⟩
  · rw [race] at early
    cases early
  · rw [only.program, program]
    exact nofun
  · rw [only.resetHeld] at held
    rw [walls.held held] at started
    cases started
  · rw [only.program, program] at same
    cases same
    rw [race, clock]
    exact (closed l).1

theorem State.raceClose_wallsKept (s : State) : s.WallsKept s.raceClose := by
  unfold State.raceClose
  split
  · next running => exact (s.closeRace_wallsKept running _).answer _ _ _
  · exact s.answer_wallsKept _ _ _

theorem State.saturation_wallsKept (s : State) : s.WallsKept (if s.saturated then s.saturate else s) := by
  split
  · next saturated =>
    have faulted : s.SameLanes (({ s with overrun := true } : State).report (.fault .clockOverrun true)) :=
      State.sameLanes_of_same rfl rfl rfl rfl rfl rfl
    have running := State.saturated_running saturated
    unfold State.saturate
    generalize ({ s with overrun := true } : State).report (.fault .clockOverrun true) = t at faulted ⊢
    exact faulted.kept.trans (t.closeRace_wallsKept (faulted.race.trans running) _)
  · exact .refl s

/-- A release ends a race whose walls are all resolved. -/
theorem State.release_wallsKept (s : State) (complete : s.race = .complete) : s.WallsKept s.release := by
  have only : s.OnlyRace s.release := (s.enter_race_frame _ _).trans (State.raceNote_frame _ _ _ _ _).toOnlyRace
  have race : s.release.race = .official := s.enter_race _ _
  have clock : s.release.clock = s.clock := s.enter_clock _ _
  have lanes : s.release.lanes = s.lanes := s.enter_lanes _ _
  generalize s.release = t at only race clock lanes ⊢
  have context (l : Lane) : t.context l = s.context l := congrArg (fun lanes : Vector LaneContext 10 => lanes[l]) lanes
  have ended : s.race ≠ .running := by rw [complete]; exact nofun
  have started : s.race.started = true := by rw [complete]; rfl
  refine ⟨only.pending, fun walls => ⟨fun early => ?_, fun p same => walls.settings p (only.program ▸ same), fun _ => ?_,
    fun held => ?_, fun p l _ same => ?_⟩, fun walls l ⟨w, collecting, _⟩ => ?_⟩
  · rw [race] at early
    cases early
  · rw [only.program]
    exact walls.stored (by rw [complete]; exact nofun)
  · rw [only.resetHeld] at held
    rw [walls.held held] at started
    cases started
  · rw [only.program] at same
    have fits := walls.lanes p l started same
    obtain ⟨free, expected⟩ := fits.nothing_open (.inl ended)
    rw [clock, context]
    exact fits.1.alone free expected
  · rw [context] at collecting
    exact absurd (walls.running collecting).1 ended

theorem State.resultsRelease_wallsKept (s : State) : s.WallsKept s.resultsRelease := by
  unfold State.resultsRelease
  split
  · next complete => exact (s.release_wallsKept complete).answer _ _ _
  · exact s.answer_wallsKept _ _ _

/-! #### Presses -/

theorem State.startEdgeEvent_wallsKept (s : State) (free : s.resetHeld = false) (stamp : Stamp) :
    s.WallsKept (s.startEdgeEvent stamp) := by
  unfold State.startEdgeEvent
  split
  · next mark armed =>
    have logged := s.logEntry_sameLanes (.pre mark) .start none .accepted
    exact logged.kept.trans (State.startRace_wallsKept _ (logged.race.trans armed) (logged.resetHeld.trans free) _ _ _ _)
  · exact (s.logEntry_sameLanes _ _ _ _).kept

theorem State.onPorts_sameLanes (s : State) (f : Ports → Ports) : s.SameLanes (s.onPorts f) :=
  State.sameLanes_of_same rfl rfl rfl rfl rfl rfl

/-- A press that has been recognised in time. -/
theorem State.recognisePress_wallsKept (s : State) (free : s.resetHeld = false) (line : Line) (stamp : Stamp)
    (timely : line = .startLine ∨ ∀ v, stamp = .race v → s.race = .running → s.clock.value = v + 1) :
    s.WallsKept (s.recognisePress line stamp) := by
  cases line with
  | pad l side =>
    have timely := timely.resolve_left nofun
    have held := (s.onPorts_sameLanes fun p =>
      p.setLaneEnd l side { s.ports.laneEnd l side with pad := .pressed, held := some 1 }).kept
    exact .ite (held.trans (State.padEvent_wallsKept _ _ _ _ timely)) held
  | button l side b =>
    have timely := timely.resolve_left nofun
    have pressed := (s.onPorts_sameLanes fun p => p.setLine (.button l side b) .pressed).kept
    exact .ite (pressed.trans (State.buttonEvent_wallsKept _ _ _ _ _ timely)) pressed
  | startLine =>
    have pressed := (s.onPorts_sameLanes fun p => p.setLine .startLine .pressed).kept
    exact pressed.trans (State.startEdgeEvent_wallsKept (s.onPorts fun p => p.setLine .startLine .pressed) free stamp)

theorem State.secondPress_wallsKept (s : State) (free : s.resetHeld = false) (line : Line)
    (timely : line = .startLine ∨ ∀ v, s.ports.line line = .pressSeen (.race v) → s.race = .running → s.clock.value = v + 1) :
    s.WallsKept (s.secondPress line) := by
  unfold State.secondPress
  split
  · next stamp seen =>
    refine s.recognisePress_wallsKept free line stamp (timely.imp_right fun timely v at' running => timely v ?_ running)
    rw [seen, at']
  · exact .refl s

theorem State.sample_wallsKept (s : State) (free : s.resetHeld = false) (line : Line) (closed : Bool)
    (timely : closed = true → ∀ v, s.ports.line line = .pressSeen (.race v) → s.race = .running → s.clock.value = v + 1) :
    s.WallsKept (s.sample line closed) := by
  unfold State.sample
  split
  case h_3 stamp seen =>
    refine s.recognisePress_wallsKept free line stamp (.inr fun v at' running => timely rfl v ?_ running)
    rw [seen, at']
  case h_8 =>
    cases line with
    | pad l side => exact .ite (State.SameLanes.kept (State.sameLanes_of_same rfl rfl rfl rfl rfl rfl)) (s.onPorts_sameLanes _).kept
    | button l side b => exact State.SameLanes.kept (State.sameLanes_of_same rfl rfl rfl rfl rfl rfl)
    | startLine => exact State.SameLanes.kept (State.sameLanes_of_same rfl rfl rfl rfl rfl rfl)
  all_goals exact State.SameLanes.kept (State.sameLanes_of_same rfl rfl rfl rfl rfl rfl)

/-! #### Every row -/

theorem raceWork_wallsKept (i : Instr) (s : State) (free : s.resetHeld = false)
    (timely : ∀ line v, pressLine i = some line → s.ports.line line = .pressSeen (.race v) → s.race = .running →
      s.clock.value = v + 1) : s.WallsKept (raceWork i s) := by
  cases i with
  | programLoad payload => exact s.programLoad_wallsKept payload
  | raceArm _ => exact s.raceArm_wallsKept
  | startManual _ => exact s.startManual_wallsKept free
  | raceRecall _ => exact s.raceRecall_wallsKept
  | raceClose _ => exact s.raceClose_wallsKept
  | resultsRelease _ => exact s.resultsRelease_wallsKept
  | raceClear _ => exact s.raceClear_wallsKept
  | clockSaturation => exact s.saturation_wallsKept
  | padPress l side => exact s.secondPress_wallsKept free _ (.inr fun v => timely _ v rfl)
  | buttonPress l side b => exact s.secondPress_wallsKept free _ (.inr fun v => timely _ v rfl)
  | startLineEdge => exact s.secondPress_wallsKept free _ (.inl rfl)
  | contactLineSample line closed =>
    exact s.sample_wallsKept free line closed fun pressed v => timely line v (by rw [pressed]; rfl)
  | amendDisqualify lane code _ => exact s.disqualify_wallsKept lane code
  | amendDidNotStart lane _ _ => exact s.didNotStart_wallsKept lane
  | amendRestore lane _ _ => exact s.restore_wallsKept lane
  | amendTimeWall lane _ time => exact s.timeWall_wallsKept lane time.toNat
  | amend payload => exact s.amendAny_wallsKept payload
  | boardLayout payload => exact s.boardLayout_wallsKept payload
  | stuckTimerExpiry l side => exact (s.raiseStuckIfDue_sameLanes l side).kept
  | takeoff side l => exact (s.deliverTakeoff_sameLanes side l).kept
  | armTimerExpiry l => exact s.expireArm_wallsKept l
  | closeTimerExpiry l => exact s.expireClose_wallsKept l
  | freezeEnd => exact .ite s.endFreeze_sameLanes.kept (.refl s)
  | _ => exact .refl s

/-- A state without program and with reset lanes. -/
theorem State.wallsFit_of_reset (race : s.race = .empty) (program : s.program = none)
    (lanes : ∀ l, s.context l = LaneContext.reset) : s.WallsFit := by
  obtain ⟨walls, nothing⟩ := State.walls_of_bare (s := s) (by rw [race]; rfl)
    (fun l => by rw [lanes]; exact LaneContext.reset_bare) (fun p same => nomatch program.symm.trans same)
    fun some => absurd race some
  exact State.wallsFit_iff.2 ⟨walls, fun l due => absurd due (nothing l)⟩

/-- The row at the front may be the close timer it stands for. -/
theorem State.WallsKept.wallsFit {i : Instr} (kept : s.WallsKept t) (walls : s.Walls)
    (queued : ∀ l, s.Due l → Instr.closeTimerExpiry l ∈ i :: s.pending) (other : ∀ l, t.Due l → Instr.closeTimerExpiry l ≠ i) :
    t.WallsFit := by
  refine State.wallsFit_iff.2 ⟨kept.walls walls, fun l due => ?_⟩
  rw [kept.pending]
  exact (List.mem_cons.1 (queued l (kept.due walls l due))).resolve_left (other l due)

/-- Before a start nothing is due. -/
theorem State.Walls.not_due (walls : s.Walls) (unstarted : s.race.started = false) (l : Lane) : ¬ s.Due l := by
  rintro ⟨w, collecting, -⟩
  rw [(walls.running collecting).1] at unstarted
  cases unstarted

theorem exec_wallsFit {i : Instr} (walls : s.Walls) (queued : ∀ l, s.Due l → Instr.closeTimerExpiry l ∈ i :: s.pending)
    (timely : ∀ line v, pressLine i = some line → s.ports.line line = .pressSeen (.race v) → s.race = .running →
      s.clock.value = v + 1) (ran : exec i s = .next t) : t.WallsFit := by
  have idle (l : Lane) : s.afterReset.context l = LaneContext.reset := Vector.getElem_replicate _
  by_cases reset : isReset i = true
  · obtain rfl | rfl | rfl | rfl := exec_reset ran reset
    · exact (State.WallsKept.refl t).wallsFit walls queued fun l _ same => by rw [← same] at reset; cases reset
    · exact State.wallsFit_of_reset rfl rfl idle
    · exact State.wallsFit_of_reset rfl rfl idle
    · exact State.wallsFit_of_reset rfl rfl idle
  · cases held : s.resetHeld with
    | true =>
      have same := resetLineHeldTakesNothing s i held (by rintro rfl; exact reset rfl) (by rintro rfl; exact reset rfl)
        (by rintro rfl; exact reset rfl)
      obtain rfl := Host.Outcome.next.inj (same.symm.trans ran)
      exact (State.WallsKept.refl s).wallsFit walls queued fun l due => absurd due (walls.not_due (walls.held held) l)
    | false =>
      by_cases close : ∃ l, Instr.closeTimerExpiry l = i
      · obtain ⟨l, rfl⟩ := close
        have expires : exec (.closeTimerExpiry l) s = .next (s.expireClose l) :=
          congrArg Host.Outcome.next (State.unlessHeld_of_free _ held)
        obtain rfl := Host.Outcome.next.inj (expires.symm.trans ran)
        refine (s.expireClose_wallsKept l).wallsFit walls queued fun m due same => ?_
        cases same
        exact State.expireClose_not_due walls l due
      · have other (l : Lane) : t.Due l → Instr.closeTimerExpiry l ≠ i := fun _ same => close ⟨l, same⟩
        have linked (f : Link → Link) : s.WallsKept (s.onLink f) := State.SameLanes.kept (State.sameLanes_of_same rfl rfl rfl rfl rfl rfl)
        by_cases row : changesRace i = true
        · obtain ⟨f, _, rfl | rfl⟩ := exec_raceWork ran row (Bool.eq_false_iff.2 reset)
          · exact (linked f).wallsFit walls queued other
          · exact ((linked f).trans (raceWork_wallsKept i (s.onLink f) held timely)).wallsFit walls queued other
        · exact (exec_aside ran (Bool.eq_false_iff.2 row)).sameLanes.kept.wallsFit walls queued other

/-- A count of time on an empty queue: no close time has been reached before it. -/
theorem State.tick_wallsFit (walls : s.Walls) (empty : s.pending = []) (calm : ∀ l, ¬ s.Due l) : s.tick.WallsFit := by
  have later : s.clock.value ≤ s.tick.clock.value ∧ s.tick.clock.value ≤ s.clock.value + 1 := by
    rw [State.tick_clock, Clock.tick_value]
    split <;> omega
  refine State.wallsFit_iff.2 ⟨⟨fun early l => ?_, fun p same => walls.settings p (s.tick_program ▸ same), fun some => ?_,
    fun held => ?_, fun p l started same => ?_⟩, fun l ⟨w, collecting, late⟩ => ?_⟩
  · rw [State.tick_context]
    exact walls.bare (s.tick_race ▸ early) l
  · rw [State.tick_program]
    exact walls.stored (s.tick_race ▸ some)
  · rw [State.tick_race]
    exact walls.held (s.tick_resetHeld ▸ held)
  · rw [State.tick_race] at started ⊢
    rw [State.tick_program] at same
    rw [State.tick_context]
    refine (walls.lanes p l started same).later later.1 fun v collecting => ?_
    have ahead : ¬ v.closeTime ≤ s.clock.value := fun late => calm l ⟨v, collecting, late⟩
    omega
  · rw [State.tick_context] at collecting
    refine (State.mem_tick_pending empty _).2 (.inl (.inl ⟨l, (s.tick_closeDue l).2 ⟨(walls.running collecting).1, w, collecting, late⟩, rfl⟩))

theorem step_wallsFit (fits : s.WallsFit) (timely : s.PressTimely) (ran : step s = .next t) : t.WallsFit := by
  obtain ⟨walls, queued⟩ := State.wallsFit_iff.1 fits
  obtain ⟨empty, rfl⟩ | ⟨i, rest, front, ran⟩ := step_cases ran
  · have calm (l : Lane) : ¬ s.Due l := fun due => List.not_mem_nil (empty ▸ queued l due)
    obtain ⟨_, idle⟩ | ⟨_, _, idle⟩ | ⟨_, _, idle⟩ := s.idle_cases <;> rw [idle]
    · exact fits
    · exact State.wallsFit_iff.2 ⟨⟨walls.bare, walls.settings, walls.stored, walls.held, walls.lanes⟩, fun l due => absurd due (calm l)⟩
    · exact State.tick_wallsFit walls empty calm
  · refine exec_wallsFit (s := { s with pending := rest })
      ⟨walls.bare, walls.settings, walls.stored, walls.held, walls.lanes⟩ (fun l due => ?_)
      (fun line v => timely i rest line v front) ran
    exact front ▸ queued l due

/-- Settles O59: an operation on a lane keeps its judgements in order and its walls in their places, with `State.WallsKept`
for what a row keeps and the close timers of the queue. -/
theorem laneRecordsAreKept : Obligations.LaneRecordsAreKept := by
  unfold Obligations.LaneRecordsAreKept
  exact ⟨fun _ _ => step_judgementsOrdered, fun _ _ => step_wallsFit⟩

end

end Sys2Proof.Machine


/-! ### What an event keeps and what the board shows of it (chapter 10, 10.4 to 10.6) -/

namespace Sys2Proof.Machine

/-! #### What an event keeps -/

section
variable {s t u : State}

theorem State.OnlyRace.eventKeeps (h : s.OnlyRace t) (samplers : s.SamplersKept t) : s.EventKeeps t :=
  ⟨h.pending, h.resetHeld, h.zeroing, congrArg State.board h, samplers, congrArg State.link h⟩

/-- An event of the race, contained as `State.Contained` has it. -/
theorem State.Contained.eventKeeps (h : s.Contained t) (only : s.OnlyRace t) : s.EventKeeps t := only.eventKeeps h.samplers

/-- What a command of the race keeps when its work keeps it. -/
theorem State.EventKeeps.answer (h : s.dropInbound.EventKeeps u) (takeoffs : u.takeoffs = s.takeoffs) (kind : Byte)
    (code : ResultCode) (data : List Byte) : s.CommandKeeps kind code data (u.answer kind code data) := by
  obtain ⟨pending, resetHeld, zeroing, board, samplers, link⟩ := h
  have link : u.link = { s.dropInbound.link with queue := u.link.queue, summary := u.link.summary } := link
  refine ⟨pending, resetHeld, zeroing, takeoffs, board, samplers, ?_⟩
  change { u.link with slot := .holding ⟨kind, code, data⟩ } = _
  rw [link]
  rfl

end

/-! #### Board work step by step -/

section
variable {s t u : State} {written late : Lane → Bool} {m n : Prop}

/-- Freeze and spent flag alone change. -/
theorem State.BoardWork.of_freeze (same : t.board = { s.board with freeze := t.board.freeze, spent := t.board.spent }) :
    s.BoardWork t (fun _ => false) False := by
  refine ⟨by rw [same], .of_same (by rw [same]) fun _ => rfl, fun _ => ?_⟩
  rw [same]
  have none := (Board.Redraws.refl s.board)
  exact
    { layout := rfl, row := none.row, kept := fun d other _ => none.kept d other id, chain := .inl rfl, since := rfl, head := id
      mark := none.mark }

/-- Work that writes no auto field, after any other. -/
theorem State.BoardWork.andQuiet (h : s.BoardWork t written m) (k : t.BoardWork u (fun _ => false) n)
    (once : s.board.map[1] = 1 → t.board.map = s.board.map ∨ u.board.map = t.board.map) (lanes : u.lanes = t.lanes)
    (results : u.results = t.results) : s.BoardWork u written (m ∨ n) :=
  (h.trans k once fun l _ _ => State.sameFields_of_eq lanes results l).congr (fun _ => (Bool.or_false _).symm) Iff.rfl

/-- Any work after work that writes no auto field. -/
theorem State.BoardWork.quietAnd (h : s.BoardWork t (fun _ => false) m) (k : t.BoardWork u late n)
    (once : s.board.map[1] = 1 → t.board.map = s.board.map ∨ u.board.map = t.board.map) : s.BoardWork u late (m ∨ n) :=
  (h.trans k once nofun).congr (fun _ => (Bool.false_or _).symm) Iff.rfl

theorem State.BoardWork.ite {c : Prop} [Decidable c] (h : s.BoardWork t written m) (k : s.BoardWork u written n) :
    s.BoardWork (if c then t else u) written (c ∧ m ∨ ¬ c ∧ n) := by
  split
  · next yes => exact h.congr (fun _ => rfl) (by simp [yes])
  · next no => exact k.congr (fun _ => rfl) (by simp [no])

theorem State.endFreeze_boardWork (s : State) : s.BoardWork s.endFreeze (fun _ => false) (s.board.freeze ≠ none) := by
  unfold State.endFreeze
  split
  · next frozen =>
    have thawed : s.BoardWork (s.onBoard fun b => { b with freeze := none }) (fun _ => false) False := .of_freeze rfl
    refine (thawed.andQuiet (State.markClockRow_boardWork _) (fun _ => .inr rfl) rfl rfl).congr (fun _ => rfl) ?_
    exact iff_of_true (.inr trivial) (Option.isSome_iff_ne_none.1 frozen)
  · next free => exact (State.BoardWork.of_board rfl).congr (fun _ => rfl) (iff_of_false id (by simpa using free))

/-- A lane's final starts the freeze now, if it is its first (R168). -/
def State.MayFreeze (s : State) : Prop := s.race = .running ∧ 0 < s.board.layout.freezeSeconds ∧ s.board.spent = false

theorem State.startFreeze_boardWork (s : State) (final : Nat) :
    s.BoardWork (s.startFreeze final) (fun _ => false) s.MayFreeze := by
  obtain ⟨may, starts⟩ | ⟨cannot, starts⟩ := s.startFreeze_cases final
  · have frozen : s.BoardWork (s.onBoard fun b => { b with
        freeze := some ⟨final, s.clock.value + s.board.layout.freezeSeconds * 10000⟩, spent := true }) (fun _ => false) False :=
      .of_freeze rfl
    rw [starts]
    exact (frozen.andQuiet (State.markClockRow_boardWork _) (fun _ => .inr rfl) rfl rfl).congr (fun _ => rfl)
      (iff_of_true (.inr trivial) may)
  · rw [starts]
    exact (State.BoardWork.of_board rfl).congr (fun _ => rfl) (iff_of_false id cannot)

/-- The work of a change of race state: row 1 is marked for the end of a freeze and for another clock phase. -/
theorem State.enter_boardWork (s : State) (race : RaceState) (clock : Clock) : s.BoardWork (s.enter race clock) (fun _ => false)
    (race ≠ .running ∧ s.board.freeze ≠ none ∨ s.clock.phase ≠ clock.phase) := by
  have changed : s.BoardWork { s with race, clock } (fun _ => false) False := .of_board rfl
  have frame := State.endFreeze_frame { s with race, clock }
  have thawed : s.BoardWork (if race = .running then { s with race, clock } else State.endFreeze { s with race, clock })
      (fun _ => false) (race ≠ .running ∧ s.board.freeze ≠ none) := by
    refine (changed.ite (changed.andQuiet (State.endFreeze_boardWork _) (fun _ => .inl rfl) frame.lanes frame.results)).congr
      (fun _ => rfl) ?_
    simp
  have same : (if race = .running then ({ s with race, clock } : State)
      else State.endFreeze { s with race, clock }).board.map = s.board.map := by
    split
    · rfl
    · exact frame.board_map
  unfold State.enter
  dsimp only
  generalize (if race = .running then ({ s with race, clock } : State) else State.endFreeze { s with race, clock }) = t
    at thawed same ⊢
  have marked := thawed.ite (c := s.clock.phase = clock.phase)
    (thawed.andQuiet (State.markClockRow_boardWork t) (fun _ => .inr rfl) rfl rfl)
  have still : (if s.clock.phase = clock.phase then t else t.markClockRow).board.map = s.board.map := by
    split
    · exact same
    · exact same
  generalize (if s.clock.phase = clock.phase then t else t.markClockRow) = v at marked still ⊢
  refine (marked.andQuiet v.recomputeMap_boardWork (fun _ => .inl still) v.recomputeMap_frame.lanes
    v.recomputeMap_frame.results).congr (fun _ => rfl) ?_
  by_cases phase : s.clock.phase = clock.phase <;> simp [phase]

theorem State.enter_spent (s : State) (race : RaceState) (clock : Clock) :
    (s.enter race clock).board.spent = s.board.spent := by
  have ended (t : State) : t.endFreeze.board.spent = t.board.spent := by
    obtain ⟨_, h⟩ | ⟨_, h⟩ := t.endFreeze_cases <;> rw [h]
  unfold State.enter
  dsimp only
  rw [(State.recomputeMap_frame _).board_spent]
  by_cases running : race = .running
  · simp only [if_pos running]
    split <;> rfl
  · simp only [if_neg running]
    split <;> exact ended _

/-! #### A lane's work put back -/

/-- The lane's first final time starts the freeze. -/
def State.FreezesOn (s : State) (l : Lane) (w : LaneWork) : Prop :=
  s.MayFreeze ∧ (s.context l).final = none ∧ w.ctx.final ≠ none

/-- A lane's work with its auto fields, before the freeze. -/
def State.putShown (s : State) (l : Lane) (w : LaneWork) : State :=
  if needsAuto (s.context l) w.ctx then
    (((s.setLane l w.ctx).setWatch .start l w.watch.start).setWatch .turn l w.watch.turn).writeAuto l
  else ((s.setLane l w.ctx).setWatch .start l w.watch.start).setWatch .turn l w.watch.turn

theorem State.putShown_boardWork (s : State) (l : Lane) (w : LaneWork) : s.BoardWork (s.putShown l w)
    (fun m => decide (m = l) && needsAuto (s.context l) w.ctx) False := by
  have put : s.BoardWork (((s.setLane l w.ctx).setWatch .start l w.watch.start).setWatch .turn l w.watch.turn)
      (fun _ => false) False := .of_board rfl
  unfold State.putShown
  cases shows : needsAuto (s.context l) w.ctx with
  | true => exact (put.quietAnd (State.writeAuto_boardWork _ l) fun _ => .inl rfl).congr (fun m => Bool.and_true _) or_self_iff
  | false => exact put.congr (fun m => Bool.and_false _) Iff.rfl

theorem State.putShown_keeps (s : State) (l : Lane) (w : LaneWork) :
    (s.putShown l w).race = s.race ∧ (s.putShown l w).clock = s.clock ∧ (s.putShown l w).link = s.link
      ∧ (s.putShown l w).board.layout = s.board.layout ∧ (s.putShown l w).board.spent = s.board.spent
      ∧ (s.putShown l w).board.freeze = s.board.freeze ∧ (s.putShown l w).board.map = s.board.map := by
  unfold State.putShown
  split
  · have frame := State.writeAuto_frame (((s.setLane l w.ctx).setWatch .start l w.watch.start).setWatch .turn l w.watch.turn) l
    exact ⟨frame.race, frame.clock, frame.link, frame.board_layout, frame.board_spent, frame.board_freeze, frame.board_map⟩
  · exact ⟨rfl, rfl, rfl, rfl, rfl, rfl, rfl⟩

/-- Putting back a lane's work, with its first final or without. -/
theorem State.commit_cases (s : State) (l : Lane) (w : LaneWork) :
    (∃ f, (s.context l).final = none ∧ w.ctx.final = some f
        ∧ s.commit l w = ((s.putShown l w).startFreeze f.time).reportAll w.reports)
      ∨ ¬ ((s.context l).final = none ∧ w.ctx.final ≠ none) ∧ s.commit l w = (s.putShown l w).reportAll w.reports := by
  unfold State.commit
  dsimp only
  split
  · next f before after => exact .inl ⟨f, before, after, rfl⟩
  · next other =>
    refine .inr ⟨fun ⟨before, after⟩ => ?_, rfl⟩
    obtain ⟨f, after⟩ := Option.ne_none_iff_exists'.1 after
    exact other f before after

theorem State.reportAll_boardWork (s : State) (rs : List Report) : s.BoardWork (s.reportAll rs) (fun _ => false) False := by
  refine .of_board ?_
  rw [s.reportAll_frame rs]

theorem State.commit_boardWork (s : State) (l : Lane) (w : LaneWork) : s.BoardWork (s.commit l w)
    (fun m => decide (m = l) && needsAuto (s.context l) w.ctx) (s.FreezesOn l w) := by
  have shown := s.putShown_boardWork l w
  obtain ⟨race, clock, link, layout, spent, freeze, map⟩ := s.putShown_keeps l w
  have may : (s.putShown l w).MayFreeze ↔ s.MayFreeze := by rw [State.MayFreeze, race, layout, spent, State.MayFreeze]
  have noted (t : State) (rs : List Report) : (t.reportAll rs).lanes = t.lanes ∧ (t.reportAll rs).results = t.results :=
    ⟨(t.reportAll_frame rs).lanes, (t.reportAll_frame rs).results⟩
  obtain ⟨f, before, after, put⟩ | ⟨other, put⟩ := s.commit_cases l w
  · rw [put]
    have frozen := (s.putShown l w).startFreeze_frame f.time
    have started := shown.andQuiet (State.startFreeze_boardWork _ f.time) (fun _ => .inl map) frozen.lanes frozen.results
    refine (started.andQuiet (State.reportAll_boardWork _ w.reports) (fun _ => .inl (frozen.board_map.trans map))
      (noted _ _).1 (noted _ _).2).congr (fun _ => rfl) ?_
    rw [may, State.FreezesOn, before, after]
    simp
  · rw [put]
    refine (shown.andQuiet (State.reportAll_boardWork _ w.reports) (fun _ => .inl map) (noted _ _).1 (noted _ _).2).congr
      (fun _ => rfl) ?_
    exact iff_of_false (fun h => h.elim id id) fun h => other h.2

/-- The freeze after a lane's work has been put back (R168). -/
theorem State.commit_freeze (s : State) (l : Lane) (w : LaneWork) :
    (s.FreezesOn l w → (s.commit l w).board.spent = true ∧ ∀ f, w.ctx.final = some f → (s.commit l w).board.freeze =
        some ⟨f.time, s.clock.value + s.board.layout.freezeSeconds * 10000⟩)
      ∧ (¬ s.FreezesOn l w → (s.commit l w).board.spent = s.board.spent ∧ (s.commit l w).board.freeze = s.board.freeze) := by
  obtain ⟨race, clock, -, layout, spent, freeze, -⟩ := s.putShown_keeps l w
  have may : (s.putShown l w).MayFreeze ↔ s.MayFreeze := by rw [State.MayFreeze, race, layout, spent, State.MayFreeze]
  have noted (t : State) : (t.reportAll w.reports).board = t.board := by rw [t.reportAll_frame]
  obtain ⟨f, before, after, put⟩ | ⟨other, put⟩ := s.commit_cases l w
  · rw [put, noted]
    obtain ⟨starts, put⟩ | ⟨cannot, put⟩ := (s.putShown l w).startFreeze_cases f.time
    · refine ⟨fun _ => ⟨by rw [put], fun g same => ?_⟩, fun none => absurd ⟨may.1 starts, before, by rw [after]; exact nofun⟩ none⟩
      cases after.symm.trans same
      rw [put, ← clock, ← layout]
    · rw [put]
      exact ⟨fun on => absurd (may.2 on.1) cannot, fun _ => ⟨spent, freeze⟩⟩
  · rw [put, noted]
    exact ⟨fun on => absurd on.2 other, fun _ => ⟨spent, freeze⟩⟩

theorem State.commit_link (s : State) (l : Lane) (w : LaneWork) : (s.commit l w).link = s.link.reported w.reports := by
  obtain ⟨-, -, link, -⟩ := s.putShown_keeps l w
  obtain ⟨f, -, -, put⟩ | ⟨-, put⟩ := s.commit_cases l w
  · rw [put, State.reportAll_link, (State.startFreeze_frame _ _).link, link]
  · rw [put, State.reportAll_link, link]

/-- The auto fields of a lane whose work is put back follow from what has changed in it. -/
theorem State.autoChanged_of_commit {l : Lane} {w : LaneWork} (here : t.context l = w.ctx)
    (others : ∀ m, m ≠ l → t.context m = s.context m) (results : t.results.places = s.results.places) (k : Lane) :
    s.autoChanged t k = (decide (k = l) && needsAuto (s.context l) w.ctx) := by
  have place : (s.inRace k && s.results.places[k] != t.results.places[k]) = false := by simp [results]
  unfold State.autoChanged
  rw [place, Bool.or_false]
  by_cases same : k = l
  · subst same
    rw [here, decide_eq_true rfl, Bool.true_and]
    rfl
  · rw [others k same, decide_eq_false same]
    simp

theorem State.freezeStarts_iff {l : Lane} {w : LaneWork} (here : t.context l = w.ctx)
    (others : ∀ m, m ≠ l → t.context m = s.context m) : s.FreezeStarts t ↔ s.FreezesOn l w := by
  constructor
  · rintro ⟨running, interval, spent, k, before, after⟩
    by_cases same : k = l
    · subst same
      exact ⟨⟨running, interval, spent⟩, before, here ▸ after⟩
    · rw [others k same] at after
      exact absurd before after
  · rintro ⟨⟨running, interval, spent⟩, before, after⟩
    exact ⟨running, interval, spent, l, before, by rw [here]; exact after⟩

/-- What a lane's work shows of the board when it is put back. -/
theorem State.commit_boardFollows (s : State) (l : Lane) (w : LaneWork) : s.BoardFollows (s.commit l w) := by
  have frame := s.commit_frame l w
  have here := s.commit_context_same l w
  have others (m : Lane) (away : m ≠ l) := s.commit_context_other w away
  have work := s.commit_boardWork l w
  obtain ⟨starts, stays⟩ := s.commit_freeze l w
  generalize s.commit l w = t at frame here others work starts stays ⊢
  have freezes := State.freezeStarts_iff here others
  refine ⟨work.boardShows (State.autoChanged_of_commit here others (congrArg Results.places frame.results)) frame.mapFits
    fun _ => ⟨fun on => ?_, fun marks => ?_⟩, fun moved => absurd frame.race moved, fun on => ?_, fun none => ?_⟩
  · obtain ⟨spent, -⟩ := starts on
    exact .inr (.inr (.inl ⟨on.1.2.2, spent⟩))
  · by_contra none
    obtain ⟨spent, freeze⟩ := stays none
    obtain phase | differs | ⟨clear, gone⟩ | ⟨-, -, heads⟩ := marks
    · exact phase (congrArg Clock.phase frame.clock.symm)
    · exact differs freeze.symm
    · rw [spent, clear] at gone
      cases gone
    · exact heads (by rw [frame.results])
  · obtain ⟨spent, freeze⟩ := starts (freezes.1 on)
    refine ⟨spent, fun _ k f before after => ?_⟩
    by_cases same : k = l
    · subst same
      exact freeze f (here ▸ after)
    · rw [others k same, before] at after
      cases after
  · obtain ⟨spent, freeze⟩ := stays fun on => none (freezes.2 on)
    exact ⟨spent, fun _ => freeze⟩

end

end Sys2Proof.Machine


/-! ### Judgements added by an event, and stuck pads (chapter 08, 8.1; chapter 03, 3.6) -/

namespace Sys2Proof.Machine

/-! #### Causes and their notes (R130, R132) -/

theorem insertJudgement_eq (j : Judgement) (js : List Judgement) : insertJudgement j js =
    (js.takeWhile fun k => decide (k.priority ≤ j.priority)) ++ j :: js.dropWhile fun k => decide (k.priority ≤ j.priority) := by
  induction js with
  | nil => rfl
  | cons k js ih =>
    unfold insertJudgement
    by_cases later : j.priority < k.priority
    · have stops : ¬ k.priority ≤ j.priority := Nat.not_le.2 later
      rw [if_pos later]
      simp [stops]
    · have goes : k.priority ≤ j.priority := Nat.not_lt.1 later
      rw [if_neg later, ih]
      simp [goes]

theorem withCauses_append (held js ks : List Judgement) : withCauses held (js ++ ks) = withCauses (withCauses held js) ks :=
  List.foldl_append

theorem judgeNotes_append (l : Lane) (held js ks : List Judgement) :
    judgeNotes l held (js ++ ks) = judgeNotes l held js ++ judgeNotes l (withCauses held js) ks := by
  induction js generalizing held with
  | nil => rfl
  | cons j js ih => exact (congrArg (_ ++ ·) (ih (withCause held j))).trans (List.append_assoc _ _ _).symm

/-- A lane's work adds these causes, with the note of each that joins. -/
structure LaneWork.Adds (l : Lane) (w v : LaneWork) (js : List Judgement) : Prop where
  held : v.ctx.judgements = withCauses w.ctx.judgements js
  notes : v.judges = w.judges ++ judgeNotes l w.ctx.judgements js

section
variable {l : Lane} {u v w : LaneWork} {js ks : List Judgement}

theorem LaneWork.Adds.of_same (judgements : v.ctx.judgements = w.ctx.judgements) (judges : v.judges = w.judges) :
    LaneWork.Adds l w v [] :=
  ⟨judgements, judges.trans (List.append_nil _).symm⟩

theorem LaneWork.Adds.trans (h : LaneWork.Adds l w v js) (k : LaneWork.Adds l v u ks) : LaneWork.Adds l w u (js ++ ks) :=
  ⟨by rw [k.held, h.held, withCauses_append], by rw [k.notes, h.notes, h.held, judgeNotes_append, List.append_assoc]⟩

theorem LaneWork.judge_adds (w : LaneWork) (l : Lane) (j : Judgement) : LaneWork.Adds l w (w.judge l j) [j] := by
  unfold LaneWork.judge
  by_cases holds : holdsCause j w.ctx.judgements = true
  · have joins : withCause w.ctx.judgements j = w.ctx.judgements := if_pos holds
    rw [if_pos holds]
    refine ⟨joins.symm, ?_⟩
    have silent : judgeNotes l w.ctx.judgements [j] = [] := congrArg (· ++ []) (if_pos holds)
    rw [silent, List.append_nil]
  · have joins : withCause w.ctx.judgements j = insertJudgement j w.ctx.judgements :=
      (if_neg holds).trans (insertJudgement_eq j _).symm
    rw [if_neg holds]
    refine ⟨joins.symm, ?_⟩
    have speaks : judgeNotes l w.ctx.judgements [j] = [.judge l j ((withCause w.ctx.judgements j).headD j)
        (withCause w.ctx.judgements j).length] := congrArg (· ++ []) (if_neg holds)
    rw [speaks, joins]

end

/-! #### Work without walls or finals -/

theorem LaneWork.OnlySettles.reports {w v : LaneWork} (h : w.OnlySettles v) : v.reports = w.walls ++ w.finishes ++ v.judges := by
  rw [LaneWork.reports, h]

/-- What judging leaves of the context. -/
theorem LaneWork.OnlyJudges.ctx {w v : LaneWork} (h : w.OnlyJudges v) :
    v.ctx = { w.ctx with judgements := v.ctx.judgements } := congrArg LaneWork.ctx h

section
variable {s t : State}

/-- The items of a lane that its auto fields show. -/
structure LaneContext.SameShown (c d : LaneContext) : Prop where
  status : d.status = c.status
  resolved : d.resolved = c.resolved
  final : d.final = c.final
  judgements : d.judgements = c.judgements

/-- Nothing of the board follows when nothing it shows has changed. -/
theorem State.boardFollows_of_shown (board : t.board = s.board) (shown : ∀ l, (s.context l).SameShown (t.context l))
    (results : t.results = s.results) (race : t.race = s.race) (clock : t.clock = s.clock) (program : t.program = s.program) :
    s.BoardFollows t := by
  have still (l : Lane) : s.autoChanged t l = false := by
    simp [State.autoChanged, (shown l).status, (shown l).resolved, (shown l).final, (shown l).judgements, results]
  refine ⟨(State.BoardWork.of_board board).boardShows still (fun fits => ?_) fun _ => iff_of_false id ?_,
    State.freezeFollows_of_kept race (fun l => (shown l).final) (by rw [board]) (by rw [board])⟩
  · exact (congrArg Board.map board).trans (Eq.trans fits (State.mapNow_congr (by rw [board]) (by rw [race]) results program).symm)
  · rintro (phase | freeze | ⟨clear, gone⟩ | ⟨-, -, heads⟩)
    · exact phase (by rw [clock])
    · exact freeze (by rw [board])
    · rw [board, clear] at gone
      cases gone
    · exact heads (by rw [results])

theorem State.boardFollows_of_same (board : t.board = s.board) (lanes : t.lanes = s.lanes) (results : t.results = s.results)
    (race : t.race = s.race) (clock : t.clock = s.clock) (program : t.program = s.program) : s.BoardFollows t := by
  refine State.boardFollows_of_shown board (fun l => ?_) results race clock program
  have context : t.context l = s.context l := congrArg (fun lanes : Vector LaneContext 10 => lanes[l]) lanes
  rw [context]
  exact ⟨rfl, rfl, rfl, rfl⟩

end

/-! #### Stuck pads (R50, R51) -/

section
variable {s : State} {l : Lane} {side : PoolEnd}

/-- The flag of a stuck pad, with its FAULT_NOTE. -/
def State.flagStuck (s : State) (l : Lane) (side : PoolEnd) : State :=
  (s.setLaneEnd l side { s.ports.laneEnd l side with stuck := true }).report (.fault (.padStuck l side) true)

theorem State.raiseStuck_of_race (running : s.race = .running) (inRace : s.inRace l = true) : s.raiseStuck l side =
    (s.flagStuck l side).commit l (((s.flagStuck l side).laneWork l).judge l (.padStuck side)) := if_pos ⟨running, inRace⟩

theorem State.raiseStuck_of_other (other : ¬ (s.race = .running ∧ s.inRace l = true)) : s.raiseStuck l side = s.flagStuck l side :=
  if_neg other

theorem State.secondRelease_of_releaseSeen {line : Line} (seen : s.ports.line line = .releaseSeen) :
    s.secondRelease line = s.recogniseRelease line := by
  simp only [State.secondRelease, seen]

theorem exec_stuckTimerExpiry (free : s.resetHeld = false) (due : s.stuckDue l side = true) :
    exec (.stuckTimerExpiry l side) s = .next (s.raiseStuck l side) :=
  congrArg Host.Outcome.next ((State.unlessHeld_of_free _ free).trans (if_pos due))

/-- The judgement of a stuck pad in a running race. -/
theorem State.raiseStuck_judges (running : s.race = .running) (inRace : s.inRace l = true) :
    (s.raiseStuck l side).context l =
        { s.context l with judgements := withCauses (s.context l).judgements [.padStuck side] }
      ∧ (s.raiseStuck l side).link = s.link.reported
          (.fault (.padStuck l side) true :: judgeNotes l (s.context l).judgements [.padStuck side]) := by
  have frame := ((s.flagStuck l side).laneWork l).judge_frame l (.padStuck side)
  have adds := ((s.flagStuck l side).laneWork l).judge_adds l (.padStuck side)
  rw [State.raiseStuck_of_race running inRace, State.commit_context_same, State.commit_link, frame.toOnlySettles.reports, adds.notes,
    frame.ctx, adds.held]
  exact ⟨rfl, rfl⟩

end

/-- Settles O30: a stuck pad is flagged and, in a running race, judged as `State.raiseStuck_judges` has it. -/
theorem stuckPads : Obligations.StuckPads := by
  refine ⟨fun s l side n free held limit unflagged => ?_, fun s l side early => ?_, fun s l side free seen => ?_,
    fun s l side b free seen => ?_, fun s free seen => ?_⟩
  · have due : s.stuckDue l side = true := by simp [State.stuckDue, held, limit, unflagged]
    have keeps := (s.raiseStuck_contained l side).eventKeeps (s.raiseStuck_frame l side)
    by_cases inside : s.race = .running ∧ s.inRace l = true
    · obtain ⟨running, inRace⟩ := inside
      obtain ⟨context, link⟩ := State.raiseStuck_judges (side := side) running inRace
      have holds := ((s.flagStuck l side).laneWork l).judge_holds l (.padStuck side)
      have is := State.raiseStuck_of_race (side := side) running inRace
      have frame := (s.flagStuck l side).commit_frame l (((s.flagStuck l side).laneWork l).judge l (.padStuck side))
      have here := (s.flagStuck l side).commit_context_same l (((s.flagStuck l side).laneWork l).judge l (.padStuck side))
      have others (m : Lane) := (s.flagStuck l side).commit_context_other (l := l) (m := m)
        (((s.flagStuck l side).laneWork l).judge l (.padStuck side))
      have follows := (s.flagStuck l side).commit_boardFollows l (((s.flagStuck l side).laneWork l).judge l (.padStuck side))
      rw [← is] at frame here others follows
      refine ⟨_, exec_stuckTimerExpiry free due, frame.ports, ?_, ?_, fun _ _ => context, fun other => absurd ⟨running, inRace⟩ other,
        fun _ _ => ?_, frame.race, frame.clock, frame.program, frame.log, frame.results, others, frame.takeoffs, follows, keeps⟩
      · rw [link, Link.reported_summary _ _ (by decide)]
        exact .inr ⟨_, List.mem_cons_self, rfl⟩
      · rw [link, if_pos ⟨running, inRace⟩]
      · rw [here]
        exact holds
    · rw [State.raiseStuck_of_other inside] at keeps
      refine ⟨_, (exec_stuckTimerExpiry free due).trans (congrArg _ (State.raiseStuck_of_other inside)), rfl, ?_, ?_,
        fun running inRace => absurd ⟨running, inRace⟩ inside, fun _ => rfl, fun running inRace => absurd ⟨running, inRace⟩ inside,
        rfl, rfl, rfl, rfl, rfl, fun _ _ => rfl, rfl, State.boardFollows_of_same rfl rfl rfl rfl rfl rfl, keeps⟩
      · rw [show (s.flagStuck l side).link = s.link.reported [.fault (.padStuck l side) true] from rfl,
          Link.reported_summary _ _ (by decide)]
        exact .inr ⟨_, List.mem_cons_self, rfl⟩
      · rw [if_neg inside]
        rfl
  · change Host.Outcome.next (if s.resetHeld then s else if s.stuckDue l side then s.raiseStuck l side else s) = _
    rw [early, if_neg Bool.false_ne_true, ite_self]
  · have release : exec (.lineRelease (.pad l side)) s = .next (s.releasePad l side) :=
      congrArg Host.Outcome.next ((State.unlessHeld_of_free _ free).trans
        (State.secondRelease_of_releaseSeen (line := .pad l side) seen))
    rw [release]
    unfold State.releasePad
    dsimp only
    split <;> rfl
  · exact congrArg Host.Outcome.next ((State.unlessHeld_of_free _ free).trans
      (State.secondRelease_of_releaseSeen (line := .button l side b) seen))
  · exact congrArg Host.Outcome.next ((State.unlessHeld_of_free _ free).trans
      (State.secondRelease_of_releaseSeen (line := .startLine) seen))

end Sys2Proof.Machine


/-! ### RACE_ARM (chapter 02, 2.4) -/

namespace Sys2Proof.Machine

/-! #### The start watches (R22) -/

section
variable {s : State} {p : Program}

theorem State.setStartWatch_channel (p : Program) (s : State) (k l : Lane) : (State.setStartWatch p s k).channel .start l =
    if (p.startKind = .platform ∧ p.inRace k = true) ∧ l = k then { s.channel .start l with watch := some 1 }
    else s.channel .start l := by
  unfold State.setStartWatch
  split
  · next platform =>
    by_cases here : l = k
    · subst here
      rw [if_pos ⟨platform, rfl⟩]
      simp [State.setWatch]
    · rw [if_neg fun h => here h.2, State.setWatch, State.channel_setChannel_other _ _ fun h => here h.2]
  · next other => rw [if_neg fun h => other h.1]

theorem State.setStartWatch_turn (p : Program) (s : State) (k : Lane) :
    (State.setStartWatch p s k).samplers.turn = s.samplers.turn := by
  unfold State.setStartWatch
  split <;> rfl

/-- The start watches of a list of lanes. -/
theorem State.setStartWatches_channel {ls : List Lane} (once : ls.Nodup) (s : State) (l : Lane) :
    (ls.foldl (State.setStartWatch p) s).channel .start l =
      if (p.startKind = .platform ∧ p.inRace l = true) ∧ l ∈ ls then { s.channel .start l with watch := some 1 }
      else s.channel .start l := by
  induction ls generalizing s with
  | nil => exact (if_neg fun h => List.not_mem_nil h.2).symm
  | cons k ls ih =>
    obtain ⟨fresh, once⟩ := List.nodup_cons.1 once
    rw [List.foldl_cons, ih once, State.setStartWatch_channel]
    by_cases here : l = k
    · subst here
      simp [fresh]
    · simp [here]

theorem State.setStartWatches_turn (p : Program) (ls : List Lane) (s : State) :
    (ls.foldl (State.setStartWatch p) s).samplers.turn = s.samplers.turn := by
  induction ls generalizing s with
  | nil => rfl
  | cons k ls ih => rw [List.foldl_cons, ih, State.setStartWatch_turn]

/-- The samplers after an arm. -/
theorem State.arm_samplers (program : s.program = some p) :
    (∀ l, s.arm.channel .start l = if p.startKind = .platform ∧ p.inRace l = true then
        { s.channel .start l with watch := some 1 } else s.channel .start l)
      ∧ s.arm.samplers.turn = s.samplers.turn := by
  have same := s.enter_samplers .armed ⟨.prestart, 0⟩
  unfold State.arm
  dsimp only
  rw [program]
  dsimp only
  generalize s.enter .armed ⟨.prestart, 0⟩ = t at same ⊢
  have channel (l : Lane) : t.channel .start l = s.channel .start l := by
    rw [State.channel, State.sampler, same]
    rfl
  refine ⟨fun l => ?_, (State.setStartWatches_turn p allLanes t).trans (by rw [same])⟩
  refine (State.setStartWatches_channel (ls := allLanes) (by decide) t l).trans ?_
  rw [channel]
  exact if_congr (and_iff_left (mem_allLanes l)) rfl rfl

/-! #### The board at an arm -/

theorem State.enter_cells (s : State) (race : RaceState) (clock : Clock) : (s.enter race clock).board.cells = s.board.cells := by
  have ended (t : State) : t.endFreeze.board.cells = t.board.cells := by
    obtain ⟨_, h⟩ | ⟨_, h⟩ := t.endFreeze_cases <;> rw [h]
  unfold State.enter
  dsimp only
  rw [State.recomputeMap_cells]
  by_cases running : race = .running
  · simp only [if_pos running]
    split <;> rfl
  · simp only [if_neg running]
    split <;> exact ended _

/-- An arm marks row 1 for the clock in PRESTART, from a state whose clock, freeze and map fit the race. -/
theorem State.enter_armed_board (loaded : s.race = .loaded) (fits : s.RaceFits) (map : s.MapFits) :
    (s.enter .armed ⟨.prestart, 0⟩).board = { s.board with dirty := s.board.dirty.set 1 true } := by
  obtain ⟨-, phase, -, -, -, -, freeze⟩ := fits
  have stopped : ¬ s.clock.phase = (⟨.prestart, 0⟩ : Clock).phase := by
    rw [phase, loaded]
    exact nofun
  have free : s.board.freeze = none := by
    cases frozen : s.board.freeze with
    | none => rfl
    | some f =>
      have running := freeze (by rw [frozen]; rfl)
      rw [loaded] at running
      cases running
  have thawed : State.endFreeze { s with race := .armed, clock := ⟨.prestart, 0⟩ } = { s with race := .armed, clock := ⟨.prestart, 0⟩ } :=
    if_neg (by rw [free]; exact Bool.false_ne_true)
  have fit : ({ s with race := .armed, clock := ⟨.prestart, 0⟩ } : State).markClockRow.MapFits :=
    Eq.trans map (State.mapNow_of_unended (s := s) (by rw [loaded]; decide)
      (t := ({ s with race := .armed, clock := ⟨.prestart, 0⟩ } : State).markClockRow) nofun).symm
  unfold State.enter
  dsimp only
  rw [if_neg stopped, if_neg nofun, thawed, State.recomputeMap_of_fits fit]
  rfl

/-- What an arm leaves, beside watches, board and link. -/
theorem State.arm_keeps (s : State) :
    s.arm.race = .armed ∧ s.arm.clock = ⟨.prestart, 0⟩ ∧ s.arm.source = s.source ∧ s.arm.overrun = s.overrun
      ∧ s.arm.ports = s.ports ∧ s.arm.lanes = s.lanes ∧ s.arm.startMark = s.startMark ∧ s.arm.results = s.results
      ∧ s.arm.log = s.log := by
  rw [State.arm_frame]
  exact ⟨s.enter_race _ _, s.enter_clock _ _, s.enter_source _ _, s.enter_overrun _ _, s.enter_ports _ _, s.enter_lanes _ _,
    s.enter_startMark _ _, s.enter_results _ _, s.enter_log _ _⟩

theorem State.arm_board (s : State) : s.arm.board = (s.enter .armed ⟨.prestart, 0⟩).board := by
  rw [State.arm_frame]
  rfl

theorem State.arm_mapFits (s : State) : s.arm.MapFits := by
  have fits := s.enter_mapFits .armed ⟨.prestart, 0⟩
  rw [State.arm_frame]
  exact fits

theorem State.arm_link (s : State) : s.arm.link = s.link.reported [.race .armed .loaded .arm s.eventId 0 s.source] := by
  have race := s.enter_race .armed ⟨.prestart, 0⟩
  have source := s.enter_source .armed ⟨.prestart, 0⟩
  have link := s.enter_link .armed ⟨.prestart, 0⟩
  rw [State.arm_frame]
  unfold State.raceNote State.report State.onLink
  dsimp only
  rw [race, source, link]
  rfl

/-! #### Groups in LEVEL mode (R21) -/

theorem State.levelInRace_iff (g : Group) : s.levelInRace g = true ↔ ∃ l, groupOf l = g ∧ s.inRace l = true ∧ s.ports.mode g = .level := by
  simp [State.levelInRace, mem_allLanes, and_assoc]

theorem groupOf_low {l : Lane} : groupOf l = .low ↔ l.val < 5 := by
  unfold groupOf
  split <;> simp [*]

theorem groupOf_high {l : Lane} : groupOf l = .high ↔ 5 ≤ l.val := by
  unfold groupOf
  split
  · next low => simp [low]
  · next high => exact iff_of_true rfl (Nat.not_lt.1 high)

/-- The two bits of the groups that keep the race from being armed. -/
theorem State.levelGroups_bits (s : State) : s.levelGroups < 4
    ∧ (BitVec.ofNat 8 s.levelGroups).toNat = s.levelGroups
    ∧ (BitVec.ofNat 8 s.levelGroups).getLsbD 0 = s.levelInRace .low
    ∧ (BitVec.ofNat 8 s.levelGroups).getLsbD 1 = s.levelInRace .high := by
  unfold State.levelGroups
  cases s.levelInRace .low <;> cases s.levelInRace .high <;> decide

theorem State.levelGroups_eq_zero : s.levelGroups = 0 ↔ ∀ l, s.inRace l = true → s.ports.laneMode l = .timed := by
  have zero : s.levelGroups = 0 ↔ s.levelInRace .low = false ∧ s.levelInRace .high = false := by
    unfold State.levelGroups
    cases s.levelInRace .low <;> cases s.levelInRace .high <;> decide
  rw [zero, Bool.eq_false_iff, Bool.eq_false_iff, ne_eq, ne_eq, State.levelInRace_iff, State.levelInRace_iff]
  constructor
  · rintro ⟨low, high⟩ l inRace
    rw [Ports.laneMode]
    cases group : groupOf l with
    | low =>
      cases mode : s.ports.mode .low with
      | timed => rfl
      | level => exact absurd ⟨l, group, inRace, mode⟩ low
    | high =>
      cases mode : s.ports.mode .high with
      | timed => rfl
      | level => exact absurd ⟨l, group, inRace, mode⟩ high
  · intro timed
    have none (g : Group) : ¬ ∃ l, groupOf l = g ∧ s.inRace l = true ∧ s.ports.mode g = .level := by
      rintro ⟨l, group, inRace, level⟩
      rw [← group] at level
      exact nomatch (timed l inRace).symm.trans level
    exact ⟨none .low, none .high⟩

theorem exec_raceArm (taken : s.Takes ⟨kindRaceArm, []⟩) : exec (.raceArm []) s = .next s.dropInbound.raceArm :=
  congrArg Host.Outcome.next (State.take_owner _ taken rfl)

end

/-- Settles O20: race state and clock by `State.enter`, the watches by `State.arm_samplers`. -/
theorem raceArming : Obligations.RaceArming := by
  refine ⟨fun s p taken program loaded timed => ?_, fun s taken => ⟨fun other => ?_, fun loaded level => ?_⟩⟩
  · have inRace (l : Lane) : s.inRace l = p.inRace l := by simp [State.inRace, program]
    have free : s.dropInbound.levelGroups = 0 := State.levelGroups_eq_zero.2 fun l inside => timed l (inRace l ▸ inside)
    have row : exec (.raceArm []) s = .next (s.dropInbound.arm.answer kindRaceArm .done []) := by
      rw [exec_raceArm taken, State.raceArm, if_pos (show s.dropInbound.race = .loaded from loaded), if_pos free]
    have event : s.dropInbound.eventId = p.eventId := by
      simp only [State.eventId, State.dropInbound_program, program]
    have only : s.dropInbound.OnlyRace s.dropInbound.arm := by
      rw [State.arm_frame]
      exact (s.dropInbound.enter_race_frame .armed ⟨.prestart, 0⟩).trans rfl
    have keeps := s.dropInbound.arm_contained.eventKeeps only
    have link := s.dropInbound.arm_link
    rw [event] at link
    obtain ⟨starts, turn⟩ := State.arm_samplers (s := s.dropInbound) program
    obtain ⟨race, clock, source, overrun, ports, lanes, mark, results, log⟩ := s.dropInbound.arm_keeps
    have board := s.dropInbound.arm_board
    have cells := congrArg Board.cells board
    have freeze := congrArg Board.freeze board
    have spent := congrArg Board.spent board
    rw [State.enter_cells] at cells
    rw [State.enter_freeze] at freeze
    rw [State.enter_spent] at spent
    have reported := State.answer_reported link kindRaceArm .done []
    refine ⟨_, row, race, clock, fun l platform => (starts l).trans (if_pos platform), fun l other => (starts l).trans (if_neg other),
      turn, only.program, source, overrun, ports, lanes, mark, results, log, keeps.answer only.takeoffs _ _ _, cells,
      s.dropInbound.arm_mapFits, freeze, spent, fun fits shows => board.trans (State.enter_armed_board loaded fits shows), ?_, reported⟩
    rw [reported]
    rfl
  · exact (exec_raceArm taken).trans (congrArg Host.Outcome.next (if_neg other))
  · obtain ⟨few, number, low, high⟩ := s.levelGroups_bits
    obtain ⟨l, inRace, level⟩ := level
    have some : ¬ s.levelGroups = 0 := fun zero => nomatch (State.levelGroups_eq_zero.1 zero l inRace).symm.trans level
    refine ⟨BitVec.ofNat 8 s.levelGroups, ?_, ?_, ?_, ?_⟩
    · rw [exec_raceArm taken, State.raceArm, if_pos (show s.dropInbound.race = .loaded from loaded),
        if_neg (show ¬ s.dropInbound.levelGroups = 0 from some), show s.dropInbound.race = .loaded from loaded]
      rfl
    · rw [number]
      exact few
    · rw [low, State.levelInRace_iff]
      simp only [groupOf_low]
      rfl
    · rw [high, State.levelInRace_iff]
      simp only [groupOf_high]
      rfl

end Sys2Proof.Machine


/-! ### A race taken off: RACE_RECALL, RACE_CLEAR, PROGRAM_LOAD (chapter 02, 2.3, 2.6, 2.8) -/

namespace Sys2Proof.Machine

/-! #### What a race taken off leaves -/

/-- What a race taken off leaves, beside fault, ports and reports. -/
structure State.TakesOff (s : State) (program : Option Program) (race : RaceState) (t : State) : Prop where
  race : t.race = race
  stored : t.program = program
  clock : t.clock = ⟨.stopped, 0⟩
  source : t.source = none
  contexts : ∀ l, t.context l = emptyContext program l
  channels : ∀ side l, t.channel side l = { s.channel side l with watch := none }
  results : t.results = Results.reset
  log : t.log = s.log
  takeoffs : t.takeoffs = s.takeoffs
  shows : s.BoardShows (fun _ => true) t
  freeze : t.board.freeze = none
  spent : t.board.spent = s.board.spent
  keeps : s.EventKeeps t

section
variable {s t u : State} {program : Option Program} {race : RaceState}

theorem Link.reported_sameButReports (k : Link) (rs : List Report) : k.SameButReports (k.reported rs) := by
  induction rs generalizing k with
  | nil => rfl
  | cons r rs ih =>
    have rest : (k.report r).SameButReports ((k.report r).reported rs) := ih (k.report r)
    unfold Link.SameButReports at rest ⊢
    exact rest

theorem Link.SameButReports.trans {k j i : Link} (h : k.SameButReports j) (after : j.SameButReports i) : k.SameButReports i := by
  unfold Link.SameButReports at *
  rw [after, h]

theorem Link.sameButReports_of_reported {k j : Link} {rs : List Report} (is : j = k.reported rs) : k.SameButReports j := by
  rw [is]
  exact k.reported_sameButReports rs

/-- What follows it on fault, ports and reports alone leaves it so. -/
theorem State.TakesOff.andThen (h : s.TakesOff program race t)
    (same : u = { t with overrun := u.overrun, ports := u.ports, link := u.link }) (link : s.link.SameButReports u.link) :
    s.TakesOff program race u := by
  obtain ⟨race, program, clock, source, contexts, channels, results, log, takeoffs, shows, freeze, spent, keeps⟩ := h
  obtain ⟨pending, held, zeroing, board, samplers, -⟩ := keeps
  rw [same]
  exact ⟨race, program, clock, source, contexts, channels, results, log, takeoffs, shows, freeze, spent,
    pending, held, zeroing, board, samplers, link⟩

/-- Work that keeps the board, the lanes and the results, after any other. -/
theorem State.BoardWork.andSame {written : Lane → Bool} {m : Prop} (h : s.BoardWork t written m) (board : u.board = t.board)
    (lanes : u.lanes = t.lanes) (results : u.results = t.results) : s.BoardWork u written m :=
  (h.andQuiet (State.BoardWork.of_board board) (fun _ => .inr (by rw [board])) lanes results).congr (fun _ => rfl) (iff_of_eq (or_false _))

theorem State.writeAllAuto_boardWork (s : State) : s.BoardWork s.writeAllAuto (fun _ => true) False :=
  (State.writeAuto_writesAuto.boardWork (ls := allLanes) (by decide) s).congr (fun l => (decide_eq_true (mem_allLanes l)).symm) Iff.rfl

/-- The state in which a race taken off has its auto fields blanked. -/
def State.emptied (s : State) (race : RaceState) : State :=
  (((({ s with source := none, startMark := none } : State).enter race ⟨.stopped, 0⟩).mapLanes
    fun l _ => emptyContext s.program l).endWatches).discardResults

theorem State.discardRace_eq (s : State) (race : RaceState) :
    s.discardRace race = (s.emptied race).writeAllAuto.onPorts Ports.darkenTimed := rfl

theorem State.emptied_board (s : State) (race : RaceState) : (s.emptied race).board =
    (({ s with source := none, startMark := none } : State).enter race ⟨.stopped, 0⟩).board := by
  unfold State.emptied
  rw [State.discardResults_board]
  rfl

theorem State.discardRace_boardWork (s : State) (leaves : race ≠ .running) : s.BoardWork (s.discardRace race) (fun _ => true)
    (s.board.freeze ≠ none ∨ s.clock.phase ≠ .stopped) := by
  have entered := State.enter_boardWork { s with source := none, startMark := none } race ⟨.stopped, 0⟩
  have board := s.emptied_board race
  rw [State.discardRace_eq]
  generalize s.emptied race = t at board ⊢
  generalize State.enter { s with source := none, startMark := none } race ⟨.stopped, 0⟩ = e at entered board
  have emptied : s.BoardWork t (fun _ => false) (s.board.freeze ≠ none ∨ s.clock.phase ≠ .stopped) := by
    have unstarted : s.BoardWork { s with source := none, startMark := none } (fun _ => false) False := .of_board rfl
    have begun := unstarted.quietAnd entered fun _ => .inl rfl
    have rest : e.BoardWork t (fun _ => false) False := .of_board board
    refine (begun.quietAnd rest fun _ => .inr (by rw [board])).congr (fun _ => rfl) ?_
    simp [leaves]
  have frame := t.writeAllAuto_frame
  exact ((emptied.quietAnd t.writeAllAuto_boardWork fun _ => .inr frame.board_map).congr (fun _ => rfl) (iff_of_eq (or_false _))).andSame
    rfl rfl rfl

theorem State.discardRace_spent (s : State) (race : RaceState) : (s.discardRace race).board.spent = s.board.spent := by
  have board := congrArg Board.spent (s.emptied_board race)
  rw [State.enter_spent] at board
  exact ((State.writeAllAuto_frame _).board_spent).trans board

theorem State.discardRace_log (s : State) (race : RaceState) : (s.discardRace race).log = s.log := by
  have same : (s.emptied race).log = s.log := by
    unfold State.emptied
    rw [(State.discardResults_frame _).log]
    exact State.enter_log _ _ _
  exact (State.writeAllAuto_frame _).log.trans same

theorem State.discardRace_channel (s : State) (race : RaceState) (side : PoolEnd) (l : Lane) :
    (s.discardRace race).channel side l = { s.channel side l with watch := none } := by
  have samplers : (s.discardRace race).samplers = s.endWatches.samplers := by
    have same : (s.emptied race).samplers = s.endWatches.samplers := by
      unfold State.emptied
      rw [(State.discardResults_frame _).samplers]
      have kept := State.enter_samplers { s with source := none, startMark := none } race ⟨.stopped, 0⟩
      generalize State.enter { s with source := none, startMark := none } race ⟨.stopped, 0⟩ = e at kept ⊢
      exact congrArg (fun m => (State.endWatches { s with samplers := m }).samplers) kept
    exact (State.writeAllAuto_frame _).samplers.trans same
  refine Eq.trans ?_ (s.endWatches_channel side l)
  unfold State.channel State.sampler
  rw [samplers]

/-- Lamps of TIMED groups OFF, everything else of the lane ports kept (R46). -/
theorem State.discardRace_ports (s : State) (race : RaceState) : (s.discardRace race).ports = s.ports.darkenTimed := by
  have same : (s.emptied race).ports = s.ports := by
    have kept (t : State) : t.discardResults.ports = t.ports := by
      unfold State.discardResults
      dsimp only
      split <;> rfl
    unfold State.emptied
    rw [kept]
    exact State.enter_ports _ _ _
  exact congrArg Ports.darkenTimed ((State.writeAllAuto_frame _).ports.trans same)

theorem State.discardRace_link (s : State) (race : RaceState) : (s.discardRace race).link = s.link.reported s.discardNotes := by
  have discards (t : State) : t.discardResults.link = t.link.reported t.discardNotes := by
    unfold State.discardResults State.discardNotes
    cases t.results.order <;> rfl
  have same : (s.emptied race).link = s.link.reported s.discardNotes := by
    have results := State.enter_results { s with source := none, startMark := none } race ⟨.stopped, 0⟩
    have link := State.enter_link { s with source := none, startMark := none } race ⟨.stopped, 0⟩
    unfold State.emptied
    rw [discards]
    generalize State.enter { s with source := none, startMark := none } race ⟨.stopped, 0⟩ = e at results link ⊢
    have notes : ((e.mapLanes fun l _ => emptyContext s.program l).endWatches).discardNotes = s.discardNotes := by
      change (if e.results.order = [] then [] else [Report.rank []]) = _
      rw [results]
      rfl
    rw [notes]
    exact congrArg (Link.reported · s.discardNotes) link
  exact (State.writeAllAuto_frame _).link.trans same

theorem State.discardRace_takesOff (s : State) (program : Option Program) (taken : race = .loaded ∨ race = .empty) :
    s.TakesOff program race (State.discardRace { s with program } race) := by
  have leaves : race ≠ .running := by obtain rfl | rfl := taken <;> decide
  have unended : race.over = false := by obtain rfl | rfl := taken <;> rfl
  obtain ⟨source, -, freeze⟩ := State.discardRace_items { s with program } leaves
  obtain ⟨contexts, results⟩ := State.discardRace_ranking { s with program } race
  have frame := State.discardRace_frame { s with program } race
  have is := State.discardRace_race { s with program } race
  have clock := State.discardRace_clock { s with program } race
  have log := State.discardRace_log { s with program } race
  have channels := State.discardRace_channel { s with program } race
  have spent := State.discardRace_spent { s with program } race
  have fits := State.discardRace_mapFits { s with program } taken
  have keeps := (State.discardRace_contained { s with program } race).eventKeeps frame
  have stored : s.BoardWork { s with program } (fun _ => false) False := .of_board rfl
  have work := stored.quietAnd (State.discardRace_boardWork { s with program } leaves) fun _ => .inl rfl
  have kept := frame.program
  have takeoffs := frame.takeoffs
  generalize State.discardRace { s with program } race = t at *
  refine ⟨is, kept, clock, source, contexts, channels, results, log, takeoffs,
    work.boardShows (fun _ => rfl) (fun _ => fits) fun _ => ?_, freeze, spent, keeps⟩
  unfold State.MarksClockRow
  rw [clock, freeze, spent, is, unended]
  cases s.board.spent <;> simp [or_comm]

/-! #### Stuck pads under another limit (R11, R50) -/

/-- The stuck flag of a pad under a limit. -/
def LaneEnd.flagged (limit : Nat) (e : LaneEnd) : LaneEnd := { e with stuck := e.stuck || e.held.any fun n => decide (limit ≤ n) }

/-- A pad held past the limit whose fault is not raised. -/
def LaneEnd.overdue (limit : Nat) (e : LaneEnd) : Bool := e.held.any (fun n => decide (limit ≤ n)) && !e.stuck

theorem State.stuckDue_eq (s : State) (l : Lane) (side : PoolEnd) :
    s.stuckDue l side = (s.ports.laneEnd l side).overdue s.stuckLimit := by
  unfold State.stuckDue LaneEnd.overdue
  dsimp only
  split
  · next n held => rw [held, Option.any_some]
  · next held => rw [held, Option.any_none, Bool.false_and]

theorem LaneEnd.flagged_of_not_overdue {limit : Nat} {e : LaneEnd} (early : e.overdue limit = false) : e.flagged limit = e := by
  unfold LaneEnd.overdue at early
  unfold LaneEnd.flagged
  obtain ⟨pad, buttons, held, stuck, lamp, padOn, buttonsOn⟩ := e
  cases stuck <;> simp_all

theorem LaneEnd.flagged_of_overdue {limit : Nat} {e : LaneEnd} (due : e.overdue limit = true) :
    e.flagged limit = { e with stuck := true } := by
  unfold LaneEnd.overdue at due
  unfold LaneEnd.flagged
  rw [(Bool.and_eq_true_iff.1 due).1, Bool.or_true]

/-- Lane ends in the order in which a new limit is tested: in lane order, START before TURN. -/
def laneEndOrder : List (Lane × PoolEnd) := allLanes.flatMap fun l => [(l, .start), (l, .turn)]

/-- The flags of these lane ends are set under the limit in force, with their notes; nothing else changes. -/
structure State.Flags (s t : State) (at_ : List (Lane × PoolEnd)) : Prop where
  only : t = { s with ports := { s.ports with lanes := t.ports.lanes }, link := t.link }
  ends : ∀ l side, t.ports.laneEnd l side =
    if (l, side) ∈ at_ then (s.ports.laneEnd l side).flagged s.stuckLimit else s.ports.laneEnd l side
  link : t.link = s.link.reported ((at_.filter fun x => (s.ports.laneEnd x.1 x.2).overdue s.stuckLimit).map
    fun x => .fault (.padStuck x.1 x.2) true)

/-- One lane end outside a running race. -/
theorem State.raiseStuckIfDue_flags (s : State) (quiet : s.race ≠ .running) (l : Lane) (side : PoolEnd) :
    s.Flags (s.raiseStuckIfDue l side) [(l, side)] := by
  unfold State.raiseStuckIfDue
  rw [State.stuckDue_eq]
  by_cases due : (s.ports.laneEnd l side).overdue s.stuckLimit = true
  · rw [if_pos due, State.raiseStuck_of_other fun h => quiet h.1]
    refine ⟨rfl, fun m other => ?_, ?_⟩
    · change (s.ports.setLaneEnd l side { s.ports.laneEnd l side with stuck := true }).laneEnd m other = _
      by_cases here : m = l ∧ other = side
      · obtain ⟨rfl, rfl⟩ := here
        rw [Ports.laneEnd_setLaneEnd_same, if_pos (List.mem_singleton.2 rfl), LaneEnd.flagged_of_overdue due]
      · rw [Ports.laneEnd_setLaneEnd_other _ _ here, if_neg fun h => here (Prod.mk.inj (List.mem_singleton.1 h))]
    · rw [List.filter_cons_of_pos (a := (l, side)) (p := fun x : Lane × PoolEnd => (s.ports.laneEnd x.1 x.2).overdue s.stuckLimit) due]
      rfl
  · rw [if_neg due]
    refine ⟨rfl, fun m other => ?_, ?_⟩
    · by_cases here : m = l ∧ other = side
      · obtain ⟨rfl, rfl⟩ := here
        rw [LaneEnd.flagged_of_not_overdue (Bool.eq_false_iff.2 due), ite_self]
      · rw [if_neg fun h => here (Prod.mk.inj (List.mem_singleton.1 h))]
    · rw [List.filter_cons_of_neg (a := (l, side)) (p := fun x : Lane × PoolEnd => (s.ports.laneEnd x.1 x.2).overdue s.stuckLimit) due]
      rfl

/-- The lane ends of a list, each once. -/
theorem State.raiseStucks_flags {at_ : List (Lane × PoolEnd)} (once : at_.Nodup) (s : State) (quiet : s.race ≠ .running) :
    s.Flags (at_.foldl (fun t x => t.raiseStuckIfDue x.1 x.2) s) at_ := by
  induction at_ generalizing s with
  | nil => exact ⟨rfl, fun _ _ => rfl, rfl⟩
  | cons x at_ ih =>
    obtain ⟨fresh, once⟩ := List.nodup_cons.1 once
    obtain ⟨only, ends, link⟩ := s.raiseStuckIfDue_flags quiet x.1 x.2
    have limit : (s.raiseStuckIfDue x.1 x.2).stuckLimit = s.stuckLimit := by
      rw [only]
      rfl
    obtain ⟨only', ends', link'⟩ := ih once (s.raiseStuckIfDue x.1 x.2) (by rw [only]; exact quiet)
    refine ⟨?_, fun l side => ?_, ?_⟩
    · rw [List.foldl_cons, only']
      rw [only]
    · rw [List.foldl_cons, ends', limit, ends]
      by_cases here : (l, side) = x
      · rw [here] at *
        simp [fresh]
      · simp [here]
    · have later : at_.filter (fun y => ((s.raiseStuckIfDue x.1 x.2).ports.laneEnd y.1 y.2).overdue s.stuckLimit)
          = at_.filter fun y => (s.ports.laneEnd y.1 y.2).overdue s.stuckLimit := by
        refine List.filter_congr fun y among => ?_
        have away : ¬ (y.1, y.2) ∈ [(x.1, x.2)] := fun h => fresh ((show y = x from List.mem_singleton.1 h) ▸ among)
        rw [ends, if_neg away]
      rw [List.foldl_cons, link', limit, later, link, ← Link.reported_append, ← List.map_append, ← List.filter_append]
      rfl

theorem State.raiseAllStuck_flags (s : State) (quiet : s.race ≠ .running) : s.Flags s.raiseAllStuck laneEndOrder := by
  have order : s.raiseAllStuck = laneEndOrder.foldl (fun t x => t.raiseStuckIfDue x.1 x.2) s := by
    rw [laneEndOrder, List.foldl_flatMap]
    rfl
  rw [order]
  exact State.raiseStucks_flags (by decide) s quiet

theorem mem_laneEndOrder (l : Lane) (side : PoolEnd) : (l, side) ∈ laneEndOrder := by
  refine List.mem_flatMap.2 ⟨l, mem_allLanes l, ?_⟩
  cases side <;> simp

theorem State.stuckNotes_eq (s : State) (limit : Nat) : s.stuckNotes limit =
    (laneEndOrder.filter fun x => (s.ports.laneEnd x.1 x.2).overdue limit).map fun x => .fault (.padStuck x.1 x.2) true := by
  rw [laneEndOrder, List.filter_flatMap, List.map_flatMap, List.flatMap_def, State.stuckNotes]
  refine congrArg List.flatten (List.map_congr_left fun l _ => ?_)
  have sides : [(l, PoolEnd.start), (l, .turn)] = [PoolEnd.start, .turn].map fun side => (l, side) := rfl
  rw [sides, List.filter_map, List.map_map]
  rfl

/-! #### The lane ports of a race taken off -/

theorem Ports.darkenTimed_laneEnd (p : Ports) (l : Lane) (side : PoolEnd) : p.darkenTimed.laneEnd l side =
    { p.laneEnd l side with lamp := if p.laneMode l = .timed then .off else (p.laneEnd l side).lamp } := by
  rw [Ports.darkenTimed, Ports.laneEnd_mapLaneEnds]
  cases p.laneMode l <;> rfl

theorem State.discardRace_portsButLamps (s : State) (race : RaceState) : s.PortsButLamps (s.discardRace race) := by
  unfold State.PortsButLamps
  rw [State.discardRace_ports]
  exact ⟨rfl, fun l side => by rw [Ports.darkenTimed_laneEnd]⟩

theorem State.discardRace_lamp (s : State) (race : RaceState) (l : Lane) (side : PoolEnd) :
    ((s.discardRace race).ports.laneEnd l side).lamp =
      if s.ports.laneMode l = .timed then .off else (s.ports.laneEnd l side).lamp := by
  rw [State.discardRace_ports, Ports.darkenTimed_laneEnd]

/-! #### A race taken off with its program (R20, R34) -/

/-- The limit in force under a program or none. -/
def limitUnder (program : Option Program) : Nat := (program.map Program.stuckLimit).getD 100000

theorem State.stuckLimit_eq (s : State) : s.stuckLimit = limitUnder s.program := by
  unfold State.stuckLimit
  split <;> next is => rw [is]; rfl

/-- The race taken off under another program: fault and stuck pads after the rest. -/
def State.changeProgram (s : State) (program : Option Program) (race : RaceState) : State :=
  (State.discardRace { s with program } race).clearOverrun.raiseAllStuck

theorem State.storeProgram_eq (s : State) (p : Program) :
    s.storeProgram p = (s.changeProgram (some p) .loaded).raceNote s.race .load p.eventId 0 := rfl

theorem State.removeProgram_eq (s : State) :
    s.removeProgram = (s.changeProgram none .empty).raceNote s.race .clear s.eventId 0 := rfl

theorem State.clearOverrun_eq (s : State) : s.clearOverrun = { s with overrun := false, link := s.link.reported s.overrunNotes } := by
  unfold State.clearOverrun State.overrunNotes
  cases fault : s.overrun with
  | true => rfl
  | false =>
    change s = { s with overrun := false }
    rw [← fault]

/-- What the change of program leaves of ports, fault and reports. -/
structure State.ChangesProgram (s : State) (limit : Nat) (t : State) : Prop where
  overrun : t.overrun = false
  ends : ∀ l side, t.ports.laneEnd l side = (s.ports.darkenTimed.laneEnd l side).flagged limit
  groups : t.ports = { s.ports with lanes := t.ports.lanes }
  link : t.link = s.link.reported (s.discardNotes ++ s.overrunNotes ++ s.stuckNotes limit)

theorem State.changeProgram_does (s : State) (program : Option Program) {race : RaceState} (taken : race = .loaded ∨ race = .empty) :
    s.TakesOff program race (s.changeProgram program race) ∧ s.ChangesProgram (limitUnder program) (s.changeProgram program race) := by
  have off := s.discardRace_takesOff program taken
  have fault : (State.discardRace { s with program } race).overrun = s.overrun := (State.discardRace_items { s with program }
    (by obtain rfl | rfl := taken <;> decide)).2.1
  have ports := State.discardRace_ports { s with program } race
  have link := State.discardRace_link { s with program } race
  unfold State.changeProgram
  generalize State.discardRace { s with program } race = t at *
  have cleared := t.clearOverrun_eq
  have quiet : t.clearOverrun.race ≠ .running := by
    rw [cleared]
    change t.race ≠ _
    rw [off.race]
    obtain rfl | rfl := taken <;> decide
  have limit : t.clearOverrun.stuckLimit = limitUnder program := by
    rw [State.stuckLimit_eq, cleared]
    exact congrArg limitUnder off.stored
  obtain ⟨same, ends, notes⟩ := State.raiseAllStuck_flags t.clearOverrun quiet
  rw [limit] at ends notes
  generalize t.clearOverrun.raiseAllStuck = u at *
  rw [cleared] at same ends notes
  have flagged (l : Lane) (side : PoolEnd) : u.ports.laneEnd l side = (s.ports.darkenTimed.laneEnd l side).flagged (limitUnder program) := by
    rw [ends, if_pos (mem_laneEndOrder l side)]
    exact congrArg (fun p : Ports => (p.laneEnd l side).flagged (limitUnder program)) ports
  have reported : u.link = s.link.reported (s.discardNotes ++ s.overrunNotes ++ s.stuckNotes (limitUnder program)) := by
    have overdue (l : Lane) (side : PoolEnd) : (t.ports.laneEnd l side).overdue (limitUnder program) =
        (s.ports.laneEnd l side).overdue (limitUnder program) := by
      rw [ports]
      change (s.ports.darkenTimed.laneEnd l side).overdue (limitUnder program) = _
      rw [Ports.darkenTimed_laneEnd]
      rfl
    have faults : t.overrunNotes = s.overrunNotes := by rw [State.overrunNotes, fault, State.overrunNotes]
    rw [notes, State.stuckNotes_eq, Link.reported_append, Link.reported_append]
    simp only [overdue]
    rw [faults, link]
    rfl
  refine ⟨off.andThen (by rw [same]) (Link.sameButReports_of_reported reported), by rw [same], flagged, ?_, reported⟩
  rw [same]
  change { t.ports with lanes := u.ports.lanes } = _
  rw [ports]
  rfl

end

/-! #### O22, O25 and O17 -/

section
variable {s : State}

theorem exec_raceRecall (taken : s.Takes ⟨kindRaceRecall, []⟩) : exec (.raceRecall []) s = .next s.dropInbound.raceRecall :=
  congrArg Host.Outcome.next (State.take_owner _ taken rfl)

theorem exec_raceClear (taken : s.Takes ⟨kindRaceClear, []⟩) : exec (.raceClear []) s = .next s.dropInbound.raceClear :=
  congrArg Host.Outcome.next (State.take_owner _ taken rfl)

/-- The RACE_NOTE of a race taken off follows its other reports. -/
theorem State.raceNote_reported {t : State} {rs : List Report} (link : t.link = s.link.reported rs) {race : RaceState}
    (is : t.race = race) (source : t.source = none) (previous : RaceState) (cause : RaceCause) (event clock : Nat) :
    (t.raceNote previous cause event clock).link = s.link.reported (rs ++ [.race race previous cause event clock none]) := by
  rw [Link.reported_append, ← link, ← is, ← source]
  rfl

theorem State.TakesOff.raceNote {t : State} {program : Option Program} {race : RaceState} (h : s.TakesOff program race t)
    (previous : RaceState) (cause : RaceCause) (event clock : Nat) : s.TakesOff program race (t.raceNote previous cause event clock) := by
  refine h.andThen rfl ?_
  obtain ⟨-, -, -, -, -, link⟩ := h.keeps
  exact link.trans (t.link.reported_sameButReports [.race t.race previous cause event clock t.source])

end

/-- Settles O22, from `State.discardRace_takesOff`. -/
theorem raceRecalled : Obligations.RaceRecalled := by
  refine ⟨fun s p taken program underWay => ?_, fun s taken armed running => ?_⟩
  · have row : exec (.raceRecall []) s = .next (s.dropInbound.recall.answer kindRaceRecall .done []) :=
      (exec_raceRecall taken).trans (congrArg Host.Outcome.next (if_pos ((RaceState.isUnderWay_iff s.race).2 underWay)))
    have same : ({ s.dropInbound with program := some p } : State) = s.dropInbound := by rw [← program]; rfl
    have event : s.dropInbound.eventId = p.eventId := by
      simp only [State.eventId, State.dropInbound_program, program]
    have off := s.dropInbound.discardRace_takesOff (some p) (.inl rfl)
    rw [same] at off
    have fault := (s.dropInbound.discardRace_items (race := .loaded) nofun).2.1
    have lamps := s.dropInbound.discardRace_lamp .loaded
    have ports := s.dropInbound.discardRace_portsButLamps .loaded
    have link := State.raceNote_reported (s.dropInbound.discardRace_link .loaded) off.race off.source s.race .recall p.eventId 0
    unfold State.recall at row
    rw [event] at row
    have noted := off.raceNote s.race .recall p.eventId 0
    generalize s.dropInbound.discardRace .loaded = t at *
    refine ⟨_, row, noted.race, noted.clock, noted.source, noted.stored.trans program.symm, noted.log, fault, noted.contexts,
      noted.channels, noted.results, lamps, noted.shows, noted.freeze, noted.spent, ports, noted.keeps.answer noted.takeoffs _ _ _,
      State.answer_reported link _ _ _⟩
  · exact (exec_raceRecall taken).trans (congrArg Host.Outcome.next
      (if_neg (Bool.eq_false_iff.1 (RaceState.isUnderWay_eq_false armed running))))

/-- What a change of program leaves of a lane end beside its lamp. -/
theorem LaneEnd.of_changed {p : Ports} {limit : Nat} {l : Lane} {side : PoolEnd} {e : LaneEnd}
    (is : e = (p.darkenTimed.laneEnd l side).flagged limit) :
    e.padOn = (p.laneEnd l side).padOn ∧ e.buttonsOn = (p.laneEnd l side).buttonsOn
      ∧ (e.stuck = true ↔ (p.laneEnd l side).stuck = true ∨ ∃ n, (p.laneEnd l side).held = some n ∧ limit ≤ n) := by
  rw [is, Ports.darkenTimed_laneEnd]
  refine ⟨rfl, rfl, ?_⟩
  simp [LaneEnd.flagged, Option.any_eq_true]

/-- Settles O25, from `State.changeProgram_does`. -/
theorem raceCleared : Obligations.RaceCleared := by
  refine ⟨fun s taken ended => ?_, fun s taken empty => ?_, fun s taken underWay => ?_⟩
  · have still : s.dropInbound.race.isUnderWay = false := by
      change s.race.isUnderWay = false
      obtain h | h | h := ended <;> rw [h] <;> rfl
    have held : ¬ s.dropInbound.race = .empty := by
      change ¬ s.race = .empty
      obtain h | h | h := ended <;> rw [h] <;> decide
    have row : exec (.raceClear []) s = .next (s.dropInbound.removeProgram.answer kindRaceClear .done []) := by
      rw [exec_raceClear taken, State.raceClear, if_neg (Bool.eq_false_iff.1 still), if_neg held]
    have event : s.dropInbound.eventId = (s.program.map Program.eventId).getD 0 := by
      unfold State.eventId
      rw [State.dropInbound_program]
      split <;> next is => rw [is]; rfl
    rw [State.removeProgram_eq, event] at row
    obtain ⟨off, ⟨fault, ends, groups, link⟩⟩ := s.dropInbound.changeProgram_does none (.inr rfl)
    have link := State.raceNote_reported link off.race off.source s.race .clear ((s.program.map Program.eventId).getD 0) 0
    have noted := off.raceNote s.race .clear ((s.program.map Program.eventId).getD 0) 0
    generalize s.dropInbound.changeProgram none .empty = t at *
    refine ⟨_, row, noted.race, noted.stored, noted.clock, noted.source, fault, noted.contexts, noted.channels, noted.results,
      fun l side => ?_, fun l side => ?_, ?_, ?_, ?_, noted.log, noted.shows, noted.freeze, noted.spent,
      noted.keeps.answer noted.takeoffs _ _ _, State.answer_reported link _ _ _⟩
    · exact (congrArg LaneEnd.lamp (ends l side)).trans (congrArg LaneEnd.lamp (s.ports.darkenTimed_laneEnd l side))
    · exact LaneEnd.of_changed (ends l side)
    · change t.ports.low = s.dropInbound.ports.low
      rw [groups]
    · change t.ports.high = s.dropInbound.ports.high
      rw [groups]
    · exact (State.stuckLimit_eq _).trans (congrArg limitUnder noted.stored)
  · have calm : ¬ s.race.isUnderWay = true := by
      rw [empty]
      decide
    exact (exec_raceClear taken).trans (congrArg Host.Outcome.next (by
      rw [State.raceClear, if_neg (show ¬ s.dropInbound.race.isUnderWay = true from calm), if_pos (show s.dropInbound.race = .empty from empty)]
      rfl))
  · exact (exec_raceClear taken).trans (congrArg Host.Outcome.next (if_pos ((RaceState.isUnderWay_iff s.race).2 underWay)))

/-- Settles O17, from `State.changeProgram_does`. -/
theorem programLoadStores : Obligations.ProgramLoadStores := by
  intro s payload taken length armed running good
  have free : s.dropInbound.race.isUnderWay = false := RaceState.isUnderWay_eq_false armed running
  have flag : [boolCode (clampedFlag payload)] = [if storedProgram payload = recordOf payload then 0 else 1] := by
    unfold clampedFlag
    by_cases same : storedProgram payload = recordOf payload <;> simp [same, boolCode]
  have row : exec (.programLoad payload) s = .next ((s.dropInbound.storeProgram (storedProgram payload)).answer
      kindProgramLoad .done [if storedProgram payload = recordOf payload then 0 else 1]) := by
    rw [exec_programLoad taken length, State.programLoad_of_good free good, flag]
  rw [State.storeProgram_eq] at row
  obtain ⟨off, ⟨fault, ends, groups, link⟩⟩ := s.dropInbound.changeProgram_does (some (storedProgram payload)) (.inl rfl)
  generalize storedProgram payload = p at *
  have link := State.raceNote_reported link off.race off.source s.race .load p.eventId 0
  have noted := off.raceNote s.race .load p.eventId 0
  generalize s.dropInbound.changeProgram (some p) .loaded = t at *
  refine ⟨_, p, row, rfl, noted.stored, noted.race, noted.clock, noted.source, fault, noted.contexts, noted.channels,
    noted.results, fun l side => ?_, fun l side => LaneEnd.of_changed (ends l side), ?_, ?_, noted.log, noted.shows, noted.freeze,
    noted.spent, noted.keeps.answer noted.takeoffs _ _ _, State.answer_reported link _ _ _⟩
  · exact (congrArg LaneEnd.lamp (ends l side)).trans (congrArg LaneEnd.lamp (s.ports.darkenTimed_laneEnd l side))
  · change t.ports.low = s.dropInbound.ports.low
    rw [groups]
  · change t.ports.high = s.dropInbound.ports.high
    rw [groups]

end Sys2Proof.Machine


/-! ### What a lane's work settles, judges and expects (chapters 05 to 08) -/

namespace Sys2Proof.Machine

section
variable {w v u : LaneWork} {env : LaneEnv} {l : Lane} {j : Judgement}

/-! #### Judging -/

@[simp] theorem LaneWork.judge_legs : (w.judge l j).ctx.legs = w.ctx.legs := by rw [LaneWork.judge_frame]
@[simp] theorem LaneWork.judge_takeoff : (w.judge l j).ctx.takeoff = w.ctx.takeoff := by rw [LaneWork.judge_frame]
@[simp] theorem LaneWork.judge_reaction : (w.judge l j).ctx.reaction = w.ctx.reaction := by rw [LaneWork.judge_frame]
@[simp] theorem LaneWork.judge_watch : (w.judge l j).watch = w.watch := by rw [LaneWork.judge_frame]

theorem LaneWork.Adds.refl : LaneWork.Adds l w w [] := .of_same rfl rfl

/-- The causes of a reaction (R113). -/
theorem LaneWork.react_adds (env : LaneEnv) (reaction : Int) (w : LaneWork) :
    LaneWork.Adds env.lane w (w.react env reaction) (env.program.startCauses reaction) := by
  have formed : LaneWork.Adds env.lane w (w.on fun c => { c with reaction := some reaction }) [] := .of_same rfl rfl
  unfold LaneWork.react Program.startCauses
  dsimp only
  split
  · exact formed.trans (LaneWork.judge_adds _ _ _)
  · split
    · exact formed.trans (LaneWork.judge_adds _ _ _)
    · exact formed

/-- What a reaction makes of the context. -/
theorem LaneWork.react_ctx (env : LaneEnv) (reaction : Int) (w : LaneWork) : (w.react env reaction).ctx =
    { w.ctx with
      reaction := some reaction, judgements := withCauses w.ctx.judgements (env.program.startCauses reaction) } := by
  rw [(w.react_frame env reaction).ctx, (w.react_adds env reaction).held]
  rfl

/-- The causes of a wall resolved by R99 (R101). -/
theorem LaneWork.judgeRecord_adds (env : LaneEnv) {r : WallRecord} (timed : r.source ≠ .hand) (w : LaneWork) :
    LaneWork.Adds env.lane w (w.judgeRecord env r) r.causes := by
  have flagged : LaneWork.Adds env.lane w (if r.disagree then w.judge env.lane (.padDisagree r.index) else w)
      (if r.disagree then [.padDisagree r.index] else []) := by
    split
    · exact w.judge_adds _ _
    · exact .refl
  have backup : r.source.isBackup = true ↔ r.source = .backupMedian ∨ r.source = .backupMean ∨ r.source = .backupSingle := by
    cases r.source <;> simp [WallSource.isBackup]
  unfold LaneWork.judgeRecord WallRecord.causes
  dsimp only
  rw [if_neg timed, List.nil_append, if_congr backup.symm rfl rfl]
  generalize (if r.disagree then w.judge env.lane (.padDisagree r.index) else w) = f at flagged ⊢
  split
  · exact flagged.trans (f.judge_adds _ _)
  · exact flagged.trans .refl

theorem recordOfWall_source (p : Program) (w : CollectingWall) : (recordOfWall p w).source ≠ .hand := by
  have backup (presses : List Press) : backupSource presses ≠ .hand := by
    unfold backupSource
    split <;> exact nofun
  unfold recordOfWall
  dsimp only
  split
  · split
    · exact backup _
    · exact nofun
  · exact backup _

/-! #### Settling (R114, R119 to R122) -/

/-- A lane's work settles exactly this. -/
structure LaneWork.Settles (env : LaneEnv) (w v : LaneWork) (x : Settlement) : Prop where
  frame : w.OnlySettles v
  legs : v.ctx.legs = x.legs
  takeoff : v.ctx.takeoff = x.takeoff
  adds : LaneWork.Adds env.lane w v x.causes
  watch : ∀ side, v.watch.get side = x.watches w.watch.get side

theorem LaneWork.settles_none (env : LaneEnv) (w : LaneWork) : LaneWork.Settles env w w w.ctx.unsettled :=
  ⟨.refl w, rfl, rfl, .refl, fun _ => rfl⟩

/-- The judgement of an exchange by its margin (R120, R121). -/
theorem LaneWork.judgeExchange_does (env : LaneEnv) (k stamp official : Nat) (w : LaneWork) {margin : Int}
    (is : margin = clampSigned ((stamp : Int) - official)) :
    (w.judgeExchange env k stamp official).ctx.legs =
        w.ctx.legs.set (k - 2) ⟨if margin < -(env.program.tolerance : Int) then .early else .legal, some margin⟩
      ∧ (w.judgeExchange env k stamp official).ctx.takeoff = w.ctx.takeoff
      ∧ LaneWork.Adds env.lane w (w.judgeExchange env k stamp official)
          (if margin < -(env.program.tolerance : Int) then [.earlyTakeoff k margin] else [])
      ∧ (w.judgeExchange env k stamp official).watch = w.watch := by
  unfold LaneWork.judgeExchange
  dsimp only
  rw [← is]
  by_cases early : margin < -(env.program.tolerance : Int)
  · rw [if_pos early, if_pos early, if_pos early]
    have set : LaneWork.Adds env.lane w (w.on fun c => c.setLeg k ⟨.early, some margin⟩) [] := .of_same rfl rfl
    exact ⟨by simp [LaneWork.on, LaneContext.setLeg], by simp [LaneWork.on, LaneContext.setLeg], set.trans (LaneWork.judge_adds _ _ _),
      by simp [LaneWork.on]⟩
  · rw [if_neg early, if_neg early, if_neg early]
    exact ⟨rfl, rfl, .of_same rfl rfl, rfl⟩

/-- The pending takeoff of an exchange is judged at its wall (R119). -/
theorem LaneWork.settleExchange_settles (env : LaneEnv) (index official : Nat) (w : LaneWork) :
    LaneWork.Settles env w (w.settleExchange env index official) (w.ctx.exchangeJudged env.program index official) := by
  have frame := w.settleExchange_frame env index official
  by_cases pending : ∃ t, w.ctx.takeoff = some t ∧ env.program.exchangeLeg index = some t.leg
  · obtain ⟨t, takeoff, leg⟩ := pending
    have judged : w.settleExchange env index official =
        (w.on fun c => { c with takeoff := none }).judgeExchange env t.leg t.stamp.value official := by
      simp only [LaneWork.settleExchange, leg, takeoff, if_pos]
    obtain ⟨legs, gone, adds, watch⟩ := LaneWork.judgeExchange_does env t.leg t.stamp.value official
      (w.on fun c => { c with takeoff := none }) (margin := exchangeMargin t.stamp official) rfl
    have taken : LaneWork.Adds env.lane w (w.on fun c => { c with takeoff := none }) [] := .of_same rfl rfl
    have is : w.ctx.takeoff.filter (fun t => env.program.exchangeLeg index = some t.leg) = some t := by
      rw [takeoff, Option.filter_some]
      exact if_pos (decide_eq_true leg)
    rw [judged] at frame ⊢
    unfold LaneContext.exchangeJudged
    rw [is]
    dsimp only
    by_cases early : exchangeMargin t.stamp official < -(env.program.tolerance : Int)
    · rw [if_pos early] at legs adds ⊢
      exact ⟨frame, legs, gone, taken.trans adds, fun side => by rw [watch]; rfl⟩
    · rw [if_neg early] at legs adds ⊢
      exact ⟨frame, legs, gone, taken.trans adds, fun side => by rw [watch]; rfl⟩
  · have stays : w.settleExchange env index official = w := by
      unfold LaneWork.settleExchange
      split
      · next k t leg takeoff =>
        refine if_neg fun same => pending ⟨t, takeoff, ?_⟩
        rw [leg, same]
      · rfl
    have is : w.ctx.takeoff.filter (fun t => env.program.exchangeLeg index = some t.leg) = none := by
      refine Option.filter_eq_none_iff.2 fun t takeoff leg => pending ⟨t, takeoff, of_decide_eq_true leg⟩
    unfold LaneContext.exchangeJudged
    rw [stays, is]
    exact w.settles_none env

theorem LaneWork.clearWatch_watch (w : LaneWork) (place : PoolEnd) (leg : Nat) (side : PoolEnd) :
    (w.clearWatch place leg).watch.get side = if side = place ∧ w.watch.get side = some leg then none else w.watch.get side := by
  unfold LaneWork.clearWatch
  by_cases here : side = place
  · subst here
    by_cases set : w.watch.get side = some leg
    · simp [set]
    · simp [set]
  · split
    · rw [if_neg fun h => here h.1]
      exact Ends.get_set_other _ _ (Ne.symm here)
    · rw [if_neg fun h => here h.1]

theorem LaneWork.clearWatch_judges (w : LaneWork) (place : PoolEnd) (leg : Nat) :
    (w.clearWatch place leg).judges = w.judges := by
  unfold LaneWork.clearWatch
  split <;> rfl

/-- The legs that an exchange judged at a wall leaves, seen by the leg that the wall opens. -/
theorem LaneContext.leg_eq {c : LaneContext} {k : Nat} (later : 2 ≤ k) : c.leg k = c.legs[k - 2]? := if_pos later

theorem Program.opensLeg_later {p : Program} {index k : Nat} (opens : p.opensLeg index = some k) : 2 ≤ k := by
  have among := List.mem_of_find?_eq_some opens
  obtain ⟨i, -, rfl⟩ := List.mem_map.1 among
  exact Nat.le_add_left 2 i

/-- A leg that is still PENDING is settled as unseen (R122). -/
theorem LaneWork.settleLeg_of_pending {k : Nat} (later : 2 ≤ k)
    (pending : (w.ctx.legs[k - 2]?.any fun r => decide (r.verdict = .pending)) = true) :
    (w.settleLeg env k).ctx.legs = w.ctx.legs.set (k - 2) ⟨.unjudged, none⟩
      ∧ (w.settleLeg env k).ctx.takeoff = w.ctx.takeoff
      ∧ LaneWork.Adds env.lane w (w.settleLeg env k) [.unjudged k]
      ∧ ∀ side, (w.settleLeg env k).watch.get side =
          if side = wallEnd (env.program.exchangeWall k) ∧ w.watch.get side = some k then none else w.watch.get side := by
  obtain ⟨⟨verdict, margin⟩, is, open_⟩ := (Option.any_eq_true _ _).1 pending
  cases (of_decide_eq_true open_ : verdict = .pending)
  have leg : w.ctx.leg k = some ⟨.pending, margin⟩ := (LaneContext.leg_eq later).trans is
  have ctx := w.clearWatch_ctx (env.program.exchangeEnd k) k
  have judges := w.clearWatch_judges (env.program.exchangeEnd k) k
  have watch := w.clearWatch_watch (env.program.exchangeEnd k) k
  unfold LaneWork.settleLeg
  rw [leg]
  dsimp only
  generalize w.clearWatch (env.program.exchangeEnd k) k = v at ctx judges watch ⊢
  have set : LaneWork.Adds env.lane w (v.on fun c => c.setLeg k ⟨.unjudged, none⟩) [] := by
    refine .of_same ?_ judges
    rw [← ctx]
    rfl
  refine ⟨?_, ?_, set.trans (LaneWork.judge_adds _ _ _), fun side => ?_⟩
  · rw [LaneWork.judge_legs, ← ctx]
    rfl
  · rw [LaneWork.judge_takeoff, ← ctx]
    rfl
  · rw [LaneWork.judge_watch]
    exact watch side

theorem LaneWork.settleLeg_of_settled {k : Nat} (later : 2 ≤ k)
    (settled : ¬ (w.ctx.legs[k - 2]?.any fun r => decide (r.verdict = .pending)) = true) : w.settleLeg env k = w := by
  unfold LaneWork.settleLeg
  split
  · next margin leg =>
    rw [LaneContext.leg_eq later] at leg
    rw [leg] at settled
    exact absurd rfl settled
  · rfl

/-- Leg 1 of a PLATFORM start without a reaction is settled as unseen (R114). -/
theorem LaneWork.settleLegOne_does (unseen : env.program.startKind = .platform ∧ w.ctx.reaction = none) :
    (w.settleLegOne env).ctx.legs = w.ctx.legs
      ∧ (w.settleLegOne env).ctx.takeoff = w.ctx.takeoff.filter (fun t => decide (t.leg ≠ 1))
      ∧ LaneWork.Adds env.lane w (w.settleLegOne env) [.unjudged 1]
      ∧ ∀ side, (w.settleLegOne env).watch.get side =
          if side = .start ∧ w.watch.get side = some 1 then none else w.watch.get side := by
  have ctx := w.clearWatch_ctx .start 1
  have judges := w.clearWatch_judges .start 1
  have watch := w.clearWatch_watch .start 1
  unfold LaneWork.settleLegOne
  rw [if_pos unseen]
  generalize w.clearWatch .start 1 = v at ctx judges watch ⊢
  have set : LaneWork.Adds env.lane w (v.on fun c => { c with takeoff := c.takeoff.filter fun t => t.leg ≠ 1 }) [] := by
    refine .of_same ?_ judges
    rw [← ctx]
    rfl
  refine ⟨?_, ?_, set.trans (LaneWork.judge_adds _ _ _), fun side => ?_⟩
  · rw [LaneWork.judge_legs, ← ctx]
    rfl
  · rw [LaneWork.judge_takeoff, ← ctx]
    rfl
  · rw [LaneWork.judge_watch]
    exact watch side

theorem LaneContext.exchangeJudged_ended (p : Program) (index official : Nat) (c : LaneContext) :
    (c.exchangeJudged p index official).ended = none := by
  unfold LaneContext.exchangeJudged
  split
  · dsimp only
    split <;> rfl
  · rfl

/-- What a resolution settles: the exchange judged at its wall, then the leg the wall opens (R114, R119, R122). -/
theorem LaneWork.settle_settles (env : LaneEnv) (index official : Nat) (w : LaneWork) :
    LaneWork.Settles env w (w.settle env index official) (w.ctx.settledAt env.program index official) := by
  have whole := w.settle_frame env index official
  have exchange := w.settleExchange_settles env index official
  have ended := w.ctx.exchangeJudged_ended env.program index official
  unfold LaneWork.settle at whole ⊢
  unfold LaneContext.settledAt
  dsimp only
  generalize w.settleExchange env index official = v at exchange whole ⊢
  generalize w.ctx.exchangeJudged env.program index official = e at exchange ended ⊢
  obtain ⟨frame, legs, takeoff, adds, watch⟩ := exchange
  have watch (side : PoolEnd) : v.watch.get side = w.watch.get side := by
    rw [watch, Settlement.watches, ended]
  have reaction : v.ctx.reaction = w.ctx.reaction := by rw [frame]
  have stays : LaneWork.Settles env w v e := ⟨frame, legs, takeoff, adds, fun side => by rw [watch, Settlement.watches, ended]⟩
  unfold LaneWork.settleUnseen at whole ⊢
  by_cases first : index = 1
  · simp only [if_pos first] at whole ⊢
    by_cases unseen : env.program.startKind = .platform ∧ w.ctx.reaction = none
    · obtain ⟨legs', takeoff', adds', watch'⟩ := LaneWork.settleLegOne_does (w := v) (env := env) (by rw [reaction]; exact unseen)
      rw [if_pos unseen]
      exact ⟨whole, legs'.trans legs, takeoff'.trans (by rw [takeoff]), adds.trans adds', fun side => by rw [watch', watch]; rfl⟩
    · rw [if_neg unseen, LaneWork.settleLegOne, if_neg (by rw [reaction]; exact unseen)]
      exact stays
  · simp only [if_neg first] at whole ⊢
    cases opens : env.program.opensLeg index with
    | none => exact stays
    | some k =>
      have later := Program.opensLeg_later opens
      rw [opens] at whole
      dsimp only at whole ⊢
      rw [← legs]
      by_cases pending : (v.ctx.legs[k - 2]?.any fun r => decide (r.verdict = .pending)) = true
      · obtain ⟨legs', takeoff', adds', watch'⟩ := LaneWork.settleLeg_of_pending (env := env) later pending
        rw [if_pos pending]
        exact ⟨whole, legs', takeoff'.trans takeoff, adds.trans adds', fun side => by rw [watch', watch]; rfl⟩
      · rw [if_neg pending, LaneWork.settleLeg_of_settled later pending]
        exact stays

/-! #### Expecting the next wall (R72 to R75) -/

/-- The watches after a wall is expected. -/
theorem LaneWork.placeExpected_watch (env : LaneEnv) (e : ExpectedWall) (w : LaneWork) (side : PoolEnd) :
    (w.placeExpected env e).watch.get side = env.program.watchesArmed env.now e w.watch.get side := by
  unfold LaneWork.placeExpected Program.watchesArmed
  dsimp only
  cases env.program.exchangeLeg e.index with
  | none => rfl
  | some k =>
    dsimp only
    by_cases arms : e.armTime ≤ env.now ∧ e.everArmed = false
    · obtain ⟨due, fresh⟩ := arms
      by_cases here : side = e.side
      · subst here
        simp [due, fresh, LaneWork.setWatch]
      · simp [due, fresh, here, LaneWork.setWatch, Ends.get_set_other _ _ (Ne.symm here), LaneWork.on]
    · have silent : ¬ (decide (e.armTime ≤ env.now) = true ∧ (!e.everArmed) = true) := by simpa using arms
      rw [if_neg silent, if_neg fun h => arms ⟨h.1, h.2.1⟩]
      rfl

/-- The wall after a resolved wall of a running race (R75). -/
theorem LaneWork.armNext_eq (running : env.running = true) {index : Nat} (official : Nat) (other : index ≠ env.program.lengths) :
    w.armNext env index official = w.placeExpected env (w.ctx.wallAfter env.program index official) := by
  have further : env.running = true ∧ (!env.program.isFinal index) = true := ⟨running, by simp [Program.isFinal, other]⟩
  unfold LaneWork.armNext LaneContext.wallAfter
  rw [if_pos further]
  cases w.ctx.expected <;> rfl

end

end Sys2Proof.Machine


/-! ### Takeoffs (chapter 07) -/

namespace Sys2Proof.Machine

theorem mem_withCause {held : List Judgement} {j k : Judgement} :
    k ∈ withCause held j ↔ k ∈ held ∨ k = j ∧ ∀ q ∈ held, q.priority ≠ j.priority := by
  unfold withCause
  by_cases holds : (held.any fun q => decide (q.priority = j.priority)) = true
  · obtain ⟨q, among, same⟩ := (holdsCause_iff j held).1 holds
    rw [if_pos holds]
    exact (or_iff_left fun h => h.2 q among same).symm
  · have fresh : ∀ q ∈ held, q.priority ≠ j.priority := fun q among same => holds ((holdsCause_iff j held).2 ⟨q, among, same⟩)
    rw [if_neg holds, ← insertJudgement_eq, mem_insertJudgement, or_comm]
    exact or_congr_right (and_iff_left fresh).symm

/-- The causes after a reaction (R113, R130). -/
theorem mem_startCauses {held : List Judgement} {p : Program} {r : Int} {j : Judgement} :
    j ∈ withCauses held (p.startCauses r) ↔ j ∈ held
      ∨ r < 0 ∧ j = .earlyStart r ∧ (∀ k ∈ held, k.priority ≠ 1)
      ∨ 0 ≤ r ∧ r < p.floor ∧ j = .suspectStart r ∧ (∀ k ∈ held, k.priority ≠ 3) := by
  unfold Program.startCauses
  by_cases early : r < 0
  · rw [if_pos early]
    refine mem_withCause.trans (or_congr_right ⟨fun h => .inl ⟨early, h⟩, ?_⟩)
    rintro (⟨-, h⟩ | ⟨late, -⟩)
    · exact h
    · exact absurd early (not_lt.2 late)
  · rw [if_neg early]
    by_cases suspect : r < p.floor
    · rw [if_pos suspect]
      refine mem_withCause.trans (or_congr_right ⟨fun h => .inr ⟨not_lt.1 early, suspect, h⟩, ?_⟩)
      rintro (⟨h, -⟩ | ⟨-, -, h⟩)
      · exact absurd h early
      · exact h
    · rw [if_neg suspect]
      exact (or_iff_left fun h => h.elim (fun h => early h.1) fun h => suspect h.2.1).symm

/-- The causes after an exchange has been judged (R121, R130). -/
theorem mem_exchangeCauses {held : List Judgement} {tolerance leg : Nat} {margin : Int} {j : Judgement} :
    j ∈ withCauses held (if margin < -(tolerance : Int) then [.earlyTakeoff leg margin] else []) ↔ j ∈ held
      ∨ margin < -(tolerance : Int) ∧ j = .earlyTakeoff leg margin ∧ ∀ k ∈ held, k.priority ≠ 2 := by
  by_cases early : margin < -(tolerance : Int)
  · rw [if_pos early]
    exact mem_withCause.trans (or_congr_right (and_iff_right early).symm)
  · rw [if_neg early]
    exact (or_iff_left fun h => early h.1).symm

section
variable {s : State} {p : Program} {t : Takeoff} {side : PoolEnd} {l : Lane}

/-- A takeoff is no longer on its way. -/
def State.landed (s : State) (t : Takeoff) : State := { s with takeoffs := s.takeoffs.erase t }

/-- A takeoff on its way reaches the Lane Engine (R116). -/
theorem exec_takeoff (free : s.resetHeld = false) (found : s.takeoffs.find? (fun t => decide (t.side = side ∧ t.lane = l)) = some t) :
    t.side = side ∧ t.lane = l
      ∧ exec (.takeoff side l) s = .next ((s.landed t).takeoffEvent t) := by
  have there := List.find?_some found
  obtain ⟨here, lane⟩ := of_decide_eq_true (p := t.side = side ∧ t.lane = l) there
  refine ⟨here, lane, congrArg Host.Outcome.next ((State.unlessHeld_of_free _ free).trans ?_)⟩
  simp only [State.deliverTakeoff, found]
  rfl

theorem State.takeoffEvent_of_ignored {reason : Reason} {wall : Option Nat} (used : s.takeoffUse t = .ignored reason wall) :
    s.takeoffEvent t = s.logEntry t.stamp (.platform t.lane t.side) wall (.ignored reason) := by
  simp only [State.takeoffEvent, used]

theorem State.takeoffEvent_of_react {stamp : Stamp} (used : s.takeoffUse t = .react stamp) (program : s.program = some p) :
    s.takeoffEvent t = (s.logEntry t.stamp (.platform t.lane t.side) none .accepted).commit t.lane
      ((s.laneWork t.lane).react (s.laneEnv p t.lane) (reactionOf stamp (s.startMark.getD 0))) := by
  simp only [State.takeoffEvent, used, program]

theorem State.takeoffEvent_of_judge {official wall : Nat} (used : s.takeoffUse t = .judge official wall) (program : s.program = some p) :
    s.takeoffEvent t = (s.logEntry t.stamp (.platform t.lane t.side) (some wall) .accepted).commit t.lane
      (((s.laneWork t.lane).on fun c => { c with takeoff := none }).judgeExchange (s.laneEnv p t.lane) t.leg t.stamp.value
        official) := by
  simp only [State.takeoffEvent, used, program]

theorem State.takeoffEvent_of_keepPending {wall : Nat} (used : s.takeoffUse t = .keepPending wall) :
    s.takeoffEvent t = (s.logEntry t.stamp (.platform t.lane t.side) (some wall) .accepted).setLane t.lane
      { s.context t.lane with takeoff := some ⟨t.leg, t.stamp⟩ } := by
  simp only [State.takeoffEvent, used]

theorem State.takeoffEvent_of_keepPrestart (used : s.takeoffUse t = .keepPrestart) :
    s.takeoffEvent t = (s.logEntry t.stamp (.platform t.lane t.side) none .accepted).setLane t.lane
      { s.context t.lane with takeoff := some ⟨1, t.stamp⟩ } := by
  simp only [State.takeoffEvent, used]

/-! #### The tests of R116 -/

/-- The tests of R116 for a takeoff of a lane of a race under way. -/
theorem State.takeoffUse_of_race (underWay : s.race = .armed ∨ s.race = .running) (stamped : t.stamp ≠ .none)
    (program : s.program = some p) (inRace : p.inRace t.lane = true) : s.takeoffUse t =
      if (s.context t.lane).status.isOut then .ignored .laneDone none
      else if t.leg = 1 then
        if (s.context t.lane).reaction.isSome ∨ ((s.context t.lane).wallRecord 1).isSome then .ignored .laneDone none
        else if s.race = .armed then .keepPrestart else .react t.stamp
      else (s.context t.lane).exchangeUse p t.leg := by
  have taken : ¬ ((!decide (s.race = .armed ∨ s.race = .running)) = true ∨ t.stamp = .none) := by simp [underWay, stamped]
  unfold State.takeoffUse
  rw [if_neg taken, program]
  dsimp only
  rw [if_neg (by simp [inRace])]

theorem LaneStatus.isOut_iff {x : LaneStatus} : x.isOut = true ↔ x = .disqualified ∨ x = .didNotStart := by
  cases x <;> simp [LaneStatus.isOut]

theorem LaneContext.wallRecord_isSome {c : LaneContext} {n : Nat} : (c.wallRecord n).isSome = true ↔ ∃ w ∈ c.resolved, w.index = n := by
  simp [LaneContext.wallRecord]

/-- The tests of R116 for a takeoff of a lane that is not out. -/
theorem State.takeoffUse_of_lane (underWay : s.race = .armed ∨ s.race = .running) (stamped : t.stamp ≠ .none)
    (program : s.program = some p) (inRace : p.inRace t.lane = true) (swims : (s.context t.lane).status ≠ .disqualified)
    (starts : (s.context t.lane).status ≠ .didNotStart) : s.takeoffUse t =
      if t.leg = 1 then
        if (s.context t.lane).reaction.isSome ∨ ((s.context t.lane).wallRecord 1).isSome then .ignored .laneDone none
        else if s.race = .armed then .keepPrestart else .react t.stamp
      else (s.context t.lane).exchangeUse p t.leg := by
  have within : ¬ (s.context t.lane).status.isOut = true := fun out => (LaneStatus.isOut_iff.1 out).elim swims starts
  rw [State.takeoffUse_of_race underWay stamped program inRace, if_neg within]

/-- A leg-1 takeoff of a lane without a reaction and without wall 1 resolved (R110, R112). -/
theorem State.takeoffUse_of_start (underWay : s.race = .armed ∨ s.race = .running) (stamped : t.stamp ≠ .none)
    (program : s.program = some p) (inRace : p.inRace t.lane = true) (swims : (s.context t.lane).status ≠ .disqualified)
    (starts : (s.context t.lane).status ≠ .didNotStart) (first : t.leg = 1) (unreacted : (s.context t.lane).reaction = none)
    (open_ : ∀ w ∈ (s.context t.lane).resolved, w.index ≠ 1) :
    s.takeoffUse t = if s.race = .armed then .keepPrestart else .react t.stamp := by
  have fresh : ¬ ((s.context t.lane).reaction.isSome = true ∨ ((s.context t.lane).wallRecord 1).isSome = true) := by
    rintro (reacted | resolved)
    · rw [unreacted] at reacted
      cases reacted
    · obtain ⟨w, among, one⟩ := LaneContext.wallRecord_isSome.1 resolved
      exact open_ w among one
  rw [State.takeoffUse_of_lane underWay stamped program inRace swims starts, if_pos first, if_neg fresh]

section
variable {c : LaneContext} {k : Nat} {margin : Option Int}

theorem LaneContext.exchangeUse_of_other (pending : c.leg k = some ⟨.pending, margin⟩) {other : PendingTakeoff}
    (takeoff : c.takeoff = some other) (ne : other.leg ≠ k) : c.exchangeUse p k = .ignored .notArmed (some (p.exchangeWall k)) := by
  simp [LaneContext.exchangeUse, pending, takeoff, ne]

theorem LaneContext.exchangeUse_of_resolved (pending : c.leg k = some ⟨.pending, margin⟩) (takeoff : c.takeoff = none)
    {r : WallRecord} (record : c.wallRecord (p.exchangeWall k) = some r) :
    c.exchangeUse p k = .judge r.official (p.exchangeWall k) := by
  simp [LaneContext.exchangeUse, pending, takeoff, record]

theorem LaneContext.exchangeUse_of_unresolved (pending : c.leg k = some ⟨.pending, margin⟩) (takeoff : c.takeoff = none)
    (record : c.wallRecord (p.exchangeWall k) = none) : c.exchangeUse p k = .keepPending (p.exchangeWall k) := by
  simp [LaneContext.exchangeUse, pending, takeoff, record]

theorem LaneContext.exchangeUse_of_settled (settled : ∀ m, c.leg k ≠ some ⟨.pending, m⟩) :
    c.exchangeUse p k = .ignored .laneDone (some (p.exchangeWall k)) := by
  unfold LaneContext.exchangeUse
  dsimp only
  split
  · next m pending => exact absurd pending (settled m)
  · rfl

end

/-! #### A lane's work after a log entry -/

/-- A takeoff is taken: its entry, the lane's work put back, nothing else. -/
structure State.TakesWork (s : State) (l : Lane) (log : EventLog) (c : LaneContext) (reports : List Report) (t : State) : Prop where
  context : t.context l = c
  others : ∀ m, m ≠ l → t.context m = s.context m
  race : t.race = s.race
  clock : t.clock = s.clock
  program : t.program = s.program
  results : t.results = s.results
  ports : t.ports = s.ports
  log : t.log = log
  link : t.link = s.link.reported (s.log.notes ++ reports)
  takeoffs : t.takeoffs = s.takeoffs
  follows : s.BoardFollows t
  keeps : s.EventKeeps t

theorem State.takesWork_of_logged {stamp : Stamp} {source : LogSource} {wall : Option Nat} {d : Disposition} {u : State}
    {c : LaneContext} {reports : List Report} (only : (s.logEntry stamp source wall d).OnlyLane u)
    (contained : (s.logEntry stamp source wall d).Contained u) (context : u.context l = c)
    (others : ∀ m, m ≠ l → u.context m = (s.logEntry stamp source wall d).context m)
    (link : u.link = (s.logEntry stamp source wall d).link.reported reports)
    (follows : (s.logEntry stamp source wall d).BoardFollows u) :
    s.TakesWork l (s.log.add stamp source wall d) c reports u := by
  have keeps := ((s.logEntry_contained stamp source wall d).trans contained).eventKeeps
    ((s.logEntry_race_frame stamp source wall d).trans only.toOnlyRace)
  rw [s.logEntry_eq] at only others link follows
  exact ⟨context, others, only.race, only.clock, only.program, only.results, only.ports, only.log,
    link.trans (Link.reported_append _ _ _).symm, only.takeoffs, follows, keeps⟩

theorem State.commit_takesWork (s : State) (stamp : Stamp) (source : LogSource) (wall : Option Nat) (d : Disposition)
    (l : Lane) (w : LaneWork) :
    s.TakesWork l (s.log.add stamp source wall d) w.ctx w.reports ((s.logEntry stamp source wall d).commit l w) :=
  State.takesWork_of_logged (State.commit_frame _ _ _) (State.commit_contained _ _ _) (State.commit_context_same _ _ _)
    (fun _ away => State.commit_context_other _ w away) (State.commit_link _ _ _) (State.commit_boardFollows _ _ _)

/-- The lane keeps a takeoff. -/
theorem State.keepTakeoff_takesWork (s : State) (stamp : Stamp) (source : LogSource) (wall : Option Nat) (d : Disposition)
    (l : Lane) (k : PendingTakeoff) :
    s.TakesWork l (s.log.add stamp source wall d) { s.context l with takeoff := some k } []
      ((s.logEntry stamp source wall d).setLane l { s.context l with takeoff := some k }) := by
  refine State.takesWork_of_logged (State.setLane_frame _ _ _) (State.setLane_contained _ _ _) (State.context_setLane_same _ _ _)
    (fun m away => State.context_setLane_other _ _ (Ne.symm away)) rfl
    (State.boardFollows_of_shown rfl (fun m => ?_) rfl rfl rfl rfl)
  by_cases here : m = l
  · subst here
    rw [State.context_setLane_same, s.logEntry_context]
    exact ⟨rfl, rfl, rfl, rfl⟩
  · rw [State.context_setLane_other _ _ (Ne.symm here)]
    exact ⟨rfl, rfl, rfl, rfl⟩

/-- The taking of a takeoff that has landed, seen from before. -/
theorem State.TakesWork.of_landed {log : EventLog} {c : LaneContext} {reports : List Report} {k : Takeoff} {u : State}
    (h : (s.landed k).TakesWork l log c reports u) :
    u.context l = c ∧ (∀ m, m ≠ l → u.context m = s.context m) ∧ u.race = s.race ∧ u.clock = s.clock ∧ u.program = s.program
      ∧ u.results = s.results ∧ u.ports = s.ports ∧ u.log = log ∧ u.link = s.link.reported (s.log.notes ++ reports)
      ∧ u.takeoffs = s.takeoffs.erase k ∧ s.BoardFollows u ∧ s.EventKeeps u :=
  ⟨h.context, h.others, h.race, h.clock, h.program, h.results, h.ports, h.log, h.link, h.takeoffs, h.follows, h.keeps⟩

theorem LaneWork.react_reports (env : LaneEnv) (reaction : Int) (w : LaneWork) : (w.react env reaction).reports =
    w.walls ++ w.finishes ++ (w.judges ++ judgeNotes env.lane w.ctx.judgements (env.program.startCauses reaction)) := by
  rw [(w.react_frame env reaction).toOnlySettles.reports, (w.react_adds env reaction).notes]
  rfl

end

/-- Settles O40: each takeoff by the tests of R116, its work by `State.commit_takesWork`. -/
theorem takeoffsAreJudged : Obligations.TakeoffsAreJudged := by
  refine ⟨fun s p side l t₀ mark r free found first running program inRace begun swims starts unreacted open_ value => ?_,
    fun s p side l t₀ m₀ v free found later stamp running program inRace swims starts none_ pending => ?_,
    fun s side l t₀ free found => ⟨fun p v first stamp armed program inRace swims starts unreacted open_ => ?_, fun reason wall used => ?_⟩,
    fun s t₀ p c context => ⟨fun other => ?_, fun underWay stamped program => ⟨fun outside => ?_, fun inRace => ⟨fun out => ?_, fun swims starts =>
      ⟨fun first done => ?_, fun later => ⟨fun settled => ?_, fun open_ other => ?_⟩⟩⟩⟩⟩⟩
  · obtain ⟨here, lane, row⟩ := exec_takeoff free found
    subst here lane
    have stamped : t₀.stamp ≠ .none := by
      obtain ⟨v, stamp, -⟩ | ⟨v, stamp, -⟩ := value <;> rw [stamp] <;> exact nofun
    have used : (s.landed t₀).takeoffUse t₀ = .react t₀.stamp := by
      have test := State.takeoffUse_of_start (s := s.landed t₀) (.inr running) stamped program inRace swims starts first unreacted open_
      exact test.trans (if_neg fun armed => by cases (show s.race = .armed from armed).symm.trans running)
    have reaction : reactionOf t₀.stamp ((s.landed t₀).startMark.getD 0) = r := by
      change reactionOf t₀.stamp (s.startMark.getD 0) = r
      rw [begun]
      obtain ⟨v, stamp, is⟩ | ⟨v, stamp, is⟩ := value
      · rw [stamp, is]
        change max (-99999) (min 99999 (v : Int)) = _
        omega
      · rw [stamp, is]
        rfl
    rw [State.takeoffEvent_of_react (s := s.landed t₀) used program, reaction] at row
    have taken := (s.landed t₀).commit_takesWork t₀.stamp (.platform t₀.lane t₀.side) none .accepted t₀.lane
      (((s.landed t₀).laneWork t₀.lane).react ((s.landed t₀).laneEnv p t₀.lane) r)
    generalize State.commit _ _ _ = t at row taken
    rw [LaneWork.react_reports, LaneWork.react_ctx] at taken
    obtain ⟨context, others, race, clock, program, results, ports, log, link, takeoffs, follows, keeps⟩ := taken.of_landed
    exact ⟨t, _, row, context, fun j => mem_startCauses, rfl, link, log, takeoffs, others, race, clock, program, results, ports,
      follows, keeps⟩
  · obtain ⟨here, lane, row⟩ := exec_takeoff free found
    subst here lane
    have other : ¬ t₀.leg = 1 := by omega
    have use : (s.landed t₀).takeoffUse t₀ = (s.context t₀.lane).exchangeUse p t₀.leg := by
      have test := State.takeoffUse_of_lane (s := s.landed t₀) (.inr running) (by rw [stamp]; exact nofun) program inRace swims starts
      exact test.trans (if_neg other)
    refine ⟨fun w margin record is => ?_, fun record => ?_⟩
    · have used := use.trans (LaneContext.exchangeUse_of_resolved pending none_ record)
      rw [State.takeoffEvent_of_judge (s := s.landed t₀) used program] at row
      obtain ⟨legs, gone, adds, -⟩ := LaneWork.judgeExchange_does ((s.landed t₀).laneEnv p t₀.lane) t₀.leg t₀.stamp.value w.official
        (((s.landed t₀).laneWork t₀.lane).on fun c => { c with takeoff := none }) (margin := margin) (by rw [is, stamp]; rfl)
      have frame := LaneWork.judgeExchange_frame (((s.landed t₀).laneWork t₀.lane).on fun c => { c with takeoff := none })
        ((s.landed t₀).laneEnv p t₀.lane) t₀.leg t₀.stamp.value w.official
      generalize LaneWork.judgeExchange _ _ _ _ _ = v at row legs gone adds frame
      have taken := (s.landed t₀).commit_takesWork t₀.stamp (.platform t₀.lane t₀.side) (some (p.exchangeWall t₀.leg)) .accepted t₀.lane v
      generalize State.commit _ _ _ = t at row taken
      have reports : v.reports = judgeNotes t₀.lane (s.context t₀.lane).judgements
          (if margin < -(p.tolerance : Int) then [.earlyTakeoff t₀.leg margin] else []) := by
        rw [frame.reports, adds.notes]
        rfl
      obtain ⟨context, others, race, clock, program, results, ports, log, link, -, follows, keeps⟩ := taken.of_landed
      rw [reports] at link
      rw [stamp] at log
      refine ⟨t, v.ctx.judgements, row, context.trans ?_, fun j => ?_, link, log, others, race, clock, program, results, ports,
        follows, keeps⟩
      · have ctx := congrArg LaneWork.ctx frame
        rw [legs, gone] at ctx
        refine ctx.trans ?_
        change ({ s.context t₀.lane with takeoff := none, legs := _, judgements := v.ctx.judgements } : LaneContext) = _
        rw [← none_]
        rfl
      · rw [adds.held]
        exact mem_exchangeCauses
    · have used := use.trans (LaneContext.exchangeUse_of_unresolved pending none_ record)
      rw [State.takeoffEvent_of_keepPending (s := s.landed t₀) used] at row
      have taken := (s.landed t₀).keepTakeoff_takesWork t₀.stamp (.platform t₀.lane t₀.side) (some (p.exchangeWall t₀.leg)) .accepted
        t₀.lane ⟨t₀.leg, t₀.stamp⟩
      rw [stamp] at row taken
      obtain ⟨context, others, race, clock, program, results, ports, log, link, -, follows, keeps⟩ := taken.of_landed
      rw [List.append_nil] at link
      exact ⟨_, row, context, link, log, others, race, clock, program, results, ports, follows, keeps⟩
  · obtain ⟨here, lane, row⟩ := exec_takeoff free found
    subst here lane
    have used : (s.landed t₀).takeoffUse t₀ = .keepPrestart := by
      have test := State.takeoffUse_of_start (s := s.landed t₀) (.inl armed) (by rw [stamp]; exact nofun) program inRace swims starts first
        unreacted open_
      exact test.trans (if_pos armed)
    rw [State.takeoffEvent_of_keepPrestart (s := s.landed t₀) used, State.logEntry_eq, stamp] at row
    exact row
  · obtain ⟨here, lane, row⟩ := exec_takeoff free found
    subst here lane
    rw [State.takeoffEvent_of_ignored (s := s.landed t₀) used, State.logEntry_eq] at row
    exact row
  · refine if_pos (other.imp (fun still => ?_) id)
    simp [still]
  · have taken : ¬ ((!decide (s.race = .armed ∨ s.race = .running)) = true ∨ t₀.stamp = .none) := by simp [underWay, stamped]
    simp only [State.takeoffUse, if_neg taken, program, outside, Bool.not_false, if_true]
  · subst context
    rw [State.takeoffUse_of_race underWay stamped program inRace, if_pos (LaneStatus.isOut_iff.2 out)]
  · subst context
    rw [State.takeoffUse_of_lane underWay stamped program inRace swims starts, if_pos first, if_pos]
    exact done.imp Option.isSome_iff_ne_none.2 LaneContext.wallRecord_isSome.2
  · subst context
    rw [State.takeoffUse_of_lane underWay stamped program inRace swims starts, if_neg (by omega), LaneContext.exchangeUse_of_settled settled]
  · subst context
    obtain ⟨m, pending⟩ := open_
    obtain ⟨k, takeoff, ne⟩ := other
    rw [State.takeoffUse_of_lane underWay stamped program inRace swims starts, if_neg (by omega), LaneContext.exchangeUse_of_other pending takeoff ne]

end Sys2Proof.Machine


/-! ### An event of one lane: its work put back, the ranking, the completion (R28, R84, R136) -/

namespace Sys2Proof.Machine

/-! #### When an event re-ranks (R136) -/

theorem needsRerank_eq (before after : LaneContext) : needsRerank before after = ranksAnew before after := by
  unfold needsRerank ranksAnew
  cases before.status <;> cases after.status <;> rfl

theorem LaneContext.terminal_iff (c : LaneContext) : c.terminal = true ↔ c.IsTerminal := by
  unfold LaneContext.terminal LaneContext.IsTerminal
  rw [LaneContext.confirmed_eq]
  cases c.status <;> simp

theorem RaceState.over_iff (r : RaceState) : r.over = true ↔ r = .complete ∨ r = .official := by
  cases r <;> simp [RaceState.over]

/-! #### A lane's work put back and ranked -/

/-- A lane's work put back, and the re-rank it brings. -/
def State.laneRanked (s : State) (l : Lane) (w : LaneWork) : State :=
  if needsRerank (s.context l) w.ctx then (s.commit l w).rerank else s.commit l w

theorem State.laneEvent_eq (s : State) (l : Lane) (w : LaneWork) : s.laneEvent l w = (s.laneRanked l w).checkCompletion := rfl

/-- What another first lane of a race that is over marks. -/
def State.HeadsDiffer (s t : State) : Prop := s.race.over = true ∧ s.results.order.head? ≠ t.results.order.head?

/-- A lane's work put back and ranked. -/
structure State.RanksLane (s : State) (p : Program) (l : Lane) (w : LaneWork) (r : State) : Prop where
  context : r.context l = w.ctx
  others : ∀ m, m ≠ l → r.context m = s.context m
  race : r.race = s.race
  clock : r.clock = s.clock
  program : r.program = s.program
  source : r.source = s.source
  overrun : r.overrun = s.overrun
  log : r.log = s.log
  takeoffs : r.takeoffs = s.takeoffs
  amend : r.results.amend = s.results.amend
  channel : ∀ side, r.channel side l = { s.channel side l with watch := w.watch.get side }
  channels : ∀ side m, m ≠ l → r.channel side m = s.channel side m
  link : r.link = s.link.reported (w.reports ++ if ranksAnew (s.context l) w.ctx then [r.rankNote] else [])
  ranking : s.RankingFollows r p l
  starts : s.FreezesOn l w → r.board.spent = true ∧ ∀ f, w.ctx.final = some f → r.board.freeze =
    some ⟨f.time, s.clock.value + s.board.layout.freezeSeconds * 10000⟩
  stays : ¬ s.FreezesOn l w → r.board.spent = s.board.spent ∧ r.board.freeze = s.board.freeze
  mapFits : s.MapFits → r.MapFits
  board : s.inRace l = true → s.BoardWork r (s.autoChanged r) (s.FreezesOn l w ∨ s.HeadsDiffer r)

section
variable {s t u : State} {p : Program} {l : Lane} {w : LaneWork}

/-- The auto fields that follow: the lane's own, and those of the lanes whose places have changed. -/
theorem State.autoChanged_of_lane (here : t.context l = w.ctx) (others : ∀ m, m ≠ l → t.context m = s.context m) (k : Lane) :
    s.autoChanged t k = (decide (k = l) && needsAuto (s.context l) w.ctx
      || s.inRace k && s.results.places[k] != t.results.places[k]) := by
  have own : (needsAuto (s.context k) (t.context k)) = (decide (k = l) && needsAuto (s.context l) w.ctx) := by
    by_cases same : k = l
    · subst same
      rw [here, decide_eq_true rfl, Bool.true_and]
    · rw [others k same, decide_eq_false same]
      simp [needsAuto]
  rw [← own]
  rfl

theorem State.RankingFollows.of_kept (inRace : t.results = s.results) (ports : t.ports = s.ports)
    (still : ranksAnew (s.context l) (t.context l) = false) : s.RankingFollows t p l := by
  refine ⟨fun anew => (nomatch still.symm.trans anew), fun _ => by rw [inRace]; exact ⟨rfl, rfl⟩, fun m side => ?_⟩
  rw [ports, if_neg fun h => h.2.2.2 (by rw [inRace])]

theorem State.laneRanked_of_still (p : Program) (still : needsRerank (s.context l) w.ctx = false) :
    s.RanksLane p l w (s.laneRanked l w) := by
  have frame := s.commit_frame l w
  have here := s.commit_context_same l w
  have others (m : Lane) (away : m ≠ l) := s.commit_context_other w away
  have channel := s.commit_channel_same l w
  have channels (side : PoolEnd) (m : Lane) (away : m ≠ l) := s.commit_channel_other w side away
  have link := s.commit_link l w
  have work := s.commit_boardWork l w
  obtain ⟨starts, stays⟩ := s.commit_freeze l w
  have quiet : ranksAnew (s.context l) w.ctx = false := (needsRerank_eq _ _).symm.trans still
  unfold State.laneRanked
  rw [if_neg (Bool.eq_false_iff.1 still)]
  generalize s.commit l w = r at *
  refine ⟨here, others, frame.race, frame.clock, frame.program, frame.source, frame.overrun, frame.log, frame.takeoffs,
    by rw [frame.results], channel, channels, by rw [link, quiet]; exact congrArg _ (List.append_nil _).symm,
    .of_kept frame.results frame.ports (by rw [here]; exact quiet), starts, stays, frame.mapFits, fun _ => ?_⟩
  refine work.congr (State.autoChanged_of_commit here others (congrArg Results.places frame.results)) ?_
  exact (or_iff_left fun heads => heads.2 (by rw [frame.results])).symm

theorem State.laneRanked_of_anew (program : s.program = some p) (anew : needsRerank (s.context l) w.ctx = true) :
    s.RanksLane p l w (s.laneRanked l w) := by
  have frame := s.commit_frame l w
  have here := s.commit_context_same l w
  have others (m : Lane) (away : m ≠ l) := s.commit_context_other w away
  have channel := s.commit_channel_same l w
  have channels (side : PoolEnd) (m : Lane) (away : m ≠ l) := s.commit_channel_other w side away
  have link := s.commit_link l w
  have work := s.commit_boardWork l w
  obtain ⟨starts, stays⟩ := s.commit_freeze l w
  have ranks : ranksAnew (s.context l) w.ctx = true := (needsRerank_eq _ _).symm.trans anew
  unfold State.laneRanked
  rw [if_pos anew]
  generalize s.commit l w = c at *
  have kept := c.rerank_frame
  have fit := c.rerank_ranksFit
  have lamps := c.rerank_lampsFollow (frame.program.trans program)
  have notes := c.rerank_link
  have ranked := c.rerank_boardWork
  have changes (m : Lane) := c.mem_placeChanges (l := m)
  have maps := c.rerank_mapFits
  have amend : c.rerank.results.amend = c.results.amend := by rw [State.rerank_results]
  have heads : c.HeadChanges ↔ s.HeadsDiffer c.rerank := by
    have order : c.rerank.results.order = c.ranked.results.order := by
      rw [State.rerank_results]
      rfl
    unfold State.HeadChanges State.HeadsDiffer
    rw [order, frame.race, frame.results, RaceState.over_iff]
  generalize c.rerank = r at *
  have context (m : Lane) : r.context m = c.context m := congrArg (fun lanes : Vector LaneContext 10 => lanes[m]) kept.lanes
  have same (side : PoolEnd) (m : Lane) : r.channel side m = c.channel side m := by
    unfold State.channel State.sampler
    rw [kept.samplers]
  have own : r.context l = w.ctx := (context l).trans here
  have rest (m : Lane) (away : m ≠ l) : r.context m = s.context m := (context m).trans (others m away)
  refine ⟨own, rest, kept.race.trans frame.race, kept.clock.trans frame.clock, kept.program.trans frame.program,
    kept.source.trans frame.source, kept.overrun.trans frame.overrun, kept.log.trans frame.log, kept.takeoffs.trans frame.takeoffs,
    amend.trans (by rw [frame.results]), fun side => (same side l).trans (channel side),
    fun side m away => (same side m).trans (channels side m away), ?_, ⟨fun _ => fit, fun still => ?_, ?_⟩,
    fun on => ?_, fun off => ?_, fun _ => maps, fun inRace => ?_⟩
  · rw [notes, link, ranks, Link.reported_append]
    rfl
  · rw [own, ranks] at still
    cases still
  · unfold State.LampsFollow at lamps ⊢
    rw [frame.ports, frame.results] at lamps
    exact lamps
  · rw [kept.board_spent, kept.board_freeze]
    exact starts on
  · rw [kept.board_spent, kept.board_freeze]
    exact stays off
  · have inside : c.inRace = s.inRace := by
      funext m
      unfold State.inRace
      rw [frame.program]
    refine (work.trans ranked (fun _ => .inl frame.board_map) fun m writes late => ?_).congr (fun m => ?_) (or_congr_right heads)
    · obtain rfl : m = l := of_decide_eq_true (Bool.and_eq_true_iff.1 writes).1
      have place : c.results.places[m] = r.results.places[m] := by
        by_contra moved
        exact absurd ((changes m).2 ⟨by rw [inside]; exact inRace, moved⟩) (of_decide_eq_false late)
      intro y x old
      rw [context, place]
    · rw [State.autoChanged_of_lane own rest]
      refine congrArg _ (Bool.eq_iff_iff.2 ?_)
      rw [decide_eq_true_iff, changes, inside, frame.results, Bool.and_eq_true_iff, bne_iff_ne]

theorem State.laneRanked_ranksLane (program : s.program = some p) (l : Lane) (w : LaneWork) :
    s.RanksLane p l w (s.laneRanked l w) := by
  cases anew : needsRerank (s.context l) w.ctx with
  | true => exact State.laneRanked_of_anew program anew
  | false => exact State.laneRanked_of_still p anew

/-! #### The completion -/

/-- What an event of one lane does. -/
structure State.LaneEvents (s : State) (p : Program) (l : Lane) (w : LaneWork) (t : State) : Prop where
  context : t.context l = w.ctx
  others : ∀ m, m ≠ l → t.context m = s.context m
  completion : s.CompletionFollows t p
  ranking : s.RankingFollows t p l
  watches : s.WatchesAre t l w.watch.get
  program : t.program = s.program
  source : t.source = s.source
  overrun : t.overrun = s.overrun
  log : t.log = s.log
  takeoffs : t.takeoffs = s.takeoffs
  amend : t.results.amend = s.results.amend
  ports : s.PortsButLamps t
  link : t.link = s.link.reported (w.reports ++ s.closingNotes t l)
  follows : s.inRace l = true → s.BoardFollows t
  keeps : s.EventKeeps t

/-- A race that completes. -/
structure State.Completes (r t : State) : Prop where
  race : t.race = .complete
  clock : t.clock = ⟨.held, r.clock.value⟩
  program : t.program = r.program
  source : t.source = r.source
  overrun : t.overrun = r.overrun
  log : t.log = r.log
  takeoffs : t.takeoffs = r.takeoffs
  lanes : t.lanes = r.lanes
  results : t.results = r.results
  ports : t.ports = r.ports
  channel : ∀ side m, t.channel side m = { r.channel side m with watch := none }
  link : t.link = r.link.reported [.race .complete .running .completion r.eventId r.clock.value r.source]
  freeze : t.board.freeze = none
  spent : t.board.spent = r.board.spent
  mapFits : t.MapFits
  board : r.BoardWork t (fun _ => false) (r.board.freeze ≠ none ∨ r.clock.phase ≠ .held)

theorem State.checkCompletion_of_open (still : ¬ (s.race = .running ∧ s.allDone = true)) : s.checkCompletion = s := if_neg still

theorem State.checkCompletion_of_done (done : s.race = .running ∧ s.allDone = true) : s.Completes s.checkCompletion := by
  have is : s.checkCompletion = ((s.enter .complete { s.clock with phase := .held }).endWatches).raceNote .running .completion
      s.eventId s.clock.value := if_pos done
  have race := s.enter_race .complete { s.clock with phase := .held }
  have clock := s.enter_clock .complete { s.clock with phase := .held }
  have program := s.enter_program .complete { s.clock with phase := .held }
  have source := s.enter_source .complete { s.clock with phase := .held }
  have overrun := s.enter_overrun .complete { s.clock with phase := .held }
  have log := s.enter_log .complete { s.clock with phase := .held }
  have takeoffs := s.enter_takeoffs .complete { s.clock with phase := .held }
  have lanes := s.enter_lanes .complete { s.clock with phase := .held }
  have results := s.enter_results .complete { s.clock with phase := .held }
  have ports := s.enter_ports .complete { s.clock with phase := .held }
  have samplers := s.enter_samplers .complete { s.clock with phase := .held }
  have link := s.enter_link .complete { s.clock with phase := .held }
  have freeze := s.enter_freeze .complete { s.clock with phase := .held }
  have spent := s.enter_spent .complete { s.clock with phase := .held }
  have fits := s.enter_mapFits .complete { s.clock with phase := .held }
  have work := s.enter_boardWork .complete { s.clock with phase := .held }
  rw [is]
  generalize s.enter .complete { s.clock with phase := .held } = e at *
  have ended := State.endWatches_channel e
  refine ⟨race, clock, program, source, overrun, log, takeoffs, lanes, results, ports, fun side m => ?_, ?_, freeze, spent, fits, ?_⟩
  · refine (ended side m).trans ?_
    unfold State.channel State.sampler
    rw [samplers]
  · unfold State.raceNote
    rw [← link]
    change e.link.report (.race e.race .running .completion s.eventId s.clock.value e.source) = _
    rw [race, source]
    rfl
  · have same : s.BoardWork (e.endWatches.raceNote .running .completion s.eventId s.clock.value) (fun _ => false) _ :=
      work.andSame (by rfl) (by rfl) (by rfl)
    exact same.congr (fun _ => rfl) (by simp)

/-- The marks of display row 1 when the race goes on. -/
theorem State.marksClockRow_of_open {r : State} (h : s.RanksLane p l w r) :
    s.FreezesOn l w ∨ s.HeadsDiffer r ↔ s.MarksClockRow r := by
  unfold State.MarksClockRow
  rw [h.clock, h.race]
  constructor
  · rintro (on | ⟨over_, heads⟩)
    · exact .inr (.inr (.inl ⟨on.1.2.2, (h.starts on).1⟩))
    · exact .inr (.inr (.inr ⟨over_, over_, heads⟩))
  · rintro (phase | freeze | ⟨clear, gone⟩ | ⟨over_, -, heads⟩)
    · exact absurd rfl phase
    · by_contra off
      exact freeze (h.stays fun on => off (.inl on)).2.symm
    · by_contra off
      rw [(h.stays fun on => off (.inl on)).1, clear] at gone
      cases gone
    · exact .inr ⟨over_, heads⟩

/-- The marks of display row 1 when the race completes. -/
theorem State.marksClockRow_of_done {r t : State} (running : s.race = .running) (h : s.RanksLane p l w r) (k : r.Completes t) :
    (s.FreezesOn l w ∨ s.HeadsDiffer r) ∨ r.board.freeze ≠ none ∨ r.clock.phase ≠ .held ↔ s.MarksClockRow t := by
  have going : s.race.over = false := by rw [running]; rfl
  unfold State.MarksClockRow State.HeadsDiffer
  rw [k.clock, k.freeze, k.spent, h.clock, going]
  by_cases on : s.FreezesOn l w
  · exact iff_of_true (.inl (.inl on)) (.inr (.inr (.inl ⟨on.1.2.2, (h.starts on).1⟩)))
  · obtain ⟨spent, freeze⟩ := h.stays on
    rw [spent, freeze]
    cases s.board.spent <;> simp [on, or_comm]

theorem State.RanksLane.freezeStarts {r t : State} (h : s.RanksLane p l w r) (lanes : t.lanes = r.lanes) :
    s.FreezeStarts t ↔ s.FreezesOn l w := by
  have context (m : Lane) : t.context m = r.context m := congrArg (fun lanes : Vector LaneContext 10 => lanes[m]) lanes
  exact State.freezeStarts_iff ((context l).trans h.context) fun m away => (context m).trans (h.others m away)

/-- The finals of a lane whose freeze starts. -/
theorem State.RanksLane.final_of {r : State} (h : s.RanksLane p l w r) {m : Lane} {f : Final} (before : (s.context m).final = none)
    (after : (r.context m).final = some f) : w.ctx.final = some f := by
  by_cases same : m = l
  · subst same
    rw [← h.context, after]
  · rw [h.others m same, before] at after
    cases after

theorem State.RanksLane.boardFollows_of_open {r : State} (h : s.RanksLane p l w r) (inRace : s.inRace l = true) : s.BoardFollows r := by
  refine ⟨(h.board inRace).boardShows (fun _ => rfl) h.mapFits fun _ => State.marksClockRow_of_open h,
    fun moved => absurd h.race moved, fun on => ?_, fun off => ?_⟩
  · obtain ⟨spent, freeze⟩ := h.starts ((h.freezeStarts rfl).1 on)
    exact ⟨spent, fun _ m f before after => freeze f (h.final_of before after)⟩
  · obtain ⟨spent, freeze⟩ := h.stays fun on => off ((h.freezeStarts rfl).2 on)
    exact ⟨spent, fun _ => freeze⟩

/-- What is shown when the rows follow always and the marks from a map that fits. -/
theorem State.boardShows_of_fit {written : Lane → Bool} {clock : Prop} (rows : s.AutoRows written t)
    (work : s.MapFits → s.BoardWork t written clock) (fits : s.MapFits → t.MapFits) (marks : clock ↔ s.MarksClockRow t) :
    s.BoardShows written t := by
  refine ⟨rows, fun fit => ?_⟩
  exact ((work fit).boardShows (fun _ => rfl) fits fun _ => marks).2 fit

theorem State.RanksLane.boardFollows_of_done {r : State} (running : s.race = .running) (h : s.RanksLane p l w r) (k : r.Completes t)
    (inRace : s.inRace l = true) : s.BoardFollows t := by
  have places : t.results.places = r.results.places := by rw [k.results]
  have context (m : Lane) : t.context m = r.context m := congrArg (fun lanes : Vector LaneContext 10 => lanes[m]) k.lanes
  have changed (m : Lane) : s.autoChanged t m = s.autoChanged r m := by
    unfold State.autoChanged
    rw [context, places]
  have going : ¬ (s.race = .complete ∨ s.race = .official) := by rw [running]; decide
  have map (fit : s.MapFits) : r.board.map = s.board.map := by
    refine (h.mapFits fit).trans (Eq.trans ?_ fit.symm)
    exact State.mapNow_of_unended going (by rw [h.race]; exact going)
  have rows := (h.board inRace).rows.trans k.board.rows k.board.layout fun m _ _ => State.sameFields_of_eq k.lanes k.results m
  refine ⟨State.boardShows_of_fit (clock := (s.FreezesOn l w ∨ s.HeadsDiffer r) ∨ r.board.freeze ≠ none ∨ r.clock.phase ≠ .held)
      (rows.congr fun m => by rw [changed, Bool.or_false]) (fun fit => ?_) (fun _ => k.mapFits)
      (State.marksClockRow_of_done running h k), fun _ => k.freeze, fun on => ?_, fun off => ?_⟩
  · exact ((h.board inRace).andQuiet k.board (fun _ => .inl (map fit)) k.lanes k.results).congr changed Iff.rfl
  · obtain ⟨spent, -⟩ := h.starts ((h.freezeStarts k.lanes).1 on)
    exact ⟨k.spent.trans spent, fun same => by cases k.race.symm.trans (same.trans running)⟩
  · obtain ⟨spent, -⟩ := h.stays fun on => off ((h.freezeStarts k.lanes).2 on)
    exact ⟨k.spent.trans spent, fun same => by cases k.race.symm.trans (same.trans running)⟩

theorem State.allDone_congr {r : State} (program : s.program = some p) (h : s.RanksLane p l w r) :
    r.allDone = true ↔ (∀ m, p.inRace m = true → (r.context m).IsTerminal) ∧ ∀ m, (r.context m).collecting = none := by
  have inside (m : Lane) : r.inRace m = p.inRace m := by simp [State.inRace, h.program, program]
  rw [State.allDone_iff]
  simp only [inside, LaneContext.terminal_iff]
  exact forall_and

/-- An event of one lane. -/
theorem State.laneEvent_does (program : s.program = some p) (l : Lane) (w : LaneWork) : s.LaneEvents p l w (s.laneEvent l w) := by
  have keeps := (s.laneEvent_contained l w).eventKeeps (s.laneEvent_frame l w)
  have ports := s.laneEvent_portsButLamps l w
  have h := State.laneRanked_ranksLane program l w
  have done := State.allDone_congr program h
  rw [State.laneEvent_eq] at keeps ports ⊢
  generalize s.laneRanked l w = r at *
  by_cases completes : r.race = .running ∧ r.allDone = true
  · have k := State.checkCompletion_of_done completes
    generalize r.checkCompletion = t at *
    have running : s.race = .running := h.race.symm.trans completes.1
    have context (m : Lane) : t.context m = r.context m := congrArg (fun lanes : Vector LaneContext 10 => lanes[m]) k.lanes
    have here := (context l).trans h.context
    have event : r.eventId = s.eventId := by
      unfold State.eventId
      rw [h.program]
    have note : t.rankNote = r.rankNote := by
      unfold State.rankNote
      simp only [k.results, context]
    refine ⟨here, fun m away => (context m).trans (h.others m away), ⟨fun _ => ?_, .inr ⟨running, k.race, by rw [k.clock, h.clock]⟩⟩,
      ⟨fun anew => ?_, fun still => ?_, ?_⟩, ⟨fun _ _ side m => congrArg Channel.watch (k.channel side m), fun still => absurd ⟨running, k.race⟩ still⟩,
      k.program.trans h.program, k.source.trans h.source, k.overrun.trans h.overrun, k.log.trans h.log, k.takeoffs.trans h.takeoffs,
      by rw [k.results, h.amend], ports, ?_, h.boardFollows_of_done running k, keeps⟩
    · simp only [context]
      exact iff_of_true k.race (done.1 completes.2)
    · rw [here, ← h.context] at anew
      exact (State.keepsRanking_of_same k.lanes k.results).ranksFit (h.ranking.1 anew)
    · rw [here, ← h.context] at still
      rw [k.results]
      exact h.ranking.2.1 still
    · have lamps := h.ranking.2.2
      unfold State.LampsFollow at lamps ⊢
      rw [k.ports, k.results]
      exact lamps
    · rw [k.link, h.link, event, h.clock, h.source, ← Link.reported_append, List.append_assoc, State.closingNotes,
        if_pos (show s.race = .running ∧ t.race = .complete from ⟨running, k.race⟩), here, note]
  · rw [State.checkCompletion_of_open completes] at keeps ports ⊢
    have going : ¬ (s.race = .running ∧ r.race = .complete) := by
      rintro ⟨running, complete⟩
      cases running.symm.trans (h.race.symm.trans complete)
    refine ⟨h.context, h.others, ⟨fun running => ?_, .inl ⟨h.race, h.clock⟩⟩, h.ranking, ⟨fun running complete => absurd ⟨running, complete⟩ going,
      fun _ side => ⟨congrArg Channel.watch (h.channel side), h.channels side⟩⟩, h.program, h.source, h.overrun, h.log, h.takeoffs,
      h.amend, ports, ?_, h.boardFollows_of_open, keeps⟩
    · refine iff_of_false (fun complete => going ⟨running, complete⟩) fun all => completes ⟨h.race.trans running, done.2 all⟩
    · rw [State.closingNotes, if_neg going, List.append_nil, h.context]
      exact h.link

end

end Sys2Proof.Machine


/-! ### The timers (chapters 05 to 07; chapter 10, 10.5) -/

namespace Sys2Proof.Machine

section
variable {s t u : State} {p : Program} {l : Lane} {w v : LaneWork} {env : LaneEnv} {x : Settlement}

/-! #### A settled lane -/

/-- What a resolution settles rests on legs, pending takeoff and reaction alone. -/
theorem LaneContext.settledAt_congr {c d : LaneContext} (takeoff : d.takeoff = c.takeoff) (legs : d.legs = c.legs)
    (reaction : d.reaction = c.reaction) (index official : Nat) : d.settledAt p index official = c.settledAt p index official := by
  cases c
  cases d
  cases takeoff
  cases legs
  cases reaction
  rfl

theorem LaneWork.Settles.ctx_eq (h : LaneWork.Settles env w v x) : v.ctx =
    { w.ctx with takeoff := x.takeoff, legs := x.legs, judgements := withCauses w.ctx.judgements x.causes } := by
  have ctx := congrArg LaneWork.ctx h.frame
  rw [h.legs, h.takeoff, h.adds.held] at ctx
  exact ctx

theorem LaneWork.Settles.reports (h : LaneWork.Settles env w v x) :
    v.reports = w.walls ++ w.finishes ++ (w.judges ++ judgeNotes env.lane w.ctx.judgements x.causes) := by
  rw [h.frame.reports, h.adds.notes]

/-- A wall record joins a lane with its causes. -/
structure LaneWork.Records (env : LaneEnv) (cause : WallCause) (r : WallRecord) (w j : LaneWork) : Prop where
  ctx : j.ctx = { w.ctx with resolved := w.ctx.resolved ++ [r], judgements := withCauses w.ctx.judgements r.causes }
  watch : j.watch = w.watch
  walls : j.walls = w.walls ++ [.wall env.lane cause r]
  finishes : j.finishes = w.finishes
  judges : j.judges = w.judges ++ judgeNotes env.lane w.ctx.judgements r.causes

/-- The record of a wall resolved by R99. -/
theorem LaneWork.recorded_records (env : LaneEnv) (cause : WallCause) {r : WallRecord} (timed : r.source ≠ .hand) (w : LaneWork) :
    LaneWork.Records env cause r w ((w.addRecord env cause r).judgeRecord env r) := by
  have frame := LaneWork.judgeRecord_frame (w.addRecord env cause r) env r
  have adds := LaneWork.judgeRecord_adds env timed (w.addRecord env cause r)
  generalize LaneWork.judgeRecord _ _ _ = j at *
  refine ⟨frame.ctx.trans (by rw [adds.held]; rfl), ?_, ?_, ?_, adds.notes⟩
  · rw [frame]
    rfl
  · rw [frame]
    rfl
  · rw [frame]
    rfl

theorem Ends.eq_of_get {α : Type} {a b : Ends α} (same : ∀ side, a.get side = b.get side) : a = b := by
  obtain ⟨start, turn⟩ := a
  have first := same .start
  have second := same .turn
  cases b
  cases first
  cases second
  rfl

/-- What a lane's work comes to: its context, its watches and its reports. -/
structure LaneWork.ComesTo (v : LaneWork) (c : LaneContext) (watch : PoolEnd → Option Nat) (reports : List Report) : Prop where
  ctx : v.ctx = c
  watch : v.watch.get = watch
  reports : v.reports = reports

/-! #### A resolution settled -/

section
variable {cause : WallCause} {r : WallRecord} {j : LaneWork} {e : ExpectedWall} {status : LaneStatus}

theorem LaneWork.Records.settled (h : LaneWork.Records env cause r w j)
    (is : x = w.ctx.settledAt env.program r.index r.official) : (j.settle env r.index r.official).ComesTo
      { w.ctx with
        resolved := w.ctx.resolved ++ [r], takeoff := x.takeoff, legs := x.legs
        judgements := withCauses w.ctx.judgements (r.causes ++ x.causes) }
      (x.watches w.watch.get)
      (w.walls ++ [.wall env.lane cause r] ++ w.finishes ++ (w.judges ++ judgeNotes env.lane w.ctx.judgements (r.causes ++ x.causes))) := by
  have settles := LaneWork.settle_settles env r.index r.official j
  have same : j.ctx.settledAt env.program r.index r.official = x := by
    rw [is]
    refine LaneContext.settledAt_congr ?_ ?_ ?_ _ _ <;> rw [h.ctx]
  rw [same] at settles
  refine ⟨settles.ctx_eq.trans ?_, ?_, settles.reports.trans ?_⟩
  · rw [h.ctx, withCauses_append]
  · funext side
    rw [settles.watch, h.watch]
  · rw [h.ctx, h.walls, h.finishes, h.judges, judgeNotes_append, List.append_assoc w.judges]

/-- The final wall: its official time is the final, confirmed (R103). -/
theorem LaneWork.Records.final (h : LaneWork.Records env cause r w j) (status : LaneStatus) :
    LaneWork.Records env cause r
      { w with
        ctx := { w.ctx with final := some ⟨r.official, true⟩, status }
        finishes := w.finishes ++ [.finish env.lane status r.official true (w.ctx.final.map Final.time)] }
      (j.setFinal env r.official true status) := by
  refine ⟨?_, h.watch, h.walls, ?_, h.judges⟩
  · simp only [LaneWork.setFinal, h.ctx]
  · simp only [LaneWork.setFinal, h.ctx, h.finishes]

theorem LaneWork.Records.wallAfter (h : LaneWork.Records env cause r w j) (index official : Nat) :
    j.ctx.wallAfter env.program index official = w.ctx.wallAfter env.program index official := by
  rw [h.ctx]
  rfl

/-- Any other wall: another one is expected (R75). -/
theorem LaneWork.Records.expects (h : LaneWork.Records env cause r w j) (e : ExpectedWall) :
    LaneWork.Records env cause r (w.placeExpected env e) (j.placeExpected env e) := by
  have frame := w.placeExpected_frame env e
  have frame' := j.placeExpected_frame env e
  have expected := w.placeExpected_expected env e
  have expected' := j.placeExpected_expected env e
  have watch := LaneWork.placeExpected_watch env e w
  have watch' := LaneWork.placeExpected_watch env e j
  generalize w.placeExpected env e = v at *
  generalize j.placeExpected env e = k at *
  have watches : k.watch = v.watch := by
    have start := (watch' .start).trans (Eq.trans (by rw [h.watch]) (watch .start).symm)
    have turn := (watch' .turn).trans (Eq.trans (by rw [h.watch]) (watch .turn).symm)
    exact Ends.eq_of_get fun side => by cases side <;> assumption
  refine ⟨?_, watches, ?_, ?_, ?_⟩
  · rw [frame', frame, expected', expected, h.ctx]
  · rw [frame', frame]
    exact h.walls
  · rw [frame', frame]
    exact h.finishes
  · rw [frame', frame]
    exact h.judges

/-- A resolution with its final, settled. -/
theorem LaneWork.Records.final_settled (h : LaneWork.Records env cause r w j) (status : LaneStatus)
    (is : x = w.ctx.settledAt env.program r.index r.official) :
    ((j.setFinal env r.official true status).settle env r.index r.official).ComesTo
      { w.ctx with
        resolved := w.ctx.resolved ++ [r], status, final := some ⟨r.official, true⟩, takeoff := x.takeoff, legs := x.legs
        judgements := withCauses w.ctx.judgements (r.causes ++ x.causes) }
      (x.watches w.watch.get)
      (w.walls ++ [.wall env.lane cause r]
        ++ (w.finishes ++ [.finish env.lane status r.official true (w.ctx.final.map Final.time)])
        ++ (w.judges ++ judgeNotes env.lane w.ctx.judgements (r.causes ++ x.causes))) :=
  (h.final status).settled (is.trans (LaneContext.settledAt_congr rfl rfl rfl _ _))

/-- A resolution with the next wall expected, settled. -/
theorem LaneWork.Records.expects_settled (h : LaneWork.Records env cause r w j) (e : ExpectedWall)
    (is : x = w.ctx.settledAt env.program r.index r.official) :
    ((j.placeExpected env e).settle env r.index r.official).ComesTo
      { w.ctx with
        resolved := w.ctx.resolved ++ [r], expected := some (e.placed env.now), takeoff := x.takeoff, legs := x.legs
        judgements := withCauses w.ctx.judgements (r.causes ++ x.causes) }
      (x.watches (env.program.watchesArmed env.now e w.watch.get))
      (w.walls ++ [.wall env.lane cause r] ++ w.finishes
        ++ (w.judges ++ judgeNotes env.lane w.ctx.judgements (r.causes ++ x.causes))) := by
  have placed := w.placeExpected_ctx env e
  have frame := w.placeExpected_frame env e
  have watches : (w.placeExpected env e).watch.get = env.program.watchesArmed env.now e w.watch.get :=
    funext fun side => LaneWork.placeExpected_watch env e w side
  have expects := h.expects e
  generalize w.placeExpected env e = a at *
  have settled : x = a.ctx.settledAt env.program r.index r.official := by
    rw [is, placed]
    exact (LaneContext.settledAt_congr rfl rfl rfl _ _)
  obtain ⟨ctx, watch, reports⟩ := expects.settled settled
  rw [placed] at ctx reports
  rw [watches] at watch
  refine ⟨ctx, watch, reports.trans ?_⟩
  rw [frame]

end

/-- A wall of a running race that is not the final wall arms its successor. -/
theorem LaneWork.advance_of_other {r : WallRecord} (running : env.running = true) (other : r.index ≠ env.program.lengths) :
    w.advance env r = w.placeExpected env (w.ctx.wallAfter env.program r.index r.official) := by
  unfold LaneWork.advance
  rw [if_neg (show ¬ env.program.isFinal r.index = true from fun last => other (Program.isFinal_iff.1 last)), LaneWork.armNext_eq running _ other]

theorem LaneWork.advance_of_final {r : WallRecord} (last : r.index = env.program.lengths) :
    w.advance env r = w.setFinal env r.official true .finished := if_pos (Program.isFinal_iff.2 last)

theorem LaneWork.placeExpected_reports (w : LaneWork) (env : LaneEnv) (e : ExpectedWall) :
    (w.placeExpected env e).reports = w.reports := by
  have frame := w.placeExpected_frame env e
  rw [frame]
  rfl

/-! #### The close timer (R100) -/

theorem LaneWork.resolveAtClose_eq (env : LaneEnv) (wall : CollectingWall) (w : LaneWork) : w.resolveAtClose env wall =
    (((((w.on fun c => { c with collecting := none }).addRecord env .closeTimer (recordOfWall env.program wall)).judgeRecord env
      (recordOfWall env.program wall)).advance env (recordOfWall env.program wall)).settle env
      (recordOfWall env.program wall).index (recordOfWall env.program wall).official) := rfl

/-- The final wall at its close time. -/
theorem LaneWork.resolveAtClose_of_final {wall : CollectingWall} {r : WallRecord} (is : r = recordOfWall env.program wall)
    (last : wall.index = env.program.lengths) (xis : x = w.ctx.settledAt env.program wall.index r.official) :
    (w.resolveAtClose env wall).ComesTo
      { w.ctx with
        collecting := none, resolved := w.ctx.resolved ++ [r], status := .finished, final := some ⟨r.official, true⟩
        takeoff := x.takeoff, legs := x.legs, judgements := withCauses w.ctx.judgements (r.causes ++ x.causes) }
      (x.watches w.watch.get)
      (w.walls ++ [.wall env.lane .closeTimer r]
        ++ (w.finishes ++ [.finish env.lane .finished r.official true (w.ctx.final.map Final.time)])
        ++ (w.judges ++ judgeNotes env.lane w.ctx.judgements (r.causes ++ x.causes))) := by
  have timed : r.source ≠ .hand := by
    rw [is]
    exact recordOfWall_source _ _
  have index : r.index = wall.index := by rw [is, recordOfWall_index]
  have records := LaneWork.recorded_records env .closeTimer timed (w.on fun c => { c with collecting := none })
  rw [LaneWork.resolveAtClose_eq, ← is, LaneWork.advance_of_final (index.trans last)]
  refine records.final_settled .finished ?_
  rw [xis, index]
  exact LaneContext.settledAt_congr rfl rfl rfl _ _

/-- Any other wall at its close time. -/
theorem LaneWork.resolveAtClose_of_other {wall : CollectingWall} {r : WallRecord} {e : ExpectedWall} (running : env.running = true)
    (is : r = recordOfWall env.program wall) (other : wall.index ≠ env.program.lengths)
    (next : e = w.ctx.wallAfter env.program wall.index r.official) (xis : x = w.ctx.settledAt env.program wall.index r.official) :
    (w.resolveAtClose env wall).ComesTo
      { w.ctx with
        collecting := none, resolved := w.ctx.resolved ++ [r], expected := some (e.placed env.now)
        takeoff := x.takeoff, legs := x.legs, judgements := withCauses w.ctx.judgements (r.causes ++ x.causes) }
      (x.watches (env.program.watchesArmed env.now e w.watch.get))
      (w.walls ++ [.wall env.lane .closeTimer r] ++ w.finishes
        ++ (w.judges ++ judgeNotes env.lane w.ctx.judgements (r.causes ++ x.causes))) := by
  have timed : r.source ≠ .hand := by
    rw [is]
    exact recordOfWall_source _ _
  have index : r.index = wall.index := by rw [is, recordOfWall_index]
  have records := LaneWork.recorded_records env .closeTimer timed (w.on fun c => { c with collecting := none })
  rw [LaneWork.resolveAtClose_eq, ← is, LaneWork.advance_of_other running (by rw [index]; exact other), records.wallAfter]
  rw [index, show (w.on fun c => { c with collecting := none }).ctx.wallAfter env.program wall.index r.official = e from next.symm,
    ← index]
  refine records.expects_settled e ?_
  rw [xis, index]
  exact LaneContext.settledAt_congr rfl rfl rfl _ _

/-! #### The rows of the timers -/

theorem exec_armTimerExpiry {e : ExpectedWall} (free : s.resetHeld = false) (due : s.armDue l = some e) (program : s.program = some p) :
    exec (.armTimerExpiry l) s = .next (s.commit l ((s.laneWork l).placeExpected (s.laneEnv p l) e)) := by
  refine congrArg Host.Outcome.next ((State.unlessHeld_of_free _ free).trans ?_)
  simp only [State.expireArm, due, program]
  rfl

theorem exec_closeTimerExpiry {wall : CollectingWall} (free : s.resetHeld = false) (due : s.closeDue l = some wall)
    (program : s.program = some p) :
    exec (.closeTimerExpiry l) s = .next (s.laneEvent l ((s.laneWork l).resolveAtClose (s.laneEnv p l) wall)) := by
  refine congrArg Host.Outcome.next ((State.unlessHeld_of_free _ free).trans ?_)
  simp only [State.expireClose, due, program]

theorem State.armDue_of_due {e : ExpectedWall} (running : s.race = .running) (expected : (s.context l).expected = some e)
    (waiting : e.armed = false) (past : e.armTime ≤ s.clock.value) : s.armDue l = some e := by
  simp [State.armDue, running, expected, waiting, past]

theorem State.closeDue_of_due {wall : CollectingWall} (running : s.race = .running) (collecting : (s.context l).collecting = some wall)
    (past : wall.closeTime ≤ s.clock.value) : s.closeDue l = some wall := by
  simp [State.closeDue, running, collecting, past]

theorem State.laneWork_watch (s : State) (l : Lane) : (s.laneWork l).watch.get = s.watches l := by
  funext side
  cases side <;> rfl

end

/-- Settles O41: an arm timer by `State.commit`, a close timer as an event of its lane. -/
theorem timersExpire : Obligations.TimersExpire := by
  refine ⟨⟨fun s p l e free running program expected waiting past => ?_, fun s l early => ?_,
    fun s p l w free running program collecting past => ?_, fun s l early => ?_⟩, fun s f free frozen over_ => ?_, fun s early => ?_,
    fun s => rfl⟩
  · have row := exec_armTimerExpiry free (State.armDue_of_due running expected waiting past) program
    have frame := s.commit_frame l ((s.laneWork l).placeExpected (s.laneEnv p l) e)
    have others (m : Lane) (away : m ≠ l) := s.commit_context_other ((s.laneWork l).placeExpected (s.laneEnv p l) e) away
    have follows := s.commit_boardFollows l ((s.laneWork l).placeExpected (s.laneEnv p l) e)
    have keeps := (s.commit_contained l ((s.laneWork l).placeExpected (s.laneEnv p l) e)).eventKeeps frame.toOnlyRace
    have same := s.commit_channel_same l ((s.laneWork l).placeExpected (s.laneEnv p l) e)
    have other (side : PoolEnd) (m : Lane) (away : m ≠ l) :=
      s.commit_channel_other ((s.laneWork l).placeExpected (s.laneEnv p l) e) side away
    have link := s.commit_link l ((s.laneWork l).placeExpected (s.laneEnv p l) e)
    have context := s.commit_context_same l ((s.laneWork l).placeExpected (s.laneEnv p l) e)
    have watch := LaneWork.placeExpected_watch (s.laneEnv p l) e (s.laneWork l)
    have placed := (s.laneWork l).placeExpected_ctx (s.laneEnv p l) e
    rw [LaneWork.placeExpected_reports] at link
    rw [placed] at context
    simp only [watch, s.laneWork_watch] at same
    generalize s.commit l _ = t at *
    refine ⟨t, row, context.trans ?_, others, fun k exchange fresh => ?_, fun quiet side m => ?_, frame.race, frame.clock, frame.log, frame.results,
      frame.ports, frame.program, frame.takeoffs, link, follows, keeps⟩
    · have now : e.armTime ≤ (s.laneEnv p l).now := past
      simp only [now, decide_true, Bool.or_true]
      rfl
    · refine (congrArg Channel.watch (same e.side)).trans ?_
      change p.watchesArmed s.clock.value e (s.watches l) e.side = some k
      rw [Program.watchesArmed, exchange]
      exact if_pos ⟨past, fresh, rfl⟩
    · by_cases here : m = l
      · subst here
        have still : p.watchesArmed s.clock.value e (s.watches m) side = (s.channel side m).watch := by
          unfold Program.watchesArmed
          obtain none_ | once := quiet
          · rw [none_]
            rfl
          · split
            · exact if_neg fun h => by cases once.symm.trans h.2.1
            · rfl
        refine (same side).trans ?_
        change ({ s.channel side m with watch := p.watchesArmed s.clock.value e (s.watches m) side } : Channel) = _
        rw [still]
      · exact other side m here
  · refine congrArg Host.Outcome.next ?_
    change (if s.resetHeld then s else s.expireArm l) = s
    simp only [State.expireArm, early, ite_self]
  · have row := exec_closeTimerExpiry free (State.closeDue_of_due running collecting past) program
    have does := State.laneEvent_does program l ((s.laneWork l).resolveAtClose (s.laneEnv p l) w)
    have final (last : w.index = p.lengths) := LaneWork.resolveAtClose_of_final (w := s.laneWork l) (env := s.laneEnv p l) rfl last rfl
    have other (further : w.index ≠ p.lengths) := LaneWork.resolveAtClose_of_other (w := s.laneWork l) (env := s.laneEnv p l)
      (State.laneEnv_running.2 running) rfl further rfl rfl
    generalize (s.laneWork l).resolveAtClose (s.laneEnv p l) w = v at *
    generalize s.laneEvent l v = t at *
    have resolved : (t.context l).collecting = none ∧ (t.context l).resolved = (s.context l).resolved ++ [recordOfWall p w] := by
      rw [does.context]
      by_cases last : w.index = p.lengths
      · rw [(final last).ctx]
        exact ⟨rfl, rfl⟩
      · rw [(other last).ctx]
        exact ⟨rfl, rfl⟩
    refine ⟨t, row, resolved.1, resolved.2, fun last => ?_, fun further => ?_, fun x is => ?_, does.others, does.log, does.program,
      does.completion, does.ranking, does.amend, does.ports, does.takeoffs, fun inRace => does.follows ?_, does.keeps⟩
    · rw [does.context, (final last).ctx]
      exact ⟨rfl, rfl, rfl⟩
    · rw [does.context, (other further).ctx]
      exact ⟨rfl, rfl, rfl⟩
    · have watches := does.watches
      have link := does.link
      rw [LaneContext.SettledFrom, does.context, is]
      by_cases last : w.index = p.lengths
      · rw [if_pos last, if_pos last]
        rw [(final last).watch, s.laneWork_watch] at watches
        rw [(final last).reports] at link
        rw [(final last).ctx]
        exact ⟨⟨rfl, rfl, rfl, rfl, rfl⟩, watches, link⟩
      · rw [if_neg last, if_neg last, List.append_nil]
        rw [(other last).watch, s.laneWork_watch] at watches
        rw [(other last).reports] at link
        rw [(other last).ctx]
        exact ⟨⟨rfl, rfl, rfl, rfl, rfl⟩, watches, link⟩
    · rw [State.inRace, program]
      exact inRace
  · refine congrArg Host.Outcome.next ?_
    change (if s.resetHeld then s else s.expireClose l) = s
    simp only [State.expireClose, early, ite_self]
  · have due : s.freezeOver = true := by simp [State.freezeOver, frozen, over_]
    refine congrArg Host.Outcome.next ((State.unlessHeld_of_free _ free).trans ((if_pos due).trans ?_))
    rw [State.endFreeze_eq, frozen]
    rfl
  · have still : s.freezeOver = false := by
      unfold State.freezeOver
      refine Bool.eq_false_iff.2 fun due => ?_
      obtain ⟨f, frozen, past⟩ := (Option.any_eq_true _ _).1 due
      exact absurd (of_decide_eq_true past) (Nat.not_le.2 (early f frozen))
    change Host.Outcome.next (if s.resetHeld then s else if s.freezeOver then s.endFreeze else s) = _
    rw [still, if_neg Bool.false_ne_true, ite_self]

end Sys2Proof.Machine


/-! ### Touches (chapter 05, 5.4 to 5.6) -/

namespace Sys2Proof.Machine

section
variable {s t : State} {p : Program} {l : Lane} {side : PoolEnd} {w : LaneWork} {env : LaneEnv} {x : Settlement}

/-! #### The work of a touch -/

theorem LaneWork.afterTouch_of_final {index : Nat} (last : index = env.program.lengths) (stamp : Nat) (confirmed : Bool) :
    w.afterTouch env index stamp confirmed = w.setFinal env stamp confirmed .finished := if_pos (Program.isFinal_iff.2 last)

/-- The wall expected after a touch (R81, R82). -/
def Program.wallAfterTouch (p : Program) (index stamp : Nat) : ExpectedWall :=
  ⟨index + 1, wallEnd (index + 1), stamp + p.armDelay, false, false⟩

theorem LaneWork.afterTouch_of_other {index : Nat} (other : index ≠ env.program.lengths) (stamp : Nat) (confirmed : Bool) :
    w.afterTouch env index stamp confirmed = w.placeExpected env (env.program.wallAfterTouch index stamp) :=
  if_neg fun last => other (Program.isFinal_iff.1 last)

theorem Settlement.watches_none {watch : PoolEnd → Option Nat} (stays : x.ended = none) : x.watches watch = watch := by
  funext side
  rw [Settlement.watches, stays]

/-- A touch that leaves its wall collecting, of the final wall. -/
theorem LaneWork.fill_of_final {index stamp : Nat} (last : index = env.program.lengths) (c : CollectingWall) :
    ((w.on fun d => { d with collecting := some c }).afterTouch env index stamp false).ComesTo
      { w.ctx with collecting := some c, status := .finished, final := some ⟨stamp, false⟩ } w.watch.get
      (w.walls ++ (w.finishes ++ [.finish env.lane .finished stamp false (w.ctx.final.map Final.time)]) ++ w.judges) := by
  rw [LaneWork.afterTouch_of_final last]
  exact ⟨rfl, rfl, rfl⟩

/-- A touch that leaves its wall collecting, of any other wall. -/
theorem LaneWork.fill_of_other {index stamp : Nat} (other : index ≠ env.program.lengths) (c : CollectingWall) :
    ((w.on fun d => { d with collecting := some c }).afterTouch env index stamp false).ComesTo
      { w.ctx with collecting := some c, expected := some ((env.program.wallAfterTouch index stamp).placed env.now) }
      (env.program.watchesArmed env.now (env.program.wallAfterTouch index stamp) w.watch.get) w.reports := by
  rw [LaneWork.afterTouch_of_other other]
  refine ⟨LaneWork.placeExpected_ctx _ _ _, ?_, LaneWork.placeExpected_reports _ _ _⟩
  funext side
  rw [LaneWork.placeExpected_watch]
  rfl

/-- The record of a wall touched away from the station end (R80). -/
def ExpectedWall.touchedAt (e : ExpectedWall) (stamp : Nat) : WallRecord :=
  ⟨e.index, e.side, stamp, .pad, some stamp, none, 0, false⟩

/-- The wall that a touch at the station end opens (R79). -/
def ExpectedWall.opened (p : Program) (e : ExpectedWall) (stamp : Nat) : CollectingWall :=
  ⟨e.index, e.side, some stamp, [], stamp + p.window⟩

/-- A touch at the station end opens its wall: the final wall. -/
theorem LaneWork.touch_station_of_final {e : ExpectedWall} (station : env.program.isStation e.index = true)
    (last : e.index = env.program.lengths) (stamp : Nat) : (w.touch env e stamp).ComesTo
      { w.ctx with
        expected := none, collecting := some (e.opened env.program stamp), status := .finished, final := some ⟨stamp, false⟩ }
      w.watch.get
      (w.walls ++ (w.finishes ++ [.finish env.lane .finished stamp false (w.ctx.final.map Final.time)]) ++ w.judges) := by
  unfold LaneWork.touch
  rw [if_pos station]
  exact LaneWork.fill_of_final last (e.opened env.program stamp)

/-- A touch at the station end opens its wall: any other wall. -/
theorem LaneWork.touch_station_of_other {e : ExpectedWall} (station : env.program.isStation e.index = true)
    (other : e.index ≠ env.program.lengths) (stamp : Nat) : (w.touch env e stamp).ComesTo
      { w.ctx with
        collecting := some (e.opened env.program stamp)
        expected := some ((env.program.wallAfterTouch e.index stamp).placed env.now) }
      (env.program.watchesArmed env.now (env.program.wallAfterTouch e.index stamp) w.watch.get) w.reports := by
  unfold LaneWork.touch
  rw [if_pos station]
  exact LaneWork.fill_of_other other (e.opened env.program stamp)

theorem LaneWork.touch_of_open {e : ExpectedWall} (open_ : env.program.isStation e.index ≠ true) (stamp : Nat) :
    w.touch env e stamp = (((w.on fun c => { c with expected := none }).addRecord env .touch (e.touchedAt stamp)).afterTouch env
      e.index stamp true).settle env e.index stamp :=
  if_neg open_

/-- The record of a touch brings no cause. -/
theorem LaneWork.touched_records (env : LaneEnv) (e : ExpectedWall) (stamp : Nat) (w : LaneWork) :
    LaneWork.Records env .touch (e.touchedAt stamp) w (w.addRecord env .touch (e.touchedAt stamp)) :=
  ⟨rfl, rfl, rfl, rfl, (List.append_nil _).symm⟩

/-- A touch that resolves the final wall. -/
theorem LaneWork.touch_of_final {e : ExpectedWall} (open_ : env.program.isStation e.index ≠ true)
    (last : e.index = env.program.lengths) {stamp : Nat} (is : x = w.ctx.settledAt env.program e.index stamp) :
    (w.touch env e stamp).ComesTo
      { w.ctx with
        expected := none, resolved := w.ctx.resolved ++ [e.touchedAt stamp], status := .finished, final := some ⟨stamp, true⟩
        takeoff := x.takeoff, legs := x.legs, judgements := withCauses w.ctx.judgements x.causes }
      (x.watches w.watch.get)
      (w.walls ++ [.wall env.lane .touch (e.touchedAt stamp)]
        ++ (w.finishes ++ [.finish env.lane .finished stamp true (w.ctx.final.map Final.time)])
        ++ (w.judges ++ judgeNotes env.lane w.ctx.judgements x.causes)) := by
  have records := LaneWork.touched_records env e stamp (w.on fun c => { c with expected := none })
  rw [LaneWork.touch_of_open open_, LaneWork.afterTouch_of_final last]
  refine records.final_settled .finished ?_
  rw [is]
  exact (LaneContext.settledAt_congr rfl rfl rfl _ _).symm

/-- A touch that resolves any other wall. -/
theorem LaneWork.touch_of_other {e : ExpectedWall} (open_ : env.program.isStation e.index ≠ true)
    (other : e.index ≠ env.program.lengths) {stamp : Nat} (is : x = w.ctx.settledAt env.program e.index stamp) :
    (w.touch env e stamp).ComesTo
      { w.ctx with
        expected := some ((env.program.wallAfterTouch e.index stamp).placed env.now)
        resolved := w.ctx.resolved ++ [e.touchedAt stamp], takeoff := x.takeoff, legs := x.legs
        judgements := withCauses w.ctx.judgements x.causes }
      (x.watches (env.program.watchesArmed env.now (env.program.wallAfterTouch e.index stamp) w.watch.get))
      (w.walls ++ [.wall env.lane .touch (e.touchedAt stamp)] ++ w.finishes
        ++ (w.judges ++ judgeNotes env.lane w.ctx.judgements x.causes)) := by
  have records := LaneWork.touched_records env e stamp (w.on fun c => { c with expected := none })
  rw [LaneWork.touch_of_open open_, LaneWork.afterTouch_of_other other]
  refine records.expects_settled (env.program.wallAfterTouch e.index stamp) ?_
  rw [is]
  exact (LaneContext.settledAt_congr rfl rfl rfl _ _).symm

/-! #### A touch and its entry (R85) -/

/-- The state in which the Lane Engine takes a touch: the press held, its entry made, its TOUCH_NOTE sent. -/
def State.touched (s : State) (p : Program) (l : Lane) (side : PoolEnd) (wall v : Nat) (use : TouchUse) : State :=
  { s with
    ports := s.ports.setLaneEnd l side { s.ports.laneEnd l side with pad := .pressed, held := some 1 }
    log := s.log.add (.race v) (.pad l side) (some wall) .accepted
    link := s.link.reported (s.log.notes ++ [.touch l side wall v use (decide (wall = p.lengths))]) }

theorem State.touched_eq (s : State) (p : Program) (l : Lane) (side : PoolEnd) (wall v : Nat) (use : TouchUse) :
    State.touchNote ((s.padHeld l side).logEntry (.race v) (.pad l side) (some wall) .accepted) p l side wall v use =
      s.touched p l side wall v use := by
  rw [State.logEntry_eq, State.touched, Link.reported_append]
  rfl

/-- A press that is the touch of the expected wall. -/
theorem exec_padPress_of_touch {e : ExpectedWall} {v : Nat} (free : s.resetHeld = false)
    (seen : (s.ports.laneEnd l side).pad = .pressSeen (.race v)) (timed : s.ports.laneMode l = .timed)
    (on : (s.ports.laneEnd l side).padOn = true) (used : s.padUse l side (.race v) = .touch e v) (program : s.program = some p) :
    exec (.padPress l side) s = .next
      ((s.touched p l side e.index v (if p.isStation e.index then .collecting else .resolved)).laneEvent l
        ((s.laneWork l).touch (s.laneEnv p l) e v)) := by
  have event : (s.padHeld l side).padEvent l side (.race v) = (State.touchNote ((s.padHeld l side).logEntry (.race v) (.pad l side)
      (some e.index) .accepted) p l side e.index v (if p.isStation e.index then .collecting else .resolved)).laneEvent l
      (((s.padHeld l side).laneWork l).touch ((s.padHeld l side).laneEnv p l) e v) := by
    have program' : (s.padHeld l side).program = some p := program
    unfold State.padEvent
    rw [State.padUse_padHeld, used, program']
  rw [exec_padPress free seen, State.recognisePad_of_enabled timed on, event, State.touched_eq]
  rfl

/-- A press that is the pad time of the collecting wall. -/
theorem exec_padPress_of_padTime {c : CollectingWall} {v : Nat} (free : s.resetHeld = false)
    (seen : (s.ports.laneEnd l side).pad = .pressSeen (.race v)) (timed : s.ports.laneMode l = .timed)
    (on : (s.ports.laneEnd l side).padOn = true) (used : s.padUse l side (.race v) = .padTime c v) (program : s.program = some p) :
    exec (.padPress l side) s = .next
      ((s.touched p l side c.index v .padTime).laneEvent l ((s.laneWork l).fillPad (s.laneEnv p l) c v)) := by
  have event : (s.padHeld l side).padEvent l side (.race v) = (State.touchNote ((s.padHeld l side).logEntry (.race v) (.pad l side)
      (some c.index) .accepted) p l side c.index v .padTime).laneEvent l
      (((s.padHeld l side).laneWork l).fillPad ((s.padHeld l side).laneEnv p l) c v) := by
    have program' : (s.padHeld l side).program = some p := program
    unfold State.padEvent
    rw [State.padUse_padHeld, used, program']
  rw [exec_padPress free seen, State.recognisePad_of_enabled timed on, event, State.touched_eq]
  rfl

theorem State.padUse_of_touch {e : ExpectedWall} {v : Nat} (running : s.race = .running) (inRace : s.inRace l = true)
    (swimming : (s.context l).status = .swimming) (open_ : (s.context l).collecting = none)
    (expected : (s.context l).expected = some e) (here : e.side = side) (armed : e.armed = true) (later : e.armTime < v) :
    s.padUse l side (.race v) = .touch e v := by
  have takes : (s.context l).takesTouches = true := by rw [LaneContext.takesTouches, swimming]
  rw [State.padUse_of_race running inRace, LaneContext.padUse_of_open takes fun w collecting => (nomatch open_.symm.trans collecting),
    LaneContext.touchExpected, LaneContext.expectedAt_eq_some expected here]
  exact if_pos ⟨armed, later⟩

theorem State.padUse_of_padTime {c : CollectingWall} {v : Nat} (running : s.race = .running) (inRace : s.inRace l = true)
    (swimming : (s.context l).status = .swimming) (collecting : (s.context l).collecting = some c) (here : c.side = side)
    (untimed : c.pad = none) (early : v < c.closeTime) : s.padUse l side (.race v) = .padTime c v := by
  have takes : (s.context l).takesTouches = true := by rw [LaneContext.takesTouches, swimming]
  rw [State.padUse_of_race running inRace]
  simp [LaneContext.padUse, takes, LaneContext.collectingAt_eq_some collecting here, untimed, early]

/-- What an event of a lane after a touch does, seen from before the press. -/
structure State.TouchEvents (s : State) (p : Program) (l : Lane) (side : PoolEnd) (wall v : Nat) (use : TouchUse) (w : LaneWork)
    (t : State) : Prop where
  context : t.context l = w.ctx
  others : ∀ m, m ≠ l → t.context m = s.context m
  completion : s.CompletionFollows t p
  ranking : s.RankingFollows t p l
  watches : s.WatchesAre t l w.watch.get
  program : t.program = s.program
  log : t.log = s.log.add (.race v) (.pad l side) (some wall) .accepted
  takeoffs : t.takeoffs = s.takeoffs
  amend : t.results.amend = s.results.amend
  ports : (s.padHeld l side).PortsButLamps t
  link : t.link = s.link.reported (s.log.notes ++ [.touch l side wall v use (decide (wall = p.lengths))] ++ w.reports
    ++ s.closingNotes t l)
  follows : s.BoardFollows t
  keeps : s.EventKeeps t

theorem State.padHeld_lamp (s : State) (l : Lane) (side : PoolEnd) (m : Lane) (other : PoolEnd) :
    ((s.padHeld l side).ports.laneEnd m other).lamp = (s.ports.laneEnd m other).lamp := by
  change ((s.ports.setLaneEnd l side { s.ports.laneEnd l side with pad := .pressed, held := some 1 }).laneEnd m other).lamp = _
  by_cases here : m = l ∧ other = side
  · obtain ⟨rfl, rfl⟩ := here
    rw [Ports.laneEnd_setLaneEnd_same]
  · rw [Ports.laneEnd_setLaneEnd_other _ _ here]

theorem State.touched_does (program : s.program = some p) (inRace : p.inRace l = true) (side : PoolEnd) (wall v : Nat)
    (use : TouchUse) (w : LaneWork) :
    s.TouchEvents p l side wall v use w ((s.touched p l side wall v use).laneEvent l w) := by
  have does := State.laneEvent_does (s := s.touched p l side wall v use) program l w
  generalize (s.touched p l side wall v use).laneEvent l w = t at *
  have inside : (s.touched p l side wall v use).inRace l = true := by
    change s.inRace l = true
    rw [State.inRace, program]
    exact inRace
  obtain ⟨anew, still, lamps⟩ := does.ranking
  obtain ⟨pending, held, zeroing, board, samplers, link⟩ := does.keeps
  refine ⟨does.context, does.others, does.completion, ⟨anew, still, fun m other => (lamps m other).trans ?_⟩, does.watches, does.program,
    does.log, does.takeoffs, does.amend, does.ports, ?_, does.follows inside,
    pending, held, zeroing, board, samplers, (Link.reported_sameButReports _ _).trans link⟩
  · have lamp := s.padHeld_lamp l side m other
    exact if_congr Iff.rfl rfl lamp
  · rw [does.link]
    change (s.link.reported _).reported (w.reports ++ s.closingNotes t l) = _
    rw [← Link.reported_append, List.append_assoc, List.append_assoc, List.append_assoc]

/-- Without a re-rank results and ports stay. -/
theorem State.laneEvent_of_still (still : ranksAnew (s.context l) w.ctx = false) :
    (s.laneEvent l w).results = s.results ∧ (s.laneEvent l w).ports = s.ports := by
  have quiet : ¬ needsRerank (s.context l) w.ctx = true := by
    rw [needsRerank_eq, still]
    decide
  refine ⟨by rw [State.laneEvent_results, if_neg quiet], ?_⟩
  rw [State.laneEvent_eq, State.checkCompletion_ports, State.laneRanked, if_neg quiet, (s.commit_frame l w).ports]

/-- A lane of the race that swims or collects keeps the race running. -/
theorem State.CompletionFollows.goes_on (h : s.CompletionFollows t p) (running : s.race = .running)
    (open_ : p.inRace l = true ∧ ¬ (t.context l).IsTerminal ∨ (t.context l).collecting ≠ none) :
    t.race = s.race ∧ t.clock = s.clock ∧ t.race ≠ .complete := by
  obtain ⟨completes, moves⟩ := h
  have still : t.race ≠ .complete := by
    intro complete
    obtain ⟨terminal, closed⟩ := (completes running).1 complete
    obtain ⟨inside, swims⟩ | collects := open_
    · exact swims (terminal l inside)
    · exact collects (closed l)
  obtain ⟨race, clock⟩ | ⟨-, complete, -⟩ := moves
  · exact ⟨race, clock, still⟩
  · exact absurd complete still

theorem State.closingNotes_of_going (going : t.race ≠ .complete) :
    s.closingNotes t l = if ranksAnew (s.context l) (t.context l) then [t.rankNote] else [] := by
  rw [State.closingNotes, if_neg fun h : s.race = .running ∧ t.race = .complete => going h.2, List.append_nil]

theorem ranksAnew_of_swimming {c d : LaneContext} (before : c.status = .swimming) (after : d.status = .swimming) :
    ranksAnew c d = false := by
  simp [ranksAnew, before, after]

theorem ranksAnew_of_finish {c d : LaneContext} (before : c.status = .swimming) (after : d.status = .finished) :
    ranksAnew c d = true := by
  simp [ranksAnew, before, after]

theorem LaneContext.not_terminal_of_swimming {c : LaneContext} (swimming : c.status = .swimming) : ¬ c.IsTerminal := by
  unfold LaneContext.IsTerminal
  rw [swimming]
  simp

end

/-- Settles O36: a touch of a wall that is not the final wall leaves the lane SWIMMING; a pad time may set its final. -/
theorem touchIsTaken : Obligations.TouchIsTaken := by
  refine ⟨fun s p l side e v free seen timed on running program inRace swimming open_ expected here armed later further => ?_,
    fun s p l side w v free seen timed on running program inRace swimming collecting here untimed early => ?_⟩
  · subst here
    have inside : s.inRace l = true := by
      rw [State.inRace, program]
      exact inRace
    have row := exec_padPress_of_touch free seen timed on (State.padUse_of_touch running inside swimming open_ expected rfl armed later)
      program
    have does := State.touched_does program inRace e.side e.index v (if p.isStation e.index then .collecting else .resolved)
      ((s.laneWork l).touch (s.laneEnv p l) e v)
    have kept := State.laneEvent_of_still (s := s.touched p l e.side e.index v (if p.isStation e.index then .collecting else .resolved))
      (l := l) (w := (s.laneWork l).touch (s.laneEnv p l) e v)
    have isStation : p.isStation e.index = true ↔ p.station = some (wallEnd e.index) := decide_eq_true_iff
    have station (at_ : p.isStation e.index = true) := LaneWork.touch_station_of_other (w := s.laneWork l) (env := s.laneEnv p l) at_
      further v
    have away (at_ : p.isStation e.index ≠ true) := LaneWork.touch_of_other (w := s.laneWork l) (env := s.laneEnv p l) at_ further
      (stamp := v) rfl
    generalize (s.laneWork l).touch (s.laneEnv p l) e v = w at *
    generalize (s.touched p l e.side e.index v (if p.isStation e.index then .collecting else .resolved)).laneEvent l w = t at *
    have work : w.ctx.status = .swimming ∧ w.ctx.final = (s.context l).final
        ∧ w.ctx.expected = some ((p.wallAfterTouch e.index v).placed s.clock.value) := by
      by_cases at_ : p.isStation e.index = true
      · rw [(station at_).ctx]
        exact ⟨swimming, rfl, rfl⟩
      · rw [(away at_).ctx]
        exact ⟨swimming, rfl, rfl⟩
    obtain ⟨swims, final, next⟩ := work
    have still : ranksAnew (s.context l) w.ctx = false := ranksAnew_of_swimming swimming swims
    obtain ⟨race, clock, going⟩ := does.completion.goes_on running (.inl ⟨inRace, by
      rw [does.context]
      exact LaneContext.not_terminal_of_swimming swims⟩)
    obtain ⟨results, ports⟩ := kept still
    have silent : s.closingNotes t l = [] := by
      rw [State.closingNotes_of_going going, does.context, still]
      rfl
    have link := does.link
    rw [silent, List.append_nil, decide_eq_false further] at link
    refine ⟨t, row, does.log, ?_, ?_, ⟨(p.wallAfterTouch e.index v).placed s.clock.value, ?_, rfl, rfl, rfl, rfl⟩, fun at_ => ?_, fun at_ => ?_,
      fun x notes case_ => ?_, does.others, race, clock, does.program, results, ports, does.takeoffs, does.follows, does.keeps⟩
    · rw [does.context, swims]
    · rw [does.context, final]
    · rw [does.context, next]
    · rw [does.context, (station (isStation.2 at_)).ctx]
      exact ⟨rfl, rfl⟩
    · rw [does.context, (away fun h => at_ (isStation.1 h)).ctx]
      exact ⟨open_, rfl⟩
    · have watches := does.watches
      obtain ⟨at_, is, notes⟩ | ⟨at_, is, notes⟩ := case_
      · rw [(station (isStation.2 at_)).watch] at watches
        rw [(station (isStation.2 at_)).reports, if_pos (isStation.2 at_)] at link
        rw [LaneContext.SettledFrom, does.context, (station (isStation.2 at_)).ctx, is, notes]
        refine ⟨⟨rfl, rfl, rfl, rfl, rfl⟩, ?_, ?_⟩
        · rw [Settlement.watches_none rfl, ← s.laneWork_watch]
          exact watches
        · exact link
      · have off : p.isStation e.index ≠ true := fun h => at_ (isStation.1 h)
        rw [(away off).watch] at watches
        rw [(away off).reports, if_neg off] at link
        rw [LaneContext.SettledFrom, does.context, (away off).ctx, is, notes]
        refine ⟨⟨rfl, rfl, rfl, rfl, rfl⟩, ?_, ?_⟩
        · rw [← s.laneWork_watch]
          exact watches
        · rw [link]
          refine congrArg (Link.reported _) ?_
          simp only [List.append_assoc]
          rfl
  · subst here
    have inside : s.inRace l = true := by
      rw [State.inRace, program]
      exact inRace
    have row := exec_padPress_of_padTime free seen timed on (State.padUse_of_padTime running inside swimming collecting rfl untimed early)
      program
    have does := State.touched_does program inRace w.side w.index v .padTime ((s.laneWork l).fillPad (s.laneEnv p l) w v)
    have kept := State.laneEvent_of_still (s := s.touched p l w.side w.index v .padTime) (l := l)
      (w := (s.laneWork l).fillPad (s.laneEnv p l) w v)
    have final (last : w.index = p.lengths) := LaneWork.fill_of_final (w := s.laneWork l) (env := s.laneEnv p l) (stamp := v) last
      { w with pad := some v }
    have other (further : w.index ≠ p.lengths) := LaneWork.fill_of_other (w := s.laneWork l) (env := s.laneEnv p l) (stamp := v)
      further { w with pad := some v }
    change ∀ last, LaneWork.ComesTo ((s.laneWork l).fillPad (s.laneEnv p l) w v) _ _ _ at final
    change ∀ further, LaneWork.ComesTo ((s.laneWork l).fillPad (s.laneEnv p l) w v) _ _ _ at other
    generalize (s.laneWork l).fillPad (s.laneEnv p l) w v = f at *
    generalize (s.touched p l w.side w.index v .padTime).laneEvent l f = t at *
    have work : f.ctx.collecting = some { w with pad := some v } ∧ f.ctx.resolved = (s.context l).resolved
        ∧ f.ctx.judgements = (s.context l).judgements ∧ (s.context l).SettledFrom (s.context l).unsettled [] f.ctx := by
      by_cases last : w.index = p.lengths
      · rw [(final last).ctx]
        exact ⟨rfl, rfl, rfl, rfl, rfl, rfl, rfl, rfl⟩
      · rw [(other last).ctx]
        exact ⟨rfl, rfl, rfl, rfl, rfl, rfl, rfl, rfl⟩
    obtain ⟨collects, resolved, judgements, settled⟩ := work
    obtain ⟨race, clock, going⟩ := does.completion.goes_on running (l := l) (.inr (by
      rw [does.context, collects]
      exact nofun))
    have notes := State.closingNotes_of_going (s := s) (l := l) going
    have link := does.link
    have watches := does.watches
    rw [notes, does.context] at link
    have context := does.context
    refine ⟨t, row, does.log, by rw [context, collects], by rw [context, resolved], by rw [context, judgements], fun further => ?_, fun last => ?_,
      does.ranking, does.amend, by rw [context]; exact settled, ?_, ?_, does.others, race, clock, does.program, does.takeoffs, does.follows, does.keeps⟩
    · have still : ranksAnew (s.context l) f.ctx = false := by
        rw [(other further).ctx]
        exact ranksAnew_of_swimming swimming swimming
      obtain ⟨results, ports⟩ := kept still
      rw [context, (other further).ctx]
      exact ⟨swimming, rfl, results, ports, rfl⟩
    · have anew : ranksAnew (s.context l) (t.context l) = true := by
        rw [context, (final last).ctx]
        exact ranksAnew_of_finish swimming rfl
      have finished : (t.context l).status = .finished := by rw [context, (final last).ctx]
      refine ⟨finished, ?_, ?_, ((does.ranking.1 anew).1 l).2 finished⟩
      · rw [context, (final last).ctx]
      · rw [context, (final last).ctx]
        rfl
    · by_cases last : w.index = p.lengths
      · rw [if_pos last, ← s.laneWork_watch]
        rw [(final last).watch] at watches
        exact watches
      · rw [if_neg last, ← s.laneWork_watch]
        rw [(other last).watch] at watches
        exact watches
    · by_cases last : w.index = p.lengths
      · have anew : ranksAnew (s.context l) f.ctx = true := by
          rw [(final last).ctx]
          exact ranksAnew_of_finish swimming rfl
        rw [(final last).reports, anew] at link
        rw [if_pos last, link]
        simp only [List.append_assoc]
        rfl
      · have still : ranksAnew (s.context l) f.ctx = false := by
          rw [(other last).ctx]
          exact ranksAnew_of_swimming swimming swimming
        rw [(other last).reports, still] at link
        rw [if_neg last, link]
        simp only [List.append_assoc]
        rfl

/-- Settles O37: a touch of the final wall as an event of its lane. -/
theorem finalTouchFinishes : Obligations.FinalTouchFinishes := by
  intro s p l side e v free seen timed on running program inRace swimming open_ expected here armed later last
  subst here
  have inside : s.inRace l = true := by
    rw [State.inRace, program]
    exact inRace
  have row := exec_padPress_of_touch free seen timed on (State.padUse_of_touch running inside swimming open_ expected rfl armed later)
    program
  have does := State.touched_does program inRace e.side e.index v (if p.isStation e.index then .collecting else .resolved)
    ((s.laneWork l).touch (s.laneEnv p l) e v)
  have isStation : p.isStation e.index = true ↔ p.station = some (wallEnd e.index) := decide_eq_true_iff
  have station (at_ : p.isStation e.index = true) := LaneWork.touch_station_of_final (w := s.laneWork l) (env := s.laneEnv p l) at_
    last v
  have away (at_ : p.isStation e.index ≠ true) := LaneWork.touch_of_final (w := s.laneWork l) (env := s.laneEnv p l) at_ last
    (stamp := v) rfl
  generalize (s.laneWork l).touch (s.laneEnv p l) e v = w at *
  generalize (s.touched p l e.side e.index v (if p.isStation e.index then .collecting else .resolved)).laneEvent l w = t at *
  have context := does.context
  have work : w.ctx.status = .finished ∧ w.ctx.expected = none
      ∧ w.ctx.final = some ⟨v, decide (p.station ≠ some (wallEnd e.index))⟩ := by
    by_cases at_ : p.isStation e.index = true
    · rw [(station at_).ctx, decide_eq_false fun h => h (isStation.1 at_)]
      exact ⟨rfl, rfl, rfl⟩
    · rw [(away at_).ctx, decide_eq_true (show p.station ≠ some (wallEnd e.index) from fun h => at_ (isStation.2 h))]
      exact ⟨rfl, rfl, rfl⟩
  obtain ⟨finishes, next, final⟩ := work
  have anew : ranksAnew (s.context l) (t.context l) = true := by
    rw [context]
    exact ranksAnew_of_finish swimming finishes
  have ranks := does.ranking.1 anew
  have finished : (t.context l).status = .finished := by rw [context, finishes]
  have value : t.clock.value = s.clock.value := by
    obtain ⟨-, clock⟩ | ⟨-, -, clock⟩ := does.completion.2 <;> rw [clock]
  refine ⟨t, row, does.log, finished, by rw [context, next], by rw [context, final], fun at_ => ?_, fun at_ => ?_, does.completion,
    fun x walls use case_ => ?_, (ranks.1 l).2 finished, ranks, does.ranking, does.amend, does.ports.2, does.others, does.program, value,
    does.takeoffs, does.follows, does.keeps⟩
  · have collects : (t.context l).collecting = some (e.opened p v) := by
      rw [context, (station (isStation.2 at_)).ctx]
      rfl
    refine ⟨collects, ?_⟩
    obtain ⟨race, -, -⟩ := does.completion.goes_on running (l := l) (.inr (by rw [collects]; exact nofun))
    rw [race, running]
  · have off : p.isStation e.index ≠ true := fun h => at_ (isStation.1 h)
    have terminal : (t.context l).IsTerminal := by
      refine .inl ⟨finished, ?_⟩
      rw [context, final, decide_eq_true at_]
      rfl
    have closed : (t.context l).collecting = none := by
      rw [context, (away off).ctx]
      exact open_
    refine ⟨?_, (does.completion.1 running).trans ⟨fun ⟨done, none_⟩ m other => ?_, fun rest => ⟨fun m among => ?_, fun m => ?_⟩⟩⟩
    · rw [context, (away off).ctx]
      rfl
    · rw [← does.others m other]
      exact ⟨done m, none_ m⟩
    · by_cases same : m = l
      · rw [same]
        exact terminal
      · rw [does.others m same]
        exact (rest m same).1 among
    · by_cases same : m = l
      · rw [same]
        exact closed
      · rw [does.others m same]
        exact (rest m same).2
  · have watches := does.watches
    have link := does.link
    rw [decide_eq_true last] at link
    obtain ⟨at_, is, is', is''⟩ | ⟨at_, is, is', is''⟩ := case_
    · have on := isStation.2 at_
      rw [(station on).watch] at watches
      rw [(station on).reports, if_pos on] at link
      rw [LaneContext.SettledFrom, context, (station on).ctx, is, is', is'', decide_eq_false fun h => h at_]
      refine ⟨⟨rfl, rfl, rfl, rfl, rfl⟩, ?_, ?_⟩
      · rw [Settlement.watches_none rfl, ← s.laneWork_watch]
        exact watches
      · rw [link]
        simp only [List.append_assoc]
        rfl
    · have off : p.isStation e.index ≠ true := fun h => at_ (isStation.1 h)
      rw [(away off).watch] at watches
      rw [(away off).reports, if_neg off] at link
      rw [LaneContext.SettledFrom, context, (away off).ctx, is, is', is'', decide_eq_true at_]
      refine ⟨⟨rfl, rfl, rfl, rfl, rfl⟩, ?_, ?_⟩
      · rw [← s.laneWork_watch]
        exact watches
      · rw [link]
        simp only [List.append_assoc]
        rfl

end Sys2Proof.Machine


/-! ### The amendments (chapter 08, 8.4; chapter 06, 6.6) -/

namespace Sys2Proof.Machine

section
variable {s t u : State} {p : Program} {l : Lane} {w j : LaneWork} {env : LaneEnv} {x : Settlement} {cause : WallCause}
  {r : WallRecord} {status : LaneStatus}

/-! #### What an amendment does -/

/-- What an AMEND that is carried out does. -/
structure State.AmendEvents (s : State) (p : Program) (l : Lane) (code : Option Nat) (action : Byte) (more : List Byte)
    (w : LaneWork) (t : State) : Prop where
  context : t.context l = w.ctx
  others : ∀ m, m ≠ l → t.context m = s.context m
  completion : s.CompletionFollows t p
  ranking : s.RankingFollows t p l
  watches : s.WatchesAre t l w.watch.get
  program : t.program = s.program
  log : t.log = s.log
  amended : t.results.amend[l] = ⟨code, true⟩
  amends : ∀ m : Lane, m ≠ l → t.results.amend[m] = s.results.amend[m]
  ports : s.PortsButLamps t
  link : t.link = (s.link.answered kindAmend .done ([laneCode l, action, w.ctx.status.code] ++ more)).reported
    (w.reports ++ s.closingNotes t l)
  follows : s.BoardFollows t
  keeps : s.CommandKeeps kindAmend .done ([laneCode l, action, w.ctx.status.code] ++ more) t

theorem State.amend_does (program : s.program = some p) (inRace : p.inRace l = true) (code : Option Nat) (action : Byte)
    (more : List Byte) (w : LaneWork) :
    s.AmendEvents p l code action more w (((s.dropInbound.setAmendment l code).laneEvent l w).amended l action more) := by
  have does := State.laneEvent_does (s := s.dropInbound.setAmendment l code) program l w
  unfold State.amended
  generalize (s.dropInbound.setAmendment l code).laneEvent l w = u at *
  have inside : (s.dropInbound.setAmendment l code).inRace l = true := by
    change s.inRace l = true
    rw [State.inRace, program]
    exact inRace
  have amend : u.results.amend = s.results.amend.set l ⟨code, true⟩ := does.amend
  have keeps : s.dropInbound.EventKeeps u := does.keeps
  rw [does.context]
  refine ⟨does.context, does.others, does.completion, does.ranking, does.watches, does.program, does.log, ?_, fun m away => ?_, does.ports,
    State.answer_reported (s := s) does.link _ _ _, does.follows inside, keeps.answer does.takeoffs _ _ _⟩
  · change u.results.amend[l] = _
    rw [amend]
    exact Vector.getElem_set_self l.isLt
  · change u.results.amend[m] = _
    rw [amend]
    exact Vector.getElem_set_ne l.isLt m.isLt fun same => away (Fin.ext same.symm)

/-! #### A lane taken out (R127, R140 to R142) -/

theorem LaneContext.exchangeJudged_congr {c d : LaneContext} (takeoff : d.takeoff = c.takeoff) (legs : d.legs = c.legs)
    (index official : Nat) : d.exchangeJudged p index official = c.exchangeJudged p index official := by
  cases c
  cases d
  cases takeoff
  cases legs
  rfl

/-- A resolution that judges the exchange of its wall and settles no leg. -/
theorem LaneWork.Records.exchanged (h : LaneWork.Records env cause r w j)
    (is : x = w.ctx.exchangeJudged env.program r.index r.official) : (j.settleExchange env r.index r.official).ComesTo
      { w.ctx with
        resolved := w.ctx.resolved ++ [r], takeoff := x.takeoff, legs := x.legs
        judgements := withCauses w.ctx.judgements (r.causes ++ x.causes) }
      (x.watches w.watch.get)
      (w.walls ++ [.wall env.lane cause r] ++ w.finishes ++ (w.judges ++ judgeNotes env.lane w.ctx.judgements (r.causes ++ x.causes))) := by
  have settles := LaneWork.settleExchange_settles env r.index r.official j
  have same : j.ctx.exchangeJudged env.program r.index r.official = x := by
    rw [is]
    refine LaneContext.exchangeJudged_congr ?_ ?_ _ _ <;> rw [h.ctx]
  rw [same] at settles
  refine ⟨settles.ctx_eq.trans ?_, ?_, settles.reports.trans ?_⟩
  · rw [h.ctx, withCauses_append]
  · funext side
    rw [settles.watch, h.watch]
  · rw [h.ctx, h.walls, h.finishes, h.judges, judgeNotes_append, List.append_assoc w.judges]

theorem unjudgePending_eq : unjudgePending = fun q => if q.verdict = .pending then ⟨.unjudged, none⟩ else q := by
  funext q
  obtain ⟨verdict, margin⟩ := q
  cases verdict <;> rfl

/-- What taking a lane out ends, once its collecting wall is resolved. -/
def LaneWork.leave (status : LaneStatus) (w : LaneWork) : LaneWork :=
  w.endWatches.on fun c => { c with takeoff := none, legs := c.legs.map unjudgePending, status }

theorem LaneWork.leave_ctx (status : LaneStatus) (w : LaneWork) :
    (w.leave status).ctx = { w.ctx with takeoff := none, legs := w.ctx.legs.map unjudgePending, status } := rfl

theorem LaneWork.takeOut_of_open (open_ : w.ctx.collecting = none) : (w.takeOut env status).ComesTo
    { w.ctx with expected := none, takeoff := none, legs := w.ctx.legs.map unjudgePending, status } (fun _ => none) w.reports := by
  have is : w.takeOut env status = (w.on fun c => { c with expected := none }).leave status := by
    unfold LaneWork.takeOut
    rw [open_]
    rfl
  rw [is]
  exact ⟨rfl, funext fun side => by cases side <;> rfl, rfl⟩

theorem LaneWork.takeOut_of_collecting {wall : CollectingWall} (collecting : w.ctx.collecting = some wall)
    (is : r = recordOfWall env.program wall) (xis : x = w.ctx.exchangeJudged env.program wall.index r.official) :
    (w.takeOut env status).ComesTo
      { w.ctx with
        expected := none, collecting := none, resolved := w.ctx.resolved ++ [r], takeoff := none
        legs := x.legs.map unjudgePending, judgements := withCauses w.ctx.judgements (r.causes ++ x.causes), status
        final := if wall.index = env.program.lengths then some ⟨r.official, true⟩ else w.ctx.final }
      (fun _ => none)
      (w.walls ++ [.wall env.lane .amend r]
        ++ (w.finishes ++ if wall.index = env.program.lengths then
            [.finish env.lane status r.official true (w.ctx.final.map Final.time)] else [])
        ++ (w.judges ++ judgeNotes env.lane w.ctx.judgements (r.causes ++ x.causes))) := by
  have timed : r.source ≠ .hand := by
    rw [is]
    exact recordOfWall_source _ _
  have index : r.index = wall.index := by rw [is, recordOfWall_index]
  have records := LaneWork.recorded_records env .amend timed (w.on fun c => { c with expected := none, collecting := none })
  have judged : x = w.ctx.exchangeJudged env.program r.index r.official := by rw [xis, index]
  have takes : w.takeOut env status = (((if env.program.isFinal r.index then
        (((w.on fun c => { c with expected := none, collecting := none }).addRecord env .amend r).judgeRecord env r).setFinal env
          r.official true status
      else ((w.on fun c => { c with expected := none, collecting := none }).addRecord env .amend r).judgeRecord env r).settleExchange env
        r.index r.official).leave status) := by
    unfold LaneWork.takeOut
    rw [collecting, is]
    rfl
  rw [takes, ← index]
  generalize LaneWork.judgeRecord env r _ = k at records ⊢
  have ends (v : LaneWork) : (v.leave status).watch.get = fun _ => none := funext fun side => by cases side <;> rfl
  by_cases last : r.index = env.program.lengths
  · rw [if_pos (Program.isFinal_iff.2 last), if_pos last, if_pos last]
    obtain ⟨ctx, -, reports⟩ := (records.final status).exchanged
      (judged.trans (LaneContext.exchangeJudged_congr rfl rfl _ _))
    refine ⟨?_, ends _, reports⟩
    rw [LaneWork.leave_ctx, ctx]
    rfl
  · rw [if_neg fun final => last (Program.isFinal_iff.1 final), if_neg last, if_neg last]
    obtain ⟨ctx, -, reports⟩ := records.exchanged (judged.trans (LaneContext.exchangeJudged_congr rfl rfl _ _))
    refine ⟨?_, ends _, ?_⟩
    · rw [LaneWork.leave_ctx, ctx]
      rfl
    · rw [List.append_nil]
      exact reports

theorem LaneWork.strike_of_in (running : env.running = true) (within : w.ctx.status.isOut = false) :
    w.strike env status = w.takeOut env status := by
  unfold LaneWork.strike
  rw [running, within]
  exact if_pos ⟨rfl, rfl⟩

theorem LaneWork.strike_of_out (out : ¬ (env.running = true ∧ w.ctx.status.isOut = false)) :
    w.strike env status = w.on fun c => { c with status } := by
  unfold LaneWork.strike
  refine if_neg fun h => out ⟨h.1, ?_⟩
  simpa using h.2

/-! #### A lane restored (R128, R143) -/

/-- The wall a restored lane swims to. -/
def LaneContext.nextWall (p : Program) (c : LaneContext) : ExpectedWall :=
  ⟨c.resolved.length + 1, wallEnd (c.resolved.length + 1), c.lastTime + p.armDelay, false, false⟩

theorem LaneWork.restore_of_final {f : Final} (final : w.ctx.final = some f) :
    w.restore env = w.on fun c => { c with status := .finished } := by
  unfold LaneWork.restore
  rw [final]

theorem LaneWork.restore_of_over (final : w.ctx.final = none) (ended : ¬ env.running = true) :
    w.restore env = w.on fun c => { c with status := .noTime } := by
  unfold LaneWork.restore
  rw [final]
  exact if_neg ended

theorem LaneWork.restore_of_running (final : w.ctx.final = none) (running : env.running = true) : (w.restore env).ComesTo
    { w.ctx with
      status := .swimming, legs := reopenLegs env.program w.ctx.resolved.length w.ctx.legs
      expected := some ((w.ctx.nextWall env.program).placed env.now) }
    (env.program.watchesArmed env.now (w.ctx.nextWall env.program) w.watch.get) w.reports := by
  have is : w.restore env = (w.on fun c => { c with
      status := .swimming, legs := reopenLegs env.program w.ctx.resolved.length c.legs }).placeExpected env (w.ctx.nextWall env.program) := by
    unfold LaneWork.restore
    rw [final]
    exact if_pos running
  rw [is]
  exact ⟨LaneWork.placeExpected_ctx _ _ _, funext fun side => LaneWork.placeExpected_watch _ _ _ side, LaneWork.placeExpected_reports _ _ _⟩

/-! #### A wall timed by hand (R105 to R108) -/

/-- The expected wall that a hand time takes: that of a lane without a collecting wall. -/
def LaneContext.takenByHand (c : LaneContext) : Option ExpectedWall := if c.collecting.isSome then none else c.expected

/-- The expected wall that a hand time leaves. -/
def LaneContext.keptByHand (c : LaneContext) : Option ExpectedWall := if c.collecting.isSome then c.expected else none

/-- The wall that follows one timed by hand. -/
def LaneContext.wallAfterHand (p : Program) (index time : Nat) (c : LaneContext) : ExpectedWall :=
  LaneContext.wallAfter p index time { c with expected := c.keptByHand }

/-- The watches after an exchange wall that was never ARMED has been resolved in RUNNING (R118). -/
def LaneEnv.watchesUnarmed (env : LaneEnv) (index : Nat) (expected : Option ExpectedWall) (watch : PoolEnd → Option Nat)
    (side : PoolEnd) : Option Nat :=
  match env.program.exchangeLeg index, expected with
  | some k, some e => if env.running = true ∧ e.everArmed = false ∧ side = e.side then some k else watch side
  | _, _ => watch side

/-- A lane whose wall a hand time takes. -/
def LaneWork.handTaken (w : LaneWork) : LaneWork := w.on fun c => { c with collecting := none, expected := w.ctx.keptByHand }

/-- The record of a hand time, with its cause. -/
def LaneWork.handRecorded (env : LaneEnv) (index time : Nat) (w : LaneWork) : LaneWork :=
  (w.handTaken.addRecord env .hand (handRecord index time w.ctx.collecting)).judge env.lane (.handTimed index)

theorem LaneWork.resolveByHand_eq (env : LaneEnv) (index time : Nat) (w : LaneWork) : w.resolveByHand env index time =
    (((w.handRecorded env index time).advance env (handRecord index time w.ctx.collecting)).watchUnarmed env index
      w.ctx.takenByHand).settle env index time := rfl

theorem LaneWork.handRecorded_records (env : LaneEnv) (index time : Nat) (w : LaneWork) :
    LaneWork.Records env .hand (handRecord index time w.ctx.collecting) w.handTaken (w.handRecorded env index time) := by
  have frame := (w.handTaken.addRecord env .hand (handRecord index time w.ctx.collecting)).judge_frame env.lane (.handTimed index)
  have adds := (w.handTaken.addRecord env .hand (handRecord index time w.ctx.collecting)).judge_adds env.lane (.handTimed index)
  unfold LaneWork.handRecorded
  generalize LaneWork.judge _ _ _ = j at *
  refine ⟨?_, ?_, ?_, ?_, adds.notes⟩
  · have ctx := congrArg LaneWork.ctx frame
    rw [adds.held] at ctx
    exact ctx
  · rw [frame]
    rfl
  · rw [frame]
    rfl
  · rw [frame]
    rfl

theorem LaneWork.Records.unarmed (h : LaneWork.Records env cause r w j) (index : Nat) (e : Option ExpectedWall) :
    LaneWork.Records env cause r (w.watchUnarmed env index e) (j.watchUnarmed env index e) := by
  unfold LaneWork.watchUnarmed
  split
  · split
    · exact ⟨h.ctx, congrArg (Ends.set · _ _) h.watch, h.walls, h.finishes, h.judges⟩
    · exact h
  · exact h

/-- The watch that an exchange wall never ARMED sets is all it changes. -/
theorem LaneWork.watchUnarmed_frame (w : LaneWork) (env : LaneEnv) (index : Nat) (e : Option ExpectedWall) :
    w.watchUnarmed env index e = { w with watch := (w.watchUnarmed env index e).watch } := by
  unfold LaneWork.watchUnarmed
  split
  · split <;> rfl
  · rfl

theorem LaneWork.watchUnarmed_watch (w : LaneWork) (env : LaneEnv) (index : Nat) (e : Option ExpectedWall) :
    (w.watchUnarmed env index e).watch.get = env.watchesUnarmed index e w.watch.get := by
  funext side
  unfold LaneWork.watchUnarmed LaneEnv.watchesUnarmed
  cases env.program.exchangeLeg index with
  | none => rfl
  | some k =>
    cases e with
    | none => rfl
    | some e =>
      dsimp only
      by_cases unarmed : env.running = true ∧ (!e.everArmed) = true
      · rw [if_pos unarmed]
        have never : e.everArmed = false := by simpa using unarmed.2
        by_cases here : side = e.side
        · subst here
          rw [if_pos ⟨unarmed.1, never, rfl⟩]
          exact Ends.get_set_same _ _ _
        · rw [if_neg fun h => here h.2.2]
          exact Ends.get_set_other _ _ (Ne.symm here)
      · rw [if_neg unarmed, if_neg fun h => unarmed ⟨h.1, by rw [h.2.1]; rfl⟩]

/-- A lane whose wall a hand time takes, advanced: the final set, or in a running race the next wall expected. -/
def LaneWork.handAdvanced (env : LaneEnv) (index time : Nat) (w : LaneWork) : LaneWork :=
  if index = env.program.lengths then
    { w.handTaken with
      ctx := { w.handTaken.ctx with final := some ⟨time, true⟩, status := .finished }
      finishes := w.finishes ++ [.finish env.lane .finished time true (w.ctx.final.map Final.time)] }
  else if env.running then w.handTaken.placeExpected env (w.ctx.wallAfterHand env.program index time)
  else w.handTaken

theorem LaneWork.advance_of_ended {r : WallRecord} (ended : ¬ env.running = true) (other : r.index ≠ env.program.lengths) :
    w.advance env r = w := by
  unfold LaneWork.advance LaneWork.armNext
  rw [if_neg (show ¬ env.program.isFinal r.index = true from fun last => other (Program.isFinal_iff.1 last)), if_neg fun h => ended h.1]

theorem LaneWork.handAdvanced_records (env : LaneEnv) (index time : Nat) (w : LaneWork) :
    LaneWork.Records env .hand (handRecord index time w.ctx.collecting) (w.handAdvanced env index time)
      ((w.handRecorded env index time).advance env (handRecord index time w.ctx.collecting)) := by
  have records := w.handRecorded_records env index time
  have after := records.wallAfter index time
  generalize w.handRecorded env index time = j at *
  unfold LaneWork.handAdvanced
  by_cases last : index = env.program.lengths
  · rw [if_pos last, LaneWork.advance_of_final last]
    exact records.final .finished
  · rw [if_neg last]
    by_cases running : env.running = true
    · rw [if_pos running, LaneWork.advance_of_other running last]
      change LaneWork.Records _ _ _ _ (j.placeExpected env (j.ctx.wallAfter env.program index time))
      rw [after]
      exact records.expects _
    · rw [if_neg running, LaneWork.advance_of_ended running last]
      exact records

/-- The context of the lane before its settlement. -/
theorem LaneWork.handAdvanced_ctx (env : LaneEnv) (index time : Nat) (w : LaneWork) : (w.handAdvanced env index time).ctx =
    { w.ctx with
      collecting := none
      expected := if env.running = true ∧ index ≠ env.program.lengths then
          some ((w.ctx.wallAfterHand env.program index time).placed env.now)
        else w.ctx.keptByHand
      status := if index = env.program.lengths then .finished else w.ctx.status
      final := if index = env.program.lengths then some ⟨time, true⟩ else w.ctx.final } := by
  unfold LaneWork.handAdvanced
  by_cases last : index = env.program.lengths
  · rw [if_pos last, if_neg (show ¬ (env.running = true ∧ index ≠ env.program.lengths) from fun h => h.2 last), if_pos last, if_pos last]
    rfl
  · rw [if_neg last, if_neg last, if_neg last]
    by_cases running : env.running = true
    · rw [if_pos running, if_pos ⟨running, last⟩, LaneWork.placeExpected_ctx]
      rfl
    · rw [if_neg running, if_neg fun h => running h.1]
      rfl

theorem LaneWork.handAdvanced_watch (env : LaneEnv) (index time : Nat) (w : LaneWork) : (w.handAdvanced env index time).watch.get =
    if env.running = true ∧ index ≠ env.program.lengths then
      env.program.watchesArmed env.now (w.ctx.wallAfterHand env.program index time) w.watch.get
    else w.watch.get := by
  unfold LaneWork.handAdvanced
  by_cases last : index = env.program.lengths
  · rw [if_pos last, if_neg fun h => h.2 last]
    rfl
  · rw [if_neg last]
    by_cases running : env.running = true
    · rw [if_pos running, if_pos ⟨running, last⟩]
      exact funext fun side => LaneWork.placeExpected_watch _ _ _ side
    · rw [if_neg running, if_neg fun h => running h.1]
      rfl

theorem LaneWork.handAdvanced_notes (env : LaneEnv) (index time : Nat) (w : LaneWork) :
    (w.handAdvanced env index time).walls = w.walls ∧ (w.handAdvanced env index time).judges = w.judges
      ∧ (w.handAdvanced env index time).finishes = w.finishes ++ if index = env.program.lengths then
          [.finish env.lane .finished time true (w.ctx.final.map Final.time)] else [] := by
  unfold LaneWork.handAdvanced
  by_cases last : index = env.program.lengths
  · rw [if_pos last, if_pos last]
    exact ⟨rfl, rfl, rfl⟩
  · rw [if_neg last, if_neg last, List.append_nil]
    split
    · rw [LaneWork.placeExpected_frame]
      exact ⟨rfl, rfl, rfl⟩
    · exact ⟨rfl, rfl, rfl⟩

/-- What a hand time makes of a lane. -/
theorem LaneWork.resolveByHand_comesTo (env : LaneEnv) (index time : Nat) (w : LaneWork)
    (is : x = w.ctx.settledAt env.program index time) : (w.resolveByHand env index time).ComesTo
      { w.ctx with
        collecting := none
        expected := if env.running = true ∧ index ≠ env.program.lengths then
            some ((w.ctx.wallAfterHand env.program index time).placed env.now)
          else w.ctx.keptByHand
        status := if index = env.program.lengths then .finished else w.ctx.status
        final := if index = env.program.lengths then some ⟨time, true⟩ else w.ctx.final
        resolved := w.ctx.resolved ++ [handRecord index time w.ctx.collecting], takeoff := x.takeoff, legs := x.legs
        judgements := withCauses w.ctx.judgements (.handTimed index :: x.causes) }
      (x.watches (env.watchesUnarmed index w.ctx.takenByHand (if env.running = true ∧ index ≠ env.program.lengths then
          env.program.watchesArmed env.now (w.ctx.wallAfterHand env.program index time) w.watch.get
        else w.watch.get)))
      (w.walls ++ [.wall env.lane .hand (handRecord index time w.ctx.collecting)]
        ++ (w.finishes ++ if index = env.program.lengths then
            [.finish env.lane .finished time true (w.ctx.final.map Final.time)] else [])
        ++ (w.judges ++ judgeNotes env.lane w.ctx.judgements (.handTimed index :: x.causes))) := by
  have records := (w.handAdvanced_records env index time).unarmed index w.ctx.takenByHand
  have frame := (w.handAdvanced env index time).watchUnarmed_frame env index w.ctx.takenByHand
  have watch := (w.handAdvanced env index time).watchUnarmed_watch env index w.ctx.takenByHand
  have ctx := w.handAdvanced_ctx env index time
  obtain ⟨walls, judges, finishes⟩ := w.handAdvanced_notes env index time
  rw [w.handAdvanced_watch] at watch
  rw [LaneWork.resolveByHand_eq]
  generalize (w.handAdvanced env index time).watchUnarmed env index w.ctx.takenByHand = v at *
  generalize w.handAdvanced env index time = a at *
  have here : v.ctx = a.ctx := by rw [frame]
  rw [ctx] at here
  have settled : x = v.ctx.settledAt env.program index time := by
    rw [is, here]
    exact LaneContext.settledAt_congr rfl rfl rfl _ _
  obtain ⟨own, watches, reports⟩ := records.settled settled
  rw [here] at own reports
  rw [watch] at watches
  refine ⟨own, watches, reports.trans ?_⟩
  rw [← walls, ← judges, ← finishes, frame]
  rfl

/-! #### The rows -/

/-- The state after an AMEND that is carried out with this work. -/
def State.amendedWith (s : State) (l : Lane) (code : Option Nat) (action : Byte) (more : List Byte) (w : LaneWork) : State :=
  ((s.dropInbound.setAmendment l code).laneEvent l w).amended l action more

theorem exec_strike {i : Instr} {action code : Byte} {time : BitVec 32} {kept : Option Nat}
    (takes : s.race = .running ∨ s.race = .complete) (program : s.program = some p) (inRace : p.inRace l = true)
    (taken : s.Takes ⟨kindAmend, [laneCode l, action, code] ++ splitBytes time⟩)
    (form : i = .amendDisqualify (laneCode l) code time ∧ action = 0 ∧ code ≠ 0 ∧ status = .disqualified ∧ kept = some code.toNat
      ∨ i = .amendDidNotStart (laneCode l) code time ∧ action = 1 ∧ status = .didNotStart ∧ kept = none) :
    exec i s = .next (s.amendedWith l kept action [] ((s.laneWork l).strike (s.laneEnv p l) status)) := by
  obtain ⟨rfl, rfl, nonzero, rfl, rfl⟩ | ⟨rfl, rfl, rfl, rfl⟩ := form
  · exact congrArg Host.Outcome.next ((State.take_owner _ taken rfl).trans
      ((State.amending_of_inRace (s := s.dropInbound) takes program inRace).trans (if_neg nonzero)))
  · exact congrArg Host.Outcome.next ((State.take_owner _ taken rfl).trans
      (State.amending_of_inRace (s := s.dropInbound) takes program inRace))

theorem exec_amendRestore {code : Byte} {time : BitVec 32} (takes : s.race = .running ∨ s.race = .complete)
    (program : s.program = some p) (inRace : p.inRace l = true)
    (taken : s.Takes ⟨kindAmend, [laneCode l, 2, code] ++ splitBytes time⟩) :
    exec (.amendRestore (laneCode l) code time) s = .next (if (s.context l).status.isOut then
      s.amendedWith l none 2 [] ((s.laneWork l).restore (s.laneEnv p l)) else s.replied kindAmend .badState []) :=
  congrArg Host.Outcome.next ((State.take_owner _ taken rfl).trans
    (State.amending_of_inRace (s := s.dropInbound) takes program inRace))

theorem exec_amendTimeWall_refused {code : Byte} {time : BitVec 32} (takes : s.race = .running ∨ s.race = .complete)
    (program : s.program = some p) (inRace : p.inRace l = true)
    (taken : s.Takes ⟨kindAmend, [laneCode l, 3, code] ++ splitBytes time⟩)
    (refused : (s.context l).status.isOut = true ∨ (s.context l).earliestUnresolved p (s.race = .running) = none) :
    exec (.amendTimeWall (laneCode l) code time) s = .next (s.replied kindAmend .badState []) := by
  refine congrArg Host.Outcome.next ((State.take_owner _ taken rfl).trans
    ((State.amending_of_inRace (s := s.dropInbound) takes program inRace).trans ?_))
  change (if (s.context l).status.isOut then _ else _) = _
  by_cases out : (s.context l).status.isOut = true
  · rw [if_pos out]
    rfl
  · have unresolved : (s.dropInbound.context l).earliestUnresolved p (s.dropInbound.race = .running) = none := refused.resolve_left out
    rw [if_neg out, unresolved]
    rfl

theorem exec_amendTimeWall {code : Byte} {time : BitVec 32} {n : Nat} (takes : s.race = .running ∨ s.race = .complete)
    (program : s.program = some p) (inRace : p.inRace l = true)
    (taken : s.Takes ⟨kindAmend, [laneCode l, 3, code] ++ splitBytes time⟩) (within : ¬ (s.context l).status.isOut = true)
    (wall : (s.context l).earliestUnresolved p (s.race = .running) = some n) :
    exec (.amendTimeWall (laneCode l) code time) s = .next (if s.handTimeFits l time.toNat then
        s.amendedWith l s.results.amend[l].code 3 (be8 n ++ be32 time.toNat)
          ((s.laneWork l).resolveByHand (s.laneEnv p l) n time.toNat)
      else s.replied kindAmend .badValue []) := by
  refine congrArg Host.Outcome.next ((State.take_owner _ taken rfl).trans
    ((State.amending_of_inRace (s := s.dropInbound) takes program inRace).trans ((if_neg within).trans ?_)))
  have unresolved : (s.dropInbound.context l).earliestUnresolved p (s.dropInbound.race = .running) = some n := wall
  rw [unresolved]
  rfl

theorem State.handTimeFits_iff (s : State) (l : Lane) (time : Nat) :
    s.handTimeFits l time = true ↔ (s.context l).lastTime < time ∧ time ≤ s.clock.value := by
  unfold State.handTimeFits
  rw [Bool.and_eq_true_iff, decide_eq_true_iff, decide_eq_true_iff]
  rfl

theorem State.WatchesAre.none (h : s.WatchesAre t l fun _ => none) (side : PoolEnd) : (t.channel side l).watch = none := by
  by_cases completes : s.race = .running ∧ t.race = .complete
  · exact h.1 completes.1 completes.2 side l
  · exact (h.2 completes side).1

/-- After a re-rank the order holds the lane exactly when it is FINISHED (R135). -/
theorem State.RankingFollows.order_iff (h : s.RankingFollows t p l) (anew : ranksAnew (s.context l) (t.context l) = true) :
    l ∈ t.results.order ↔ (t.context l).status = .finished := (h.1 anew).1 l

theorem ranksAnew_of_left {c d : LaneContext} (before : c.status = .finished) (after : d.status ≠ .finished) : ranksAnew c d = true := by
  simp [ranksAnew, before, after]

theorem ranksAnew_of_joined {c d : LaneContext} (before : c.status ≠ .finished) (after : d.status = .finished) :
    ranksAnew c d = true := by
  simp [ranksAnew, before, after]

end

/-- A lane taken out while it is in a running race (R140). -/
theorem State.AmendEvents.takenOut {s t : State} {p : Program} {l : Lane} {status : LaneStatus} {code : Option Nat} {action : Byte}
    (does : s.AmendEvents p l code action [] ((s.laneWork l).takeOut (s.laneEnv p l) status) t) :
    (t.context l).expected = none ∧ (t.context l).collecting = none ∧ (t.context l).takeoff = none
      ∧ (∀ side, (t.channel side l).watch = none) ∧ (∀ r ∈ (t.context l).legs, r.verdict ≠ .pending)
      ∧ (t.context l).status = status ∧ (t.context l).reaction = (s.context l).reaction
      ∧ (t.context l).source = (s.context l).source := by
  have leaves (legs : List LegRecord) : ∀ r ∈ legs.map unjudgePending, r.verdict ≠ .pending := by
    intro r among
    obtain ⟨q, -, rfl⟩ := List.mem_map.1 among
    obtain ⟨verdict, margin⟩ := q
    cases verdict <;> exact nofun
  have watches := does.watches
  cases collecting : (s.context l).collecting with
  | none =>
    have out := LaneWork.takeOut_of_open (w := s.laneWork l) (env := s.laneEnv p l) (status := status) collecting
    rw [out.watch] at watches
    rw [does.context, out.ctx]
    exact ⟨rfl, collecting, rfl, watches.none, leaves _, rfl, rfl, rfl⟩
  | some wall =>
    have out := LaneWork.takeOut_of_collecting (w := s.laneWork l) (env := s.laneEnv p l) (status := status) collecting rfl rfl
    rw [out.watch] at watches
    rw [does.context, out.ctx]
    exact ⟨rfl, rfl, rfl, watches.none, leaves _, rfl, rfl, rfl⟩

/-- Settles O44: a lane taken out is struck in a running race and marked alone elsewhere; a restored one swims on, or is ranked
or timed no more. -/
theorem lanesAreTakenOutAndRestored : Obligations.LanesAreTakenOutAndRestored := by
  refine ⟨fun s p l code time i action status kept takes program inRace taken form => ?_,
    fun s p l code time takes program inRace taken => ⟨fun first second => ?_, fun out => ?_⟩⟩
  · have row := exec_strike takes program inRace taken form
    have does := State.amend_does program inRace kept action [] ((s.laneWork l).strike (s.laneEnv p l) status)
    have leaves : status ≠ .finished := by
      obtain ⟨-, -, -, rfl, -⟩ | ⟨-, -, rfl, -⟩ := form <;> exact nofun
    unfold State.amendedWith at row
    generalize ((s.dropInbound.setAmendment l kept).laneEvent l ((s.laneWork l).strike (s.laneEnv p l) status)).amended l action [] = t
      at *
    have ranks (is : (t.context l).status = status) (before : (s.context l).status = .finished) : l ∉ t.results.order := by
      rw [does.ranking.order_iff (ranksAnew_of_left before (by rw [is]; exact leaves)), is]
      exact leaves
    by_cases within : s.race = .running ∧ (s.context l).status.isOut = false
    · rw [LaneWork.strike_of_in (State.laneEnv_running.2 within.1) within.2] at does
      obtain ⟨expected, closed, takeoff, watch, legs, is, reaction, source⟩ := does.takenOut
      have keeps := does.keeps
      have code_ : ((s.laneWork l).takeOut (s.laneEnv p l) status).ctx.status = status := by rw [← does.context, is]
      rw [code_] at keeps
      have link := does.link
      rw [code_] at link
      have open_ (collecting : (s.context l).collecting = none) :=
        LaneWork.takeOut_of_open (w := s.laneWork l) (env := s.laneEnv p l) (status := status) collecting
      have collects {wall : CollectingWall} (collecting : (s.context l).collecting = some wall) :=
        LaneWork.takeOut_of_collecting (w := s.laneWork l) (env := s.laneEnv p l) (status := status) collecting rfl rfl
      refine ⟨t, row, is, does.amended, does.amends, keeps, does.ports, fun _ _ => ⟨expected, closed, takeoff, watch .start, watch .turn, legs,
        fun wall collecting => ?_, fun x causes walls case_ => ?_⟩, fun out => absurd within out, reaction, source, fun collecting => ?_,
        ranks is, does.others, does.program, does.log, does.completion, does.ranking, does.follows⟩
      · rw [does.context, (collects collecting).ctx]
        exact ⟨rfl, fun last => if_pos last, fun other => if_neg other⟩
      · rw [does.context, ← unjudgePending_eq, link]
        obtain ⟨collecting, rfl, rfl, rfl⟩ | ⟨wall, collecting, rfl, rfl, rfl⟩ := case_
        · rw [(open_ collecting).ctx, (open_ collecting).reports]
          exact ⟨rfl, rfl, rfl⟩
        · rw [(collects collecting).ctx, (collects collecting).reports]
          exact ⟨rfl, rfl, rfl⟩
      · rw [does.context, (open_ collecting).ctx]
        exact ⟨rfl, rfl⟩
    · rw [LaneWork.strike_of_out fun h => within ⟨State.laneEnv_running.1 h.1, h.2⟩] at does
      have is : t.context l = { s.context l with status } := does.context
      have watches := does.watches
      refine ⟨t, row, by rw [is], does.amended, does.amends, does.keeps, does.ports, fun running inside => absurd ⟨running, inside⟩ within,
        fun _ => ⟨is, ?_, does.link⟩, by rw [is], by rw [is], fun _ => by rw [is]; exact ⟨rfl, rfl⟩, ranks (by rw [is]), does.others,
        does.program, does.log, does.completion, does.ranking, does.follows⟩
      rw [← s.laneWork_watch]
      exact watches
  · rw [exec_amendRestore takes program inRace taken, if_neg fun out => (LaneStatus.isOut_iff.1 out).elim first second]
  · have row := exec_amendRestore takes program inRace taken
    rw [if_pos (LaneStatus.isOut_iff.2 out)] at row
    have before : (s.context l).status ≠ .finished := by
      obtain h | h := out <;> rw [h] <;> exact nofun
    have does := State.amend_does program inRace none 2 [] ((s.laneWork l).restore (s.laneEnv p l))
    unfold State.amendedWith at row
    generalize ((s.dropInbound.setAmendment l none).laneEvent l ((s.laneWork l).restore (s.laneEnv p l))).amended l 2 [] = t at *
    have keeps := does.keeps
    have link := does.link
    rw [← does.context] at keeps link
    have joined (is : (t.context l).status = .finished) : l ∈ t.results.order :=
      (does.ranking.order_iff (ranksAnew_of_joined before is)).2 is
    cases final : (s.context l).final with
    | some f =>
      rw [LaneWork.restore_of_final (w := s.laneWork l) final] at does link
      have is : t.context l = { s.context l with status := .finished } := does.context
      have watches : s.WatchesAre t l (s.watches l) := by
        rw [← s.laneWork_watch]
        exact does.watches
      have left : ¬ (some f = none ∧ s.race = .running) := fun h => nomatch h.1
      refine ⟨t, row, does.amended, keeps, does.ports, by rw [is], by rw [is, ← final], by rw [is],
        fun _ => ⟨by rw [is], joined (by rw [is])⟩, nofun, nofun, fun _ => by rw [is], by rw [is], ?_, by rw [is], by rw [is], ?_, link,
        fun m away => ⟨does.others m away, does.amends m away⟩, does.program, does.log, does.completion, does.ranking, does.follows⟩
      · rw [is, if_neg left]
      · rw [if_neg left]
        exact watches
    | none =>
      by_cases running : s.race = .running
      · have swims := LaneWork.restore_of_running (w := s.laneWork l) (env := s.laneEnv p l) final (State.laneEnv_running.2 running)
        have is := does.context
        have watches := does.watches
        rw [swims.ctx] at is
        rw [swims.watch] at watches
        rw [swims.reports] at link
        have on : (none : Option Final) = none ∧ s.race = .running := ⟨rfl, running⟩
        have going : ¬ ((none : Option Final) ≠ none ∨ s.race = .complete) := by simp [running]
        refine ⟨t, row, does.amended, keeps, does.ports, by rw [is]; rfl, by rw [is]; exact final, by rw [is]; rfl, fun f => absurd rfl f,
          fun _ _ => ⟨by rw [is], by rw [is]; rfl⟩, fun _ complete => (nomatch running.symm.trans complete), fun h => absurd h going,
          by rw [is]; rfl, ?_, by rw [is]; rfl, by rw [is]; rfl, ?_, link,
          fun m away => ⟨does.others m away, does.amends m away⟩, does.program, does.log, does.completion, does.ranking, does.follows⟩
        · rw [is, if_pos on]
          rfl
        · rw [if_pos on, ← s.laneWork_watch]
          exact watches
      · rw [LaneWork.restore_of_over (w := s.laneWork l) final fun on => running (State.laneEnv_running.1 on)] at does link
        have is : t.context l = { s.context l with status := .noTime } := does.context
        have off : ¬ ((none : Option Final) = none ∧ s.race = .running) := fun h => running h.2
        have watches : s.WatchesAre t l (s.watches l) := by
          rw [← s.laneWork_watch]
          exact does.watches
        refine ⟨t, row, does.amended, keeps, does.ports, by rw [is], by rw [is]; exact final, by rw [is], fun f => absurd rfl f,
          fun _ on => absurd on running, fun _ _ => by rw [is], fun _ => by rw [is], by rw [is], ?_, by rw [is], by rw [is], ?_, link,
          fun m away => ⟨does.others m away, does.amends m away⟩, does.program, does.log, does.completion, does.ranking, does.follows⟩
        · rw [is, if_neg off]
        · rw [if_neg off]
          exact watches

/-- The wall that a hand time resolves is the earliest that is not resolved (R106). -/
theorem LaneContext.earliestUnresolved_of_running (c : LaneContext) (p : Program) :
    c.earliestUnresolved p true = (c.collecting.map CollectingWall.index).or (c.expected.map ExpectedWall.index) := by
  unfold LaneContext.earliestUnresolved
  rw [if_pos rfl]
  cases c.collecting <;> cases c.expected <;> rfl

theorem mem_withCauses_of_mem {held : List Judgement} {k : Judgement} (among : k ∈ held) (js : List Judgement) :
    k ∈ withCauses held js := by
  induction js generalizing held with
  | nil => exact among
  | cons j js ih => exact ih (mem_withCause.2 (.inl among))

/-- An added cause is held, with this detail or an earlier one (R130). -/
theorem exists_mem_withCauses (held : List Judgement) (j : Judgement) (js : List Judgement) :
    ∃ k ∈ withCauses held (j :: js), k.priority = j.priority := by
  by_cases holds : ∃ k ∈ held, k.priority = j.priority
  · obtain ⟨k, among, same⟩ := holds
    exact ⟨k, mem_withCauses_of_mem among _, same⟩
  · refine ⟨j, mem_withCauses_of_mem (held := withCause held j) (mem_withCause.2 (.inr ⟨rfl, fun q among same => ?_⟩)) js, rfl⟩
    exact holds ⟨q, among, same⟩

theorem LaneContext.keptByHand_eq (c : LaneContext) : c.keptByHand = if c.collecting = none then none else c.expected := by
  unfold LaneContext.keptByHand
  cases c.collecting <;> rfl

/-- Settles O45: a hand time records and advances the lane, and settles what a resolution settles. -/
theorem wallsAreTimedByHand : Obligations.WallsAreTimedByHand := by
  intro s p l code time w takes program inRace taken going ended
  have earliest : (s.context l).earliestUnresolved p (s.race = .running) = w := by
    by_cases running : s.race = .running
    · rw [decide_eq_true running, LaneContext.earliestUnresolved_of_running, going running]
      cases (s.context l).collecting <;> cases (s.context l).expected <;> rfl
    · rw [decide_eq_false running, ended (takes.resolve_left running)]
      rfl
  refine ⟨fun refused => exec_amendTimeWall_refused takes program inRace taken ?_, fun n first second wall => ?_⟩
  · rw [earliest, LaneStatus.isOut_iff, or_assoc]
    exact refused
  have within : ¬ (s.context l).status.isOut = true := fun out => (LaneStatus.isOut_iff.1 out).elim first second
  have row := exec_amendTimeWall takes program inRace taken within (earliest.trans wall)
  refine ⟨fun late => ?_, fun later past => ?_⟩
  · rw [row, if_neg]
    rw [State.handTimeFits_iff]
    exact fun fits => late.elim (Nat.not_le.2 fits.1) (Nat.not_lt.2 fits.2)
  · rw [if_pos ((s.handTimeFits_iff l _).2 ⟨later, past⟩)] at row
    have does := State.amend_does program inRace s.results.amend[l].code 3 (be8 n ++ be32 time.toNat)
      ((s.laneWork l).resolveByHand (s.laneEnv p l) n time.toNat)
    have timed := (s.laneWork l).resolveByHand_comesTo (s.laneEnv p l) n time.toNat rfl
    unfold State.amendedWith at row
    generalize ((s.dropInbound.setAmendment l s.results.amend[l].code).laneEvent l
      ((s.laneWork l).resolveByHand (s.laneEnv p l) n time.toNat)).amended l 3 (be8 n ++ be32 time.toNat) = t at *
    have keeps := does.keeps
    have link := does.link
    rw [← does.context] at keeps link
    have is := does.context
    have watches := does.watches
    rw [timed.ctx] at is
    rw [timed.watch] at watches
    rw [timed.reports] at link
    refine ⟨t, handRecord n time.toNat (s.context l).collecting, row, by rw [is]; rfl, by rw [is], rfl, rfl, rfl, rfl, rfl, rfl, rfl, rfl,
      ?_, fun last => ?_, fun other => ?_, fun x before armed unarmed xis beforeIs armedIs unarmedIs => ?_, does.amended, keeps, does.completion,
      does.ranking, does.ports, does.follows, fun m away => ⟨does.others m away, does.amends m away⟩, does.program, does.log⟩
    · rw [is]
      exact exists_mem_withCauses _ (.handTimed n) _
    · rw [is]
      exact ⟨if_pos last, if_pos last⟩
    · rw [is]
      exact ⟨if_neg other, if_neg other⟩
    · have next : before.wallAfter p n time.toNat = (s.context l).wallAfterHand p n time.toNat := by
        rw [beforeIs, LaneContext.wallAfterHand, LaneContext.keptByHand_eq]
      have kept : before.expected = (s.context l).keptByHand := by rw [beforeIs, LaneContext.keptByHand_eq]
      have running : (s.laneEnv p l).running = true ∧ n ≠ p.lengths ↔ s.race = .running ∧ n ≠ p.lengths :=
        and_congr_left' State.laneEnv_running
      have armedSame : armed = if (s.laneEnv p l).running = true ∧ n ≠ p.lengths then
          p.watchesArmed s.clock.value ((s.context l).wallAfterHand p n time.toNat) (s.laneWork l).watch.get
        else (s.laneWork l).watch.get := by
        rw [armedIs, next, s.laneWork_watch]
        simp only [← running]
      have unarmedSame : unarmed = (s.laneEnv p l).watchesUnarmed n (s.context l).takenByHand armed := by
        funext side
        have same : (s.laneEnv p l).program = p := rfl
        rw [unarmedIs]
        unfold LaneEnv.watchesUnarmed LaneContext.takenByHand
        rw [same]
        cases (s.context l).collecting <;> cases (s.context l).expected <;> cases p.exchangeLeg n
        case none.some.some => exact if_congr (and_congr_left' State.laneEnv_running.symm) rfl rfl
        all_goals rfl
      refine ⟨?_, ?_, ?_, ?_⟩
      · rw [is, xis]
        exact ⟨rfl, rfl, rfl, rfl, rfl⟩
      · rw [unarmedSame, armedSame, xis]
        exact watches
      · rw [is, next, kept]
        exact if_congr running rfl rfl
      · rw [link, xis]
        rfl

end Sys2Proof.Machine


/-! ### Lanes worked one after the other, and the start (R23, R25, R29, R111) -/

namespace Sys2Proof.Machine

section
variable {s t u : State} {p : Program} {l : Lane} {w : LaneWork} {env : LaneEnv} {work : Lane → LaneWork} {ls : List Lane}

/-! #### One lane's work after another's -/

/-- The works of several lanes are put back, one after the other. -/
def State.commitAll (s : State) (work : Lane → LaneWork) (ls : List Lane) : State := ls.foldl (fun t l => t.commit l (work l)) s

/-- What putting back the works of several lanes does. -/
structure State.CommitsAll (s : State) (work : Lane → LaneWork) (ls : List Lane) (t : State) : Prop where
  only : s.OnlyLane t
  here : ∀ l ∈ ls, t.context l = (work l).ctx
  others : ∀ l, l ∉ ls → t.context l = s.context l
  channel : ∀ l ∈ ls, ∀ side, t.channel side l = { s.channel side l with watch := (work l).watch.get side }
  channels : ∀ l, l ∉ ls → ∀ side, t.channel side l = s.channel side l
  link : t.link = s.link.reported (ls.map fun l => (work l).reports).flatten
  starts : (∃ l ∈ ls, s.FreezesOn l (work l)) → t.board.spent = true
  stays : (¬ ∃ l ∈ ls, s.FreezesOn l (work l)) → t.board.spent = s.board.spent ∧ t.board.freeze = s.board.freeze
  board : s.BoardWork t (fun l => decide (l ∈ ls) && needsAuto (s.context l) (work l).ctx) (∃ l ∈ ls, s.FreezesOn l (work l))

/-- A freeze that a later lane starts is one that it would have started at first, none having started before. -/
theorem State.freezesOn_after (s : State) {k : Lane} (work : Lane → LaneWork) (away : k ≠ l) :
    (s.commit l (work l)).FreezesOn k (work k) ↔ s.FreezesOn k (work k) ∧ ¬ s.FreezesOn l (work l) := by
  have frame := s.commit_frame l (work l)
  have same := s.commit_context_other (work l) away
  obtain ⟨starts, stays⟩ := s.commit_freeze l (work l)
  generalize s.commit l (work l) = t at *
  unfold State.FreezesOn State.MayFreeze at *
  rw [frame.race, frame.board_layout, same]
  constructor
  · rintro ⟨⟨running, interval, spent⟩, before, after⟩
    have none_ := fun on => Bool.false_ne_true (spent.symm.trans (starts on).1)
    exact ⟨⟨⟨running, interval, (stays none_).1 ▸ spent⟩, before, after⟩, none_⟩
  · rintro ⟨⟨⟨running, interval, spent⟩, before, after⟩, none_⟩
    exact ⟨⟨running, interval, (stays none_).1.trans spent⟩, before, after⟩

theorem State.commitAll_does (nodup : ls.Nodup) (s : State) : s.CommitsAll work ls (s.commitAll work ls) := by
  induction ls generalizing s with
  | nil =>
    refine ⟨.refl s, nofun, fun _ _ => rfl, nofun, fun _ _ _ => rfl, rfl, fun ⟨_, among, _⟩ => (nomatch among), fun _ => ⟨rfl, rfl⟩, ?_⟩
    exact (State.BoardWork.of_board rfl).congr (fun _ => rfl) (iff_of_false id fun ⟨_, among, _⟩ => nomatch among)
  | cons k ls ih =>
    obtain ⟨fresh, nodup⟩ := List.nodup_cons.1 nodup
    have rest := ih nodup (s.commit k (work k))
    have frame := s.commit_frame k (work k)
    have here := s.commit_context_same k (work k)
    have others (m : Lane) (away : m ≠ k) := s.commit_context_other (work k) away
    have channel := s.commit_channel_same k (work k)
    have channels (side : PoolEnd) (m : Lane) (away : m ≠ k) := s.commit_channel_other (work k) side away
    have link := s.commit_link k (work k)
    have board := s.commit_boardWork k (work k)
    obtain ⟨starts, stays⟩ := s.commit_freeze k (work k)
    have apart {m : Lane} (among : m ∈ ls) : m ≠ k := fun same => fresh (same ▸ among)
    have later (m : Lane) (among : m ∈ ls) := s.freezesOn_after work (apart among)
    have is : s.commitAll work (k :: ls) = (s.commit k (work k)).commitAll work ls := rfl
    rw [is]
    generalize s.commit k (work k) = t at *
    generalize t.commitAll work ls = u at *
    have either : (∃ m ∈ k :: ls, s.FreezesOn m (work m)) ↔ s.FreezesOn k (work k) ∨ ∃ m ∈ ls, t.FreezesOn m (work m) := by
      by_cases first : s.FreezesOn k (work k)
      · exact iff_of_true ⟨k, List.mem_cons_self, first⟩ (.inl first)
      · constructor
        · rintro ⟨m, among, on⟩
          obtain rfl | among := List.mem_cons.1 among
          · exact .inl on
          · exact .inr ⟨m, among, (later m among).2 ⟨on, first⟩⟩
        · rintro (on | ⟨m, among, on⟩)
          · exact absurd on first
          · exact ⟨m, List.mem_cons_of_mem _ among, ((later m among).1 on).1⟩
    refine ⟨frame.trans rest.only, fun m among => ?_, fun m away => ?_, fun m among side => ?_, fun m away side => ?_, ?_, fun on => ?_,
      fun off => ?_, ?_⟩
    · obtain rfl | among := List.mem_cons.1 among
      · exact (rest.others m fresh).trans here
      · exact rest.here m among
    · obtain ⟨other, away⟩ := not_or.1 (mt List.mem_cons.2 away)
      exact (rest.others m away).trans (others m other)
    · obtain rfl | among := List.mem_cons.1 among
      · exact (rest.channels m fresh side).trans (channel side)
      · rw [rest.channel m among side, channels side m (apart among)]
    · obtain ⟨other, away⟩ := not_or.1 (mt List.mem_cons.2 away)
      exact (rest.channels m away side).trans (channels side m other)
    · rw [rest.link, link, ← Link.reported_append]
      rfl
    · obtain first | later := either.1 on
      · by_cases again : ∃ m ∈ ls, t.FreezesOn m (work m)
        · exact rest.starts again
        · exact (rest.stays again).1.trans (starts first).1
      · exact rest.starts later
    · obtain ⟨first, later⟩ := not_or.1 (mt either.2 off)
      exact ⟨(rest.stays later).1.trans (stays first).1, (rest.stays later).2.trans (stays first).2⟩
    · refine (board.trans rest.board (fun _ => .inl frame.board_map) fun m writes _ => ?_).congr (fun m => ?_) either.symm
      · obtain rfl : m = k := of_decide_eq_true (Bool.and_eq_true_iff.1 writes).1
        intro y x old
        rw [rest.others m fresh, rest.only.results]
      · by_cases same : m = k
        · subst same
          simp [fresh]
        · simp [same, others m same]

/-- Works that look at their own lane alone can be taken from the state before the first of them. -/
theorem State.foldl_commit_eq {F : State → Lane → LaneWork} (nodup : ls.Nodup) (s : State)
    (own : ∀ t l, s.OnlyLane t → t.context l = s.context l → (∀ side, t.channel side l = s.channel side l) → F t l = F s l) :
    ls.foldl (fun t l => t.commit l (F t l)) s = s.commitAll (F s) ls := by
  have start (t : State) (only : s.OnlyLane t) (nodup : ls.Nodup)
      (same : ∀ l ∈ ls, t.context l = s.context l ∧ ∀ side, t.channel side l = s.channel side l) :
      ls.foldl (fun t l => t.commit l (F t l)) t = t.commitAll (F s) ls := by
    induction ls generalizing t with
    | nil => rfl
    | cons k ls ih =>
      obtain ⟨fresh, nodup⟩ := List.nodup_cons.1 nodup
      obtain ⟨context, channel⟩ := same k List.mem_cons_self
      have first := own t k only context channel
      change ls.foldl (fun t l => t.commit l (F t l)) (t.commit k (F t k)) = (t.commit k (F s k)).commitAll (F s) ls
      rw [first]
      refine ih ‹_› (t.commit k (F s k)) (only.trans (t.commit_frame k _)) nodup fun m among => ?_
      have away : m ≠ k := fun same => fresh (same ▸ among)
      obtain ⟨context, channel⟩ := same m (List.mem_cons_of_mem _ among)
      exact ⟨(t.commit_context_other _ away).trans context, fun side => (t.commit_channel_other _ side away).trans (channel side)⟩
  exact start s (.refl s) nodup fun _ _ => ⟨rfl, fun _ => rfl⟩

/-- The lanes of the race. -/
def Program.raceLanes (p : Program) : List Lane := allLanes.filter p.inRace

theorem Program.raceLanes_nodup (p : Program) : p.raceLanes.Nodup := List.Nodup.filter _ (by decide)

theorem Program.mem_raceLanes : l ∈ p.raceLanes ↔ p.inRace l = true := by
  rw [Program.raceLanes, List.mem_filter]
  exact and_iff_right (mem_allLanes l)

/-- A lane's view after the works of others. -/
theorem State.OnlyLane.laneView (only : s.OnlyLane t) (context : t.context l = s.context l)
    (channel : ∀ side, t.channel side l = s.channel side l) (p : Program) :
    t.laneWork l = s.laneWork l ∧ t.laneEnv p l = s.laneEnv p l := by
  unfold State.laneWork State.laneEnv
  rw [context, channel, channel, only.clock, only.race]
  exact ⟨rfl, rfl⟩

/-- Every lane of the race works on its own. -/
theorem State.forLanes_commit (p : Program) (g : LaneEnv → LaneWork → LaneWork) (s : State) :
    s.forLanes (fun t l => if p.inRace l then t.commit l (g (t.laneEnv p l) (t.laneWork l)) else t) =
      s.commitAll (fun l => g (s.laneEnv p l) (s.laneWork l)) p.raceLanes := by
  unfold State.forLanes
  rw [← List.foldl_filter]
  refine State.foldl_commit_eq (F := fun t l => g (t.laneEnv p l) (t.laneWork l)) p.raceLanes_nodup s fun t l only context channel => ?_
  obtain ⟨same, env⟩ := only.laneView context channel p
  rw [same, env]

/-! #### The start signal in a lane (R23, R111) -/

/-- Wall 1 of a lane that starts. -/
def Program.startWall (p : Program) : ExpectedWall := ⟨1, .turn, p.armDelay, false, false⟩

/-- A lane that starts, before its reaction. -/
def LaneWork.swum (env : LaneEnv) (source : StartSource) (w : LaneWork) : LaneWork :=
  (w.on fun c => { c with status := .swimming, source := some source }).placeExpected env env.program.startWall

theorem LaneWork.swum_comesTo (env : LaneEnv) (source : StartSource) (w : LaneWork) : (w.swum env source).ComesTo
    { w.ctx with status := .swimming, source := some source, expected := some (env.program.startWall.placed env.now) }
    (env.program.watchesArmed env.now env.program.startWall w.watch.get) w.reports :=
  ⟨LaneWork.placeExpected_ctx _ _ _, funext fun side => LaneWork.placeExpected_watch _ _ _ side, LaneWork.placeExpected_reports _ _ _⟩

theorem LaneContext.StartedFrom.final {c d : LaneContext} {mark now : Nat} {source : StartSource} (h : c.StartedFrom p mark now source d) :
    d.final = c.final := by
  obtain ⟨-, -, -, -, -, -, final, -⟩ := h
  exact final

/-- What the start signal makes of a lane. -/
structure LaneWork.Starts (env : LaneEnv) (mark : Nat) (source : StartSource) (w v : LaneWork) : Prop where
  ctx : w.ctx.StartedFrom env.program mark env.now source v.ctx
  watch : v.watch.get = env.program.watchesArmed env.now env.program.startWall w.watch.get
  reports : v.reports = w.reports ++ w.ctx.startNotes env.program mark env.lane

theorem LaneWork.startSignal_of_prestart {stamp : Stamp} (takeoff : w.ctx.takeoff = some ⟨1, stamp⟩) (env : LaneEnv) (mark : Nat)
    (source : StartSource) : w.startSignal env mark source =
      ((w.swum env source).on fun c => { c with takeoff := none }).react env (exchangeMargin stamp mark) := by
  unfold LaneWork.startSignal
  rw [takeoff]
  rfl

theorem LaneWork.startSignal_of_unseen (unseen : ∀ stamp, w.ctx.takeoff ≠ some ⟨1, stamp⟩) (env : LaneEnv) (mark : Nat)
    (source : StartSource) : w.startSignal env mark source = w.swum env source := by
  unfold LaneWork.startSignal
  dsimp only
  split
  · next stamp takeoff => exact absurd takeoff (unseen stamp)
  · rfl

theorem LaneContext.startNotes_of_prestart {c : LaneContext} {stamp : Stamp} (takeoff : c.takeoff = some ⟨1, stamp⟩) (p : Program)
    (mark : Nat) (l : Lane) : c.startNotes p mark l = judgeNotes l c.judgements (p.startCauses (exchangeMargin stamp mark)) := by
  unfold LaneContext.startNotes
  rw [takeoff]
  rfl

theorem LaneContext.startNotes_of_unseen {c : LaneContext} (unseen : ∀ stamp, c.takeoff ≠ some ⟨1, stamp⟩) (p : Program) (mark : Nat)
    (l : Lane) : c.startNotes p mark l = [] := by
  unfold LaneContext.startNotes
  split
  · next stamp takeoff => exact absurd takeoff (unseen stamp)
  · rfl

theorem LaneWork.startSignal_starts (env : LaneEnv) (mark : Nat) (source : StartSource) (w : LaneWork) :
    LaneWork.Starts env mark source w (w.startSignal env mark source) := by
  have swum := w.swum_comesTo env source
  by_cases prestart : ∃ stamp, w.ctx.takeoff = some ⟨1, stamp⟩
  · obtain ⟨stamp, takeoff⟩ := prestart
    have only (other : Stamp) (is : w.ctx.takeoff = some ⟨1, other⟩) : other = stamp := by
      cases takeoff.symm.trans is
      rfl
    rw [LaneWork.startSignal_of_prestart takeoff]
    have frame := LaneWork.react_frame env (exchangeMargin stamp mark) ((w.swum env source).on fun c => { c with takeoff := none })
    have ctx := LaneWork.react_ctx env (exchangeMargin stamp mark) ((w.swum env source).on fun c => { c with takeoff := none })
    have reports := LaneWork.react_reports env (exchangeMargin stamp mark) ((w.swum env source).on fun c => { c with takeoff := none })
    generalize LaneWork.react env _ _ = v at *
    refine ⟨?_, ?_, ?_⟩
    · rw [ctx]
      change w.ctx.StartedFrom env.program mark env.now source { (w.swum env source).ctx with
        takeoff := none, reaction := some _, judgements := withCauses (w.swum env source).ctx.judgements _ }
      rw [swum.ctx]
      refine ⟨rfl, rfl, rfl, rfl, rfl, rfl, rfl, fun other is => ?_, fun unseen => absurd takeoff (unseen stamp)⟩
      rw [only other is]
      exact ⟨rfl, rfl, rfl⟩
    · rw [frame]
      exact swum.watch
    · rw [reports, LaneContext.startNotes_of_prestart takeoff]
      change (w.swum env source).walls ++ (w.swum env source).finishes
        ++ ((w.swum env source).judges ++ judgeNotes env.lane (w.swum env source).ctx.judgements _) = _
      rw [← List.append_assoc]
      change (w.swum env source).reports ++ _ = _
      rw [swum.reports, swum.ctx]
  · have unseen (stamp : Stamp) (is : w.ctx.takeoff = some ⟨1, stamp⟩) := prestart ⟨stamp, is⟩
    rw [LaneWork.startSignal_of_unseen unseen]
    refine ⟨?_, swum.watch, ?_⟩
    · rw [swum.ctx]
      exact ⟨rfl, rfl, rfl, rfl, rfl, rfl, rfl, fun stamp is => absurd is (unseen stamp), fun _ => ⟨rfl, rfl, rfl⟩⟩
    · rw [swum.reports, LaneContext.startNotes_of_unseen unseen, List.append_nil]

/-! #### The start of the race (R23, R25, R168) -/

/-- The race has started and its lanes have not: RUNNING with its zero, the RACE_NOTE sent. -/
def State.startNoted (s : State) (mark first : Nat) (source : StartSource) (cause : RaceCause) : State :=
  ((({ s with source := some source, startMark := some mark } : State).onBoard fun b => { b with spent := false }).enter .running
    ⟨.running, first⟩).raceNote .armed cause s.eventId mark

/-- The race begins before its lanes do. -/
structure State.Begins (s : State) (p : Program) (mark first : Nat) (origin : StartSource) (cause : RaceCause) (t : State) : Prop where
  race : t.race = .running
  clock : t.clock = ⟨.running, first⟩
  source : t.source = some origin
  startMark : t.startMark = some mark
  program : t.program = s.program
  ports : t.ports = s.ports
  samplers : t.samplers = s.samplers
  lanes : t.lanes = s.lanes
  results : t.results = s.results
  takeoffs : t.takeoffs = s.takeoffs
  log : t.log = s.log
  spent : t.board.spent = false
  freeze : t.board.freeze = s.board.freeze
  mapFits : t.MapFits
  link : t.link = s.link.reported [.race .running .armed cause p.eventId mark (some origin)]
  board : s.BoardWork t (fun _ => false) (s.clock.phase ≠ .running)

theorem State.startNoted_begins (program : s.program = some p) (mark first : Nat) (source : StartSource) (cause : RaceCause) :
    s.Begins p mark first source cause (s.startNoted mark first source cause) := by
  have event : s.eventId = p.eventId := by
    unfold State.eventId
    rw [program]
  have begun : s.BoardWork (({ s with source := some source, startMark := some mark } : State).onBoard fun b =>
      { b with spent := false }) (fun _ => false) False := .of_freeze rfl
  unfold State.startNoted
  rw [event]
  generalize is : (({ s with source := some source, startMark := some mark } : State).onBoard fun b =>
    { b with spent := false }) = b at begun ⊢
  have race := b.enter_race .running ⟨.running, first⟩
  have clock := b.enter_clock .running ⟨.running, first⟩
  have source_ := b.enter_source .running ⟨.running, first⟩
  have mark_ := b.enter_startMark .running ⟨.running, first⟩
  have program_ := b.enter_program .running ⟨.running, first⟩
  have ports := b.enter_ports .running ⟨.running, first⟩
  have samplers := b.enter_samplers .running ⟨.running, first⟩
  have lanes := b.enter_lanes .running ⟨.running, first⟩
  have results := b.enter_results .running ⟨.running, first⟩
  have takeoffs := b.enter_takeoffs .running ⟨.running, first⟩
  have log := b.enter_log .running ⟨.running, first⟩
  have spent := b.enter_spent .running ⟨.running, first⟩
  have freeze := b.enter_freeze .running ⟨.running, first⟩
  have fits := b.enter_mapFits .running ⟨.running, first⟩
  have link := b.enter_link .running ⟨.running, first⟩
  have work := begun.andQuiet (b.enter_boardWork .running ⟨.running, first⟩) (fun _ => .inl (by rw [← is]; rfl)) lanes results
  generalize b.enter .running ⟨.running, first⟩ = e at *
  subst is
  refine ⟨race, clock, source_, mark_, program_, ports, samplers, lanes, results, takeoffs, log, spent, freeze, fits, ?_, ?_⟩
  · change e.link.report (.race e.race .armed cause p.eventId mark e.source) = _
    rw [link, race, source_]
    rfl
  · have noted := work.andSame (u := e.raceNote .armed cause p.eventId mark) (by rfl) (by rfl) (by rfl)
    refine noted.congr (fun _ => rfl) ?_
    simp [State.onBoard]

/-- What a start does. -/
structure State.Starts (s : State) (p : Program) (mark first : Nat) (origin : StartSource) (cause : RaceCause) (t : State) : Prop where
  race : t.race = .running
  clock : t.clock = ⟨.running, first⟩
  source : t.source = some origin
  startMark : t.startMark = some mark
  started : ∀ l, p.inRace l = true → (s.context l).StartedFrom p mark first origin (t.context l)
  others : ∀ l, p.inRace l = false → t.context l = s.context l
  watches : ∀ l, (t.channel .start l).watch = (s.channel .start l).watch
    ∧ (t.channel .turn l).watch = if p.inRace l then p.watchesArmed first p.startWall (s.watches l) .turn
      else (s.channel .turn l).watch
  shows : s.BoardShows (s.autoChanged t) t
  freeze : t.board.freeze = s.board.freeze
  program : t.program = s.program
  results : t.results = s.results
  log : t.log = s.log
  ports : t.ports = s.ports
  spent : t.board.spent = false
  takeoffs : t.takeoffs = s.takeoffs
  keeps : s.EventKeeps t
  link : t.link = s.link.reported (s.startNotes p mark cause origin)

/-- The auto fields of lanes whose works are put back follow from what has changed in them. -/
theorem State.autoChanged_of_commits (here : ∀ l ∈ ls, t.context l = (work l).ctx) (others : ∀ l, l ∉ ls → t.context l = s.context l)
    (places : t.results.places = s.results.places) (k : Lane) :
    s.autoChanged t k = (decide (k ∈ ls) && needsAuto (s.context k) (work k).ctx) := by
  have place : (s.inRace k && s.results.places[k] != t.results.places[k]) = false := by simp [places]
  unfold State.autoChanged
  rw [place, Bool.or_false]
  by_cases among : k ∈ ls
  · rw [here k among, decide_eq_true among, Bool.true_and]
    rfl
  · rw [others k among, decide_eq_false among]
    simp

theorem Program.startWall_start (p : Program) (now : Nat) (watch : PoolEnd → Option Nat) :
    p.watchesArmed now p.startWall watch .start = watch .start := by
  unfold Program.watchesArmed
  split
  · exact if_neg fun h => nomatch h.2.2
  · rfl

theorem State.startRace_starts (program : s.program = some p) (armed : s.race = .armed) (mark first : Nat) (source : StartSource)
    (cause : RaceCause) : s.Starts p mark first source cause (s.startRace mark first source cause) := by
  have keeps := (s.startRace_contained mark first source cause).eventKeeps (s.startRace_frame mark first source cause)
  have is : s.startRace mark first source cause = (s.startNoted mark first source cause).forLanes (State.startLane p mark source) := by
    unfold State.startRace
    dsimp only
    split
    · next q is =>
      cases program.symm.trans is
      rfl
    · next is => cases program.symm.trans is
  have begins := State.startNoted_begins program mark first source cause
  rw [is] at keeps ⊢
  generalize s.startNoted mark first source cause = n at *
  have each : n.forLanes (State.startLane p mark source) =
      n.commitAll (fun l => (n.laneWork l).startSignal (n.laneEnv p l) mark source) p.raceLanes :=
    State.forLanes_commit p (fun env w => w.startSignal env mark source) n
  have does := State.commitAll_does (work := fun l => (n.laneWork l).startSignal (n.laneEnv p l) mark source) p.raceLanes_nodup n
  have starts (l : Lane) := LaneWork.startSignal_starts (n.laneEnv p l) mark source (n.laneWork l)
  rw [each] at keeps ⊢
  generalize worked : (fun l => (n.laneWork l).startSignal (n.laneEnv p l) mark source) = work at *
  have starts (l : Lane) : LaneWork.Starts (n.laneEnv p l) mark source (n.laneWork l) (work l) := by
    rw [← worked]
    exact starts l
  generalize n.commitAll work p.raceLanes = t at *
  have context (l : Lane) : n.context l = s.context l := congrArg (fun lanes : Vector LaneContext 10 => lanes[l]) begins.lanes
  have channel (side : PoolEnd) (l : Lane) : n.channel side l = s.channel side l := by
    unfold State.channel State.sampler
    rw [begins.samplers]
  have now (l : Lane) : (n.laneEnv p l).now = first := congrArg Clock.value begins.clock
  have started (l : Lane) : (s.context l).StartedFrom p mark first source (work l).ctx := by
    rw [← context, ← now l]
    exact (starts l).ctx
  have final (l : Lane) : (work l).ctx.final = (s.context l).final := (started l).final
  have unfrozen : ¬ ∃ l ∈ p.raceLanes, n.FreezesOn l (work l) := by
    rintro ⟨l, -, -, before, after⟩
    rw [context] at before
    exact after ((final l).trans before)
  have changed (l : Lane) := State.autoChanged_of_commits (s := s) (fun l among => does.here l among)
    (fun l away => (does.others l away).trans (context l)) (congrArg Results.places (does.only.results.trans begins.results)) l
  obtain ⟨spent, freeze⟩ := does.stays unfrozen
  refine ⟨does.only.race.trans begins.race, does.only.clock.trans begins.clock, does.only.source.trans begins.source,
    does.only.startMark.trans begins.startMark, fun l inRace => ?_, fun l outside => ?_, fun l => ?_, ?_, freeze.trans begins.freeze,
    does.only.program.trans begins.program, does.only.results.trans begins.results, does.only.log.trans begins.log,
    does.only.ports.trans begins.ports, spent.trans begins.spent, does.only.takeoffs.trans begins.takeoffs, keeps, ?_⟩
  · rw [does.here l (Program.mem_raceLanes.2 inRace)]
    exact started l
  · exact (does.others l fun among => by rw [Program.mem_raceLanes.1 among] at outside; cases outside).trans (context l)
  · by_cases inRace : p.inRace l = true
    · have watch := (starts l).watch
      rw [State.laneWork_watch] at watch
      have among := Program.mem_raceLanes.2 inRace
      have watched (side : PoolEnd) : (t.channel side l).watch = p.watchesArmed first p.startWall (s.watches l) side := by
        have same : n.watches l = s.watches l := funext fun side => congrArg Channel.watch (channel side l)
        rw [does.channel l among side, ← now l, ← same]
        exact congrFun watch side
      rw [watched, watched, if_pos inRace, Program.startWall_start]
      exact ⟨rfl, rfl⟩
    · have away : l ∉ p.raceLanes := fun among => inRace (Program.mem_raceLanes.1 among)
      rw [does.channels l away, does.channels l away, channel, channel, if_neg inRace]
      exact ⟨rfl, rfl⟩
  · refine (begins.board.quietAnd does.board fun _ => .inr does.only.board_map).boardShows (fun l => ?_)
      (fun _ => does.only.mapFits begins.mapFits) fun _ => ?_
    · rw [changed, context]
    · unfold State.MarksClockRow
      rw [does.only.clock, begins.clock, freeze, begins.freeze, spent, begins.spent, armed]
      simp [unfrozen, RaceState.over]
  · rw [does.link, begins.link, ← Link.reported_append]
    refine congrArg (Link.reported _) (congrArg (_ :: ·) (congrArg List.flatten (List.map_congr_left fun l _ => ?_)))
    rw [(starts l).reports, ← context l]
    rfl

/-! #### The rows -/

/-- The start line edge recognised: the line pressed, its entry made. -/
def State.edgeTaken (s : State) (stamp : Stamp) (d : Disposition) : State :=
  { s with
    ports := { s.ports with startLine := .pressed }
    log := s.log.add stamp .start none d
    link := s.link.reported s.log.notes }

theorem exec_startLineEdge_of_armed {mark : Nat} (free : s.resetHeld = false) (seen : s.ports.startLine = .pressSeen (.pre mark))
    (armed : s.race = .armed) : exec .startLineEdge s =
      .next ((s.edgeTaken (.pre mark) .accepted).startRace mark 1 .line .startLine) := by
  rw [exec_startLineEdge free seen]
  have race : (s.setLine .startLine .pressed).race = .armed := armed
  unfold State.recogniseStart State.startEdgeEvent
  rw [race]
  dsimp only
  rw [State.logEntry_eq]
  rfl

theorem exec_startLineEdge_of_other {stamp : Stamp} (free : s.resetHeld = false) (seen : s.ports.startLine = .pressSeen stamp)
    (other : s.race ≠ .armed ∨ ∀ mark, stamp ≠ .pre mark) : exec .startLineEdge s =
      .next (s.edgeTaken stamp (.ignored .notArmedRace)) := by
  rw [exec_startLineEdge free seen]
  unfold State.recogniseStart State.startEdgeEvent
  split
  · next mark race => exact absurd race (other.resolve_right fun none_ => none_ mark rfl)
  · rw [State.logEntry_eq]
    rfl

theorem exec_startManual (taken : s.Takes ⟨kindStartManual, []⟩) : exec (.startManual []) s = .next (if s.race = .armed then
    (s.dropInbound.startRace s.clock.value 0 .manual .startManual).answer kindStartManual .done (be32 s.clock.value)
    else s.replied kindStartManual .badState []) :=
  congrArg Host.Outcome.next (State.take_owner _ taken rfl)

end

/-- Settles O21: a start is `State.startRace`, from the prestart value or from the stamp of the edge. -/
theorem raceStarting : Obligations.RaceStarting := by
  refine ⟨fun s p program armed => ⟨fun taken => ?_, fun mark free seen => ?_⟩, fun s stamp free seen other => ?_, fun s taken other => ?_⟩
  · have row := exec_startManual taken
    rw [if_pos armed] at row
    have does := State.startRace_starts (s := s.dropInbound) program armed s.clock.value 0 .manual .startManual
    generalize s.dropInbound.startRace s.clock.value 0 .manual .startManual = t at *
    exact ⟨_, row, does.race, does.clock, does.source, does.startMark, does.started, does.others, does.watches, does.shows, does.freeze,
      does.program, does.results, does.log, does.ports, does.spent, does.keeps.answer does.takeoffs _ _ _,
      State.answer_reported does.link _ _ _⟩
  · have does := State.startRace_starts (s := s.edgeTaken (.pre mark) .accepted) program armed mark 1 .line .startLine
    have row := exec_startLineEdge_of_armed free seen armed
    generalize (s.edgeTaken (.pre mark) .accepted).startRace mark 1 .line .startLine = t at *
    obtain ⟨pending, held, zeroing, board, samplers, link⟩ := does.keeps
    refine ⟨t, row, does.race, does.clock, does.source, does.startMark, does.started, does.others, does.watches, does.shows, does.freeze,
      does.log, does.ports, does.program, does.results, does.spent, does.takeoffs,
      ⟨pending, held, zeroing, board, samplers, (Link.reported_sameButReports _ _).trans link⟩, ?_⟩
    rw [Link.reported_append]
    exact does.link
  · refine exec_startLineEdge_of_other free seen (other.imp_right fun unstamped mark => ?_)
    rw [unstamped]
    exact nofun
  · rw [exec_startManual taken, if_neg other]

end Sys2Proof.Machine


/-! ### The close of a race (R29, R30) -/

namespace Sys2Proof.Machine

section
variable {s t u : State} {p : Program} {l : Lane} {w : LaneWork} {env : LaneEnv} {x : Settlement} {c d : LaneContext}

/-! #### What a close settles in a lane -/

/-- The leg record at this index is PENDING. -/
def openLeg (legs : List LegRecord) (i : Nat) : Bool := legs[i]?.any fun r => r.verdict = .pending

/-- A leg record after the open legs among these have been closed. -/
def closedLeg (among : List Nat) (i : Nat) (r : LegRecord) : LegRecord :=
  if i ∈ among ∧ r.verdict = .pending then ⟨.unjudged, none⟩ else r

/-- The open legs among these are closed. -/
structure LaneWork.LegsClosed (env : LaneEnv) (among : List Nat) (w v : LaneWork) : Prop where
  frame : w.OnlySettles v
  legs : ∀ i : Nat, v.ctx.legs[i]? = w.ctx.legs[i]?.map (closedLeg among i)
  takeoff : v.ctx.takeoff = w.ctx.takeoff
  adds : LaneWork.Adds env.lane w v ((among.filter (openLeg w.ctx.legs)).map fun i => .unjudged (i + 2))
  watch : v.watch.get .start = some 1 ↔ w.watch.get .start = some 1

theorem closedLeg_of_other {among : List Nat} {i k : Nat} (other : i ≠ k) : closedLeg (k :: among) i = closedLeg among i := by
  unfold closedLeg
  simp [other]

/-- The open legs, one after the other (R29, stage 2). -/
theorem LaneWork.settleLegs_closed (env : LaneEnv) {among : List Nat} (nodup : among.Nodup) (w : LaneWork) :
    LaneWork.LegsClosed env among w ((among.map (· + 2)).foldl (fun v k => v.settleLeg env k) w) := by
  induction among generalizing w with
  | nil =>
    have kept (i : Nat) : closedLeg [] i = id := by
      funext r
      exact if_neg fun h => nomatch h.1
    exact ⟨.refl w, fun i => by rw [kept, Option.map_id]; rfl, rfl, .refl, Iff.rfl⟩
  | cons k among ih =>
    obtain ⟨fresh, nodup⟩ := List.nodup_cons.1 nodup
    obtain ⟨frame, legs, takeoff, adds, watch⟩ := ih nodup (w.settleLeg env (k + 2))
    have own := w.settleLeg_frame env (k + 2)
    rw [List.map_cons, List.foldl_cons]
    generalize List.foldl _ (w.settleLeg env (k + 2)) _ = u at *
    by_cases pending : openLeg w.ctx.legs k = true
    · obtain ⟨set, kept, added, watched⟩ := LaneWork.settleLeg_of_pending (env := env) (k := k + 2) (by omega) pending
      generalize w.settleLeg env (k + 2) = v at *
      have here : v.ctx.legs = w.ctx.legs.set k ⟨.unjudged, none⟩ := set
      refine ⟨own.trans frame, fun i => ?_, takeoff.trans kept, ?_, watch.trans ?_⟩
      · rw [legs, here]
        by_cases same : i = k
        · subst same
          obtain ⟨r, is, open_⟩ := (Option.any_eq_true _ _).1 pending
          have within : i < w.ctx.legs.length := (List.getElem?_eq_some_iff.1 is).1
          rw [List.getElem?_set_self within, is]
          simp [closedLeg, fresh, of_decide_eq_true open_]
        · rw [List.getElem?_set_ne (Ne.symm same), closedLeg_of_other same]
      · have same : among.filter (openLeg v.ctx.legs) = among.filter (openLeg w.ctx.legs) := by
          refine List.filter_congr fun i later => ?_
          unfold openLeg
          have apart : k ≠ i := fun same => fresh (same ▸ later)
          rw [here, List.getElem?_set_ne apart]
        rw [List.filter_cons_of_pos pending, List.map_cons, ← same]
        exact added.trans adds
      · rw [watched]
        split
        · next ends =>
          refine iff_of_false nofun fun first => ?_
          cases first.symm.trans ends.2
        · exact Iff.rfl
    · rw [LaneWork.settleLeg_of_settled (k := k + 2) (by omega) pending] at legs takeoff adds watch frame
      refine ⟨frame, fun i => ?_, takeoff, ?_, watch⟩
      · rw [legs]
        by_cases same : i = k
        · subst same
          refine Option.map_congr fun r is => ?_
          have settled : r.verdict ≠ .pending := fun open_ => pending ((Option.any_eq_true _ _).2 ⟨r, is, decide_eq_true open_⟩)
          simp [closedLeg, settled]
        · rw [closedLeg_of_other same]
      · rw [List.filter_cons_of_neg pending]
        exact adds

/-- The causes of stage 2 of a close: the open later legs, and leg 1 when its start watch is still set without a reaction. -/
def LaneWork.openCauses (p : Program) (w : LaneWork) : List Judgement :=
  ((List.range (p.legs - 1)).filter (openLeg w.ctx.legs)).map (fun i => .unjudged (i + 2))
    ++ if w.watch.get .start = some 1 ∧ w.ctx.reaction = none then [.unjudged 1] else []

/-- The open later legs settled as unseen. -/
def LaneWork.legsSettled (env : LaneEnv) (w : LaneWork) : LaneWork := env.program.laterLegs.foldl (fun v k => v.settleLeg env k) w

/-- Leg 1 settled as unseen while its start watch is set. -/
def LaneWork.firstSettled (env : LaneEnv) (w : LaneWork) : LaneWork :=
  if w.watch.start = some 1 ∧ w.ctx.reaction = none then w.judge env.lane (.unjudged 1) else w

/-- Watches and pending takeoff ended. -/
def LaneWork.watchesEnded (w : LaneWork) : LaneWork := w.endWatches.on fun c => { c with takeoff := none }

/-- What a close settles once the collecting wall is resolved (R29, stage 2). -/
theorem LaneWork.settleOpen_comesTo (env : LaneEnv) (w : LaneWork) : (w.settleOpen env).ComesTo
    { w.ctx with
      takeoff := none, legs := w.ctx.legs.mapIdx (closedLeg (List.range (env.program.legs - 1)))
      judgements := withCauses w.ctx.judgements (w.openCauses env.program) }
    (fun _ => none)
    (w.walls ++ w.finishes ++ (w.judges ++ judgeNotes env.lane w.ctx.judgements (w.openCauses env.program))) := by
  have closed := w.settleLegs_closed env (List.nodup_range (n := env.program.legs - 1))
  obtain ⟨frame, legs, takeoff, adds, watch⟩ := closed
  have is : w.settleOpen env = ((w.legsSettled env).firstSettled env).watchesEnded := rfl
  have same : w.legsSettled env = ((List.range (env.program.legs - 1)).map (· + 2)).foldl (fun v k => v.settleLeg env k) w := rfl
  rw [← same] at frame legs takeoff adds watch
  rw [is]
  generalize w.legsSettled env = v at *
  have reaction : v.ctx.reaction = w.ctx.reaction := by rw [frame]
  have first : LaneWork.Adds env.lane w (v.firstSettled env) (w.openCauses env.program) := by
    unfold LaneWork.firstSettled LaneWork.openCauses
    by_cases unseen : w.watch.get .start = some 1 ∧ w.ctx.reaction = none
    · rw [if_pos unseen, if_pos (show v.watch.start = some 1 ∧ v.ctx.reaction = none from ⟨watch.2 unseen.1, reaction.trans unseen.2⟩)]
      exact adds.trans (v.judge_adds _ _)
    · rw [if_neg unseen, if_neg (show ¬ (v.watch.start = some 1 ∧ v.ctx.reaction = none) from
        fun h => unseen ⟨watch.1 h.1, reaction.symm.trans h.2⟩), List.append_nil]
      exact adds
  have judged : v.OnlyJudges (v.firstSettled env) := by
    unfold LaneWork.firstSettled
    split
    · exact v.judge_frame _ _
    · exact .refl v
  generalize v.firstSettled env = j at *
  have all : v.ctx.legs = w.ctx.legs.mapIdx (closedLeg (List.range (env.program.legs - 1))) :=
    List.ext_getElem? fun i => by rw [legs, List.getElem?_mapIdx]
  refine ⟨?_, funext fun side => by cases side <;> rfl, ?_⟩
  · have ctx : j.watchesEnded.ctx = { j.ctx with takeoff := none } := rfl
    have own : j.ctx = { v.ctx with judgements := j.ctx.judgements } := congrArg LaneWork.ctx judged
    have before : v.ctx = { w.ctx with takeoff := v.ctx.takeoff, legs := v.ctx.legs, judgements := v.ctx.judgements } :=
      congrArg LaneWork.ctx frame
    rw [ctx, own, before, first.held, all]
  · change j.walls ++ j.finishes ++ j.judges = _
    rw [first.notes, judged, frame]

/-- A collecting wall resolved by a close (R29, stage 1). -/
theorem LaneWork.resolveByClose_comesTo {wall : CollectingWall} {r : WallRecord} (is : r = recordOfWall env.program wall)
    (xis : x = w.ctx.settledAt env.program wall.index r.official) : (w.resolveByClose env wall).ComesTo
      { w.ctx with
        collecting := none, resolved := w.ctx.resolved ++ [r], takeoff := x.takeoff, legs := x.legs
        judgements := withCauses w.ctx.judgements (r.causes ++ x.causes)
        status := if wall.index = env.program.lengths then .finished else w.ctx.status
        final := if wall.index = env.program.lengths then some ⟨r.official, true⟩ else w.ctx.final }
      (x.watches w.watch.get)
      (w.walls ++ [.wall env.lane .close r]
        ++ (w.finishes ++ if wall.index = env.program.lengths then
            [.finish env.lane .finished r.official true (w.ctx.final.map Final.time)] else [])
        ++ (w.judges ++ judgeNotes env.lane w.ctx.judgements (r.causes ++ x.causes))) := by
  have timed : r.source ≠ .hand := by
    rw [is]
    exact recordOfWall_source _ _
  have index : r.index = wall.index := by rw [is, recordOfWall_index]
  have records := LaneWork.recorded_records env .close timed (w.on fun c => { c with collecting := none })
  have settled : x = w.ctx.settledAt env.program r.index r.official := by rw [xis, index]
  have resolves : w.resolveByClose env wall = (if env.program.isFinal r.index then
        (((w.on fun c => { c with collecting := none }).addRecord env .close r).judgeRecord env r).setFinal env r.official true .finished
      else ((w.on fun c => { c with collecting := none }).addRecord env .close r).judgeRecord env r).settle env r.index r.official := by
    rw [is]
    rfl
  rw [resolves, ← index]
  generalize LaneWork.judgeRecord env r _ = k at records ⊢
  by_cases last : r.index = env.program.lengths
  · rw [if_pos (Program.isFinal_iff.2 last), if_pos last, if_pos last, if_pos last]
    exact records.final_settled .finished (settled.trans (LaneContext.settledAt_congr rfl rfl rfl _ _))
  · rw [if_neg fun final => last (Program.isFinal_iff.1 final), if_neg last, if_neg last, if_neg last, List.append_nil]
    exact records.settled (settled.trans (LaneContext.settledAt_congr rfl rfl rfl _ _))

/-- What a close makes of a lane before its status (R29, stages 1 and 2). -/
structure LaneContext.ClosesTo (p : Program) (watch : PoolEnd → Option Nat) (c d : LaneContext) : Prop where
  collecting : d.collecting = none
  takeoff : d.takeoff = none
  legs : d.legs = c.closeLegs p
  judgements : d.judgements = withCauses c.judgements (c.closeCauses p watch)
  reaction : d.reaction = c.reaction
  source : d.source = c.source
  resolves : ∀ w, c.collecting = some w → d.resolved = c.resolved ++ [recordOfWall p w]
  finishes : ∀ w, c.collecting = some w → w.index = p.lengths →
    d.status = .finished ∧ d.final = some ⟨(recordOfWall p w).official, true⟩
  goes : (∀ w, c.collecting = some w → w.index ≠ p.lengths) → d.status = c.status ∧ d.final = c.final
  kept : c.collecting = none → d.resolved = c.resolved

theorem closeLegs_eq (p : Program) (c : LaneContext) :
    c.closeLegs p = (c.closeSettled p).legs.mapIdx (closedLeg (List.range (p.legs - 1))) := by
  unfold LaneContext.closeLegs
  congr 1
  funext i r
  refine if_congr (and_congr_left' ?_) rfl rfl
  rw [List.mem_range]
  omega

theorem LaneContext.closeSettled_of_open (p : Program) (open_ : c.collecting = none) : c.closeSettled p = c.unsettled := by
  unfold LaneContext.closeSettled
  rw [open_]

theorem LaneContext.closeSettled_of_collecting (p : Program) {wall : CollectingWall} (collecting : c.collecting = some wall) :
    c.closeSettled p = c.settledAt p wall.index (recordOfWall p wall).official := by
  unfold LaneContext.closeSettled
  rw [collecting]

/-- What a close makes of a lane that no note waits in. -/
structure LaneWork.Closes (env : LaneEnv) (w v : LaneWork) : Prop where
  ctx : w.ctx.ClosesTo env.program w.watch.get v.ctx
  watch : v.watch.get = fun _ => none
  reports : v.reports = w.ctx.closeNotes env.program env.lane w.watch.get

theorem LaneWork.close_closes (env : LaneEnv) (walls : w.walls = []) (finishes : w.finishes = []) (judges : w.judges = []) :
    LaneWork.Closes env w (w.close env) := by
  cases collecting : w.ctx.collecting with
  | none =>
    have is : w.close env = w.settleOpen env := by
      unfold LaneWork.close
      rw [collecting]
    obtain ⟨ctx, watch, reports⟩ := w.settleOpen_comesTo env
    have settled := LaneContext.closeSettled_of_open env.program collecting
    have causes : w.ctx.closeCauses env.program w.watch.get = w.openCauses env.program := by
      unfold LaneContext.closeCauses
      rw [settled, collecting]
      rfl
    rw [is]
    refine ⟨⟨?_, ?_, ?_, ?_, ?_, ?_, ?_, ?_, ?_, ?_⟩, watch, ?_⟩
    · rw [ctx]
      exact collecting
    · rw [ctx]
    · rw [ctx, closeLegs_eq, settled]
      rfl
    · rw [ctx, causes]
    · rw [ctx]
    · rw [ctx]
    · exact fun wall found => nomatch collecting.symm.trans found
    · exact fun wall found => nomatch collecting.symm.trans found
    · rw [ctx]
      exact fun _ => ⟨rfl, rfl⟩
    · rw [ctx]
      exact fun _ => rfl
    · rw [reports, walls, finishes, judges]
      unfold LaneContext.closeNotes
      rw [causes, collecting]
      rfl
  | some wall =>
    have is : w.close env = (w.resolveByClose env wall).settleOpen env := by
      unfold LaneWork.close
      rw [collecting]
    have settled := LaneContext.closeSettled_of_collecting env.program collecting
    obtain ⟨ctx₁, watch₁, reports₁⟩ := LaneWork.resolveByClose_comesTo (w := w) (env := env) (wall := wall) rfl rfl
    rw [← settled] at ctx₁ watch₁ reports₁
    rw [is]
    generalize w.resolveByClose env wall = v at *
    obtain ⟨ctx, watch, reports⟩ := v.settleOpen_comesTo env
    generalize v.settleOpen env = u at *
    have opens : v.openCauses env.program =
        ((List.range (env.program.legs - 1)).filter (openLeg (w.ctx.closeSettled env.program).legs)).map (fun i => .unjudged (i + 2))
          ++ if (w.ctx.closeSettled env.program).watches w.watch.get .start = some 1 ∧ w.ctx.reaction = none then [.unjudged 1]
            else [] := by
      unfold LaneWork.openCauses
      rw [watch₁, ctx₁]
    have causes : w.ctx.closeCauses env.program w.watch.get =
        (recordOfWall env.program wall).causes ++ (w.ctx.closeSettled env.program).causes ++ v.openCauses env.program := by
      unfold LaneContext.closeCauses
      rw [opens, collecting, ← List.append_assoc]
      rfl
    have judgements : u.ctx.judgements = withCauses w.ctx.judgements (w.ctx.closeCauses env.program w.watch.get) := by
      rw [ctx, causes, withCauses_append, ctx₁]
    rw [ctx₁] at ctx
    refine ⟨⟨?_, ?_, ?_, judgements, ?_, ?_, fun other found => ?_, fun other found last => ?_, fun further => ?_,
      fun open_ => nomatch open_.symm.trans collecting⟩, watch, ?_⟩
    · rw [ctx]
    · rw [ctx]
    · rw [ctx, closeLegs_eq]
    · rw [ctx]
    · rw [ctx]
    · cases collecting.symm.trans found
      rw [ctx]
    · cases collecting.symm.trans found
      rw [ctx]
      exact ⟨if_pos last, if_pos last⟩
    · rw [ctx]
      exact ⟨if_neg (further wall collecting), if_neg (further wall collecting)⟩
    · rw [reports, ← List.append_assoc]
      change v.reports ++ _ = _
      rw [reports₁, walls, finishes, judges, ctx₁]
      unfold LaneContext.closeNotes
      rw [causes, collecting, judgeNotes_append _ _ _ (v.openCauses env.program)]
      simp

/-! #### The status of a closed lane (R29, stage 3) -/

/-- A lane that stands where a close leaves it. -/
def LaneStatus.stays (x : LaneStatus) : Prop := x = .finished ∨ x = .disqualified ∨ x = .didNotStart

theorem LaneContext.closeStatus_cases (c : LaneContext) : c.status.stays ∧ c.closeStatus = c
    ∨ ¬ c.status.stays ∧ c.closeStatus = { c with status := .noTime, expected := none } := by
  unfold LaneContext.closeStatus LaneStatus.stays
  cases c.status <;> simp

theorem LaneContext.closeStatus_final (c : LaneContext) : c.closeStatus.final = c.final := by
  obtain ⟨-, is⟩ | ⟨-, is⟩ := c.closeStatus_cases <;> rw [is]

theorem needsAuto_untimed (d : LaneContext) :
    needsAuto d { d with status := .noTime, expected := none } = (d.status != .noTime) := by
  simp [needsAuto, LaneContext.primary]

theorem LaneContext.closeStatus_keeps (c : LaneContext) : c.closeStatus.legs = c.legs ∧ c.closeStatus.judgements = c.judgements
    ∧ c.closeStatus.reaction = c.reaction ∧ c.closeStatus.source = c.source := by
  obtain ⟨-, is⟩ | ⟨-, is⟩ := c.closeStatus_cases <;> rw [is] <;> exact ⟨rfl, rfl, rfl, rfl⟩

/-- What the auto fields of a closed lane show changes when it is resolved or when its status is set. -/
theorem needsAuto_close (goes : d.status = c.status ∨ d.status = .finished) :
    (needsAuto c d || needsAuto d d.closeStatus) = needsAuto c d.closeStatus := by
  obtain ⟨-, is⟩ | ⟨unended, is⟩ := d.closeStatus_cases
  · rw [is]
    simp [needsAuto]
  · have same : d.status = c.status := goes.resolve_right fun finished => unended (.inl finished)
    rw [is, needsAuto_untimed, same]
    unfold needsAuto
    simp only [same, bne_self_eq_false, Bool.false_or]
    rw [Bool.or_comm]
    simp only [Bool.or_assoc]
    rfl

theorem LaneContext.closeStatus_sameShown (still : needsAuto d d.closeStatus = false) : d.SameShown d.closeStatus := by
  obtain ⟨-, is⟩ | ⟨-, is⟩ := d.closeStatus_cases
  · rw [is]
    exact ⟨rfl, rfl, rfl, rfl⟩
  · rw [is] at still ⊢
    refine ⟨?_, rfl, rfl, rfl⟩
    rw [needsAuto_untimed] at still
    exact (bne_eq_false_iff_eq.1 still).symm

theorem LaneContext.SameShown.autoCell (h : c.SameShown d) (y : Layout) (place : Option Nat) (x : Nat) (old : Cell) :
    y.autoCell d place x old = y.autoCell c place x old := by
  obtain ⟨status, resolved, final, judgements⟩ := h
  cases c
  cases d
  cases status
  cases resolved
  cases final
  cases judgements
  rfl

/-- A lane after a close. -/
theorem LaneContext.ClosesTo.closedFrom {watch : PoolEnd → Option Nat} (h : c.ClosesTo p watch d) : c.ClosedFrom p d.closeStatus := by
  have ended : d.closeStatus.status ∈ [LaneStatus.finished, .noTime, .disqualified, .didNotStart] := by
    obtain ⟨finished | out | out, is⟩ | ⟨-, is⟩ := d.closeStatus_cases <;> simp [*]
  have same : d.closeStatus.collecting = d.collecting ∧ d.closeStatus.takeoff = d.takeoff ∧ d.closeStatus.legs = d.legs
      ∧ d.closeStatus.resolved = d.resolved := by
    obtain ⟨-, is⟩ | ⟨-, is⟩ := d.closeStatus_cases <;> rw [is] <;> exact ⟨rfl, rfl, rfl, rfl⟩
  obtain ⟨collecting, takeoff, legs, resolved⟩ := same
  refine ⟨collecting.trans h.collecting, takeoff.trans h.takeoff, ended, fun k r later within leg => ?_,
    fun w found => ⟨resolved.trans (h.resolves w found), fun last => ?_, fun other => ?_⟩,
    fun open_ => ⟨resolved.trans (h.kept open_), d.closeStatus_final.trans (h.goes fun w found => (nomatch open_.symm.trans found)).2⟩,
    fun further swimming => ?_⟩
  · rw [LaneContext.leg_eq later, legs, h.legs, closeLegs_eq, List.getElem?_mapIdx] at leg
    obtain ⟨q, -, rfl⟩ := Option.map_eq_some_iff.1 leg
    have among : k - 2 ∈ List.range (p.legs - 1) := List.mem_range.2 (by omega)
    unfold closedLeg
    split
    · exact nofun
    · next settled => exact fun open_ => settled ⟨among, open_⟩
  · obtain ⟨finished, final⟩ := h.finishes w found last
    refine ⟨?_, d.closeStatus_final.trans final⟩
    obtain ⟨-, is⟩ | ⟨unended, -⟩ := d.closeStatus_cases
    · rw [is, finished]
    · exact absurd (.inl finished) unended
  · refine d.closeStatus_final.trans (h.goes fun v again => ?_).2
    cases found.symm.trans again
    exact other
  · have swims : d.status = .swimming := (h.goes further).1.trans swimming
    obtain ⟨finished | out | out, -⟩ | ⟨-, is⟩ := d.closeStatus_cases
    · cases swims.symm.trans finished
    · cases swims.symm.trans out
    · cases swims.symm.trans out
    · rw [is]
      exact ⟨rfl, rfl⟩

/-! #### The lanes closed (R29, stages 1 to 3) -/

/-- The stages 1 to 3 of a close. -/
def State.lanesClosed (s : State) (p : Program) : State :=
  ((s.forLanes (State.closeLane p)).endWatches).forLanes (State.closeLaneStatus p)

/-- What the stages 1 to 3 of a close do. -/
structure State.ClosesLanes (s : State) (p : Program) (u : State) : Prop where
  only : s.OnlyLane u
  here : ∀ l, p.inRace l = true → ∃ d, (s.context l).ClosesTo p (s.watches l) d ∧ u.context l = d.closeStatus
  others : ∀ l, p.inRace l = false → u.context l = s.context l
  channel : ∀ side l, u.channel side l = { s.channel side l with watch := none }
  link : u.link = s.link.reported (p.raceLanes.map fun l => (s.context l).closeNotes p l (s.watches l)).flatten
  starts : s.FreezeStarts u → u.board.spent = true
  stays : ¬ s.FreezeStarts u → u.board.spent = s.board.spent ∧ u.board.freeze = s.board.freeze
  board : s.BoardWork u (fun l => needsAuto (s.context l) (u.context l)) (s.FreezeStarts u)

theorem State.lanesClosed_closes (p : Program) (s : State) : s.ClosesLanes p (s.lanesClosed p) := by
  have first : s.forLanes (State.closeLane p) = s.commitAll (fun l => (s.laneWork l).close (s.laneEnv p l)) p.raceLanes :=
    State.forLanes_commit p (fun env w => w.close env) s
  have second (t : State) : t.forLanes (State.closeLaneStatus p) =
      t.commitAll (fun l => { t.laneWork l with ctx := (t.laneWork l).ctx.closeStatus }) p.raceLanes :=
    State.forLanes_commit p (fun _ w => { w with ctx := w.ctx.closeStatus }) t
  have closes (l : Lane) := LaneWork.close_closes (w := s.laneWork l) (s.laneEnv p l) rfl rfl rfl
  have settles := State.commitAll_does (work := fun l => (s.laneWork l).close (s.laneEnv p l)) p.raceLanes_nodup s
  unfold State.lanesClosed
  rw [first, second]
  generalize worked : (fun l => (s.laneWork l).close (s.laneEnv p l)) = work at *
  have closes (l : Lane) : LaneWork.Closes (s.laneEnv p l) (s.laneWork l) (work l) := by
    rw [← worked]
    exact closes l
  generalize s.commitAll work p.raceLanes = t at *
  have ends : t.OnlyLane t.endWatches := t.endWatches_frame
  have ended := State.endWatches_channel t
  have same : t.endWatches.lanes = t.lanes := t.endWatches_lanes
  have board : t.endWatches.board = t.board := t.endWatches_board
  have link : t.endWatches.link = t.link := rfl
  generalize t.endWatches = e at *
  have states := State.commitAll_does (work := fun l => { e.laneWork l with ctx := (e.laneWork l).ctx.closeStatus }) p.raceLanes_nodup e
  generalize worked₂ : (fun l => { e.laneWork l with ctx := (e.laneWork l).ctx.closeStatus }) = work₂ at *
  have is₂ (l : Lane) : work₂ l = { e.laneWork l with ctx := (e.laneWork l).ctx.closeStatus } := by rw [← worked₂]
  generalize e.commitAll work₂ p.raceLanes = u at *
  have context (l : Lane) : e.context l = t.context l := congrArg (fun lanes : Vector LaneContext 10 => lanes[l]) same
  have watches (l : Lane) : (s.laneWork l).watch.get = s.watches l := s.laneWork_watch l
  have away {l : Lane} (outside : p.inRace l = false) : l ∉ p.raceLanes :=
    fun among => by rw [Program.mem_raceLanes.1 among] at outside; cases outside
  have closed (l : Lane) (inRace : p.inRace l = true) : u.context l = (work l).ctx.closeStatus := by
    rw [states.here l (Program.mem_raceLanes.2 inRace), is₂]
    change (e.context l).closeStatus = _
    rw [context, settles.here l (Program.mem_raceLanes.2 inRace)]
  have kept (l : Lane) (outside : p.inRace l = false) : t.context l = s.context l ∧ u.context l = s.context l := by
    have same := settles.others l (away outside)
    exact ⟨same, (states.others l (away outside)).trans ((context l).trans same)⟩
  have unfrozen : ¬ ∃ l ∈ p.raceLanes, e.FreezesOn l (work₂ l) := by
    rintro ⟨l, -, -, before, after⟩
    rw [is₂] at after
    exact after ((e.context l).closeStatus_final.trans before)
  have freezes : (∃ l ∈ p.raceLanes, s.FreezesOn l (work l)) ↔ s.FreezeStarts u := by
    constructor
    · rintro ⟨l, among, ⟨running, interval, spent⟩, before, after⟩
      refine ⟨running, interval, spent, l, before, ?_⟩
      rw [closed l (Program.mem_raceLanes.1 among), LaneContext.closeStatus_final]
      exact after
    · rintro ⟨running, interval, spent, l, before, after⟩
      cases inRace : p.inRace l with
      | true =>
        rw [closed l inRace, LaneContext.closeStatus_final] at after
        exact ⟨l, Program.mem_raceLanes.2 inRace, ⟨running, interval, spent⟩, before, after⟩
      | false =>
        rw [(kept l inRace).2] at after
        exact absurd before after
  have later := states.stays unfrozen
  refine ⟨(settles.only.trans ends).trans states.only, fun l inRace => ⟨(work l).ctx, ?_, closed l inRace⟩,
    fun l outside => (kept l outside).2, fun side l => ?_, ?_, fun on => ?_, fun off => ?_, ?_⟩
  · rw [← watches]
    exact (closes l).ctx
  · have over_ : e.channel side l = { s.channel side l with watch := none } := by
      rw [ended]
      cases inRace : p.inRace l with
      | true => rw [settles.channel l (Program.mem_raceLanes.2 inRace)]
      | false => rw [settles.channels l (away inRace)]
    cases inRace : p.inRace l with
    | true =>
      rw [states.channel l (Program.mem_raceLanes.2 inRace), is₂, over_]
      change { s.channel side l with watch := (e.laneWork l).watch.get side } = _
      rw [State.laneWork_watch, State.watches, over_]
    | false => rw [states.channels l (away inRace), over_]
  · have silent : (p.raceLanes.map fun l => (work₂ l).reports).flatten = [] := by
      rw [List.flatten_eq_nil_iff]
      intro rs among
      obtain ⟨l, -, rfl⟩ := List.mem_map.1 among
      rw [is₂]
      rfl
    rw [states.link, silent, link, settles.link]
    refine congrArg (Link.reported _) (congrArg List.flatten (List.map_congr_left fun l _ => ?_))
    rw [(closes l).reports, watches]
    rfl
  · exact later.1.trans ((congrArg Board.spent board).trans (settles.starts (freezes.2 on)))
  · obtain ⟨spent, freeze⟩ := settles.stays fun on => off (freezes.1 on)
    exact ⟨later.1.trans ((congrArg Board.spent board).trans spent), later.2.trans ((congrArg Board.freeze board).trans freeze)⟩
  · have work₂Ctx (l : Lane) : (work₂ l).ctx = (e.context l).closeStatus := by
      rw [is₂]
      rfl
    have seen (l : Lane) (inRace : p.inRace l = true) : e.context l = (work l).ctx :=
      (context l).trans (settles.here l (Program.mem_raceLanes.2 inRace))
    have marks : (∃ l ∈ p.raceLanes, s.FreezesOn l (work l)) ∨ (∃ l ∈ p.raceLanes, e.FreezesOn l (work₂ l)) ↔ s.FreezeStarts u :=
      (or_iff_left unfrozen).trans freezes
    refine ((settles.board.andSame board same ends.results).trans states.board (fun _ => .inl ?_) fun l writes late => ?_).congr
      (fun l => ?_) marks
    · exact (congrArg Board.map board).trans settles.only.board_map
    · have among := (Bool.and_eq_true_iff.1 writes).1
      rw [among, Bool.true_and, work₂Ctx] at late
      have inRace := Program.mem_raceLanes.1 (of_decide_eq_true among)
      have shown := LaneContext.closeStatus_sameShown late
      rw [seen l inRace, ← closed l inRace, ← seen l inRace] at shown
      intro y x old
      rw [states.only.results]
      exact (shown.autoCell y _ x old).symm
    · cases inRace : p.inRace l with
      | true =>
        have goes : (work l).ctx.status = (s.context l).status ∨ (work l).ctx.status = .finished := by
          by_cases last : ∃ wall, (s.context l).collecting = some wall ∧ wall.index = p.lengths
          · obtain ⟨wall, found, last⟩ := last
            exact .inr ((closes l).ctx.finishes wall found last).1
          · exact .inl ((closes l).ctx.goes fun wall found at_ => last ⟨wall, found, at_⟩).1
        rw [work₂Ctx, seen l inRace, closed l inRace, decide_eq_true (Program.mem_raceLanes.2 inRace), Bool.true_and, Bool.true_and]
        exact (needsAuto_close goes).symm
      | false =>
        rw [decide_eq_false (away inRace), (kept l inRace).2]
        simp [needsAuto]

/-! #### The race closed (R29, stage 4) -/

/-- What a close does. -/
structure State.ClosesRace (s : State) (p : Program) (cause : RaceCause) (t : State) : Prop where
  closed : s.ClosedFrom p t
  overrun : t.overrun = s.overrun
  ranks : t.RanksFit
  amend : t.results.amend = s.results.amend
  lamps : s.LampsFollow t p
  follows : s.BoardFollows t
  keeps : s.EventKeeps t
  link : t.link = s.link.reported (s.closeNotes t p cause)

/-- The re-rank of a running race marks no clock row. -/
theorem State.headChanges_of_running (running : s.race = .running) : ¬ s.HeadChanges := by
  unfold State.HeadChanges
  rw [running]
  exact fun h => by cases h.1 <;> contradiction

/-- The race is over with its clock held. -/
structure State.Halts (r : State) (cause : RaceCause) (event : Nat) (t : State) : Prop where
  race : t.race = .complete
  clock : t.clock = ⟨.held, r.clock.value⟩
  program : t.program = r.program
  source : t.source = r.source
  overrun : t.overrun = r.overrun
  log : t.log = r.log
  takeoffs : t.takeoffs = r.takeoffs
  lanes : t.lanes = r.lanes
  results : t.results = r.results
  ports : t.ports = r.ports
  samplers : t.samplers = r.samplers
  link : t.link = r.link.reported [.race .complete .running cause event r.clock.value r.source]
  freeze : t.board.freeze = none
  spent : t.board.spent = r.board.spent
  mapFits : t.MapFits
  board : r.BoardWork t (fun _ => false) (r.board.freeze ≠ none ∨ r.clock.phase ≠ .held)

/-- COMPLETE with the clock held, and its RACE_NOTE. -/
def State.halted (r : State) (cause : RaceCause) (event : Nat) : State :=
  (r.enter .complete ⟨.held, r.clock.value⟩).raceNote .running cause event r.clock.value

theorem State.halted_halts (r : State) (cause : RaceCause) (event : Nat) : r.Halts cause event (r.halted cause event) := by
  have race := r.enter_race .complete ⟨.held, r.clock.value⟩
  have clock := r.enter_clock .complete ⟨.held, r.clock.value⟩
  have program := r.enter_program .complete ⟨.held, r.clock.value⟩
  have source := r.enter_source .complete ⟨.held, r.clock.value⟩
  have overrun := r.enter_overrun .complete ⟨.held, r.clock.value⟩
  have log := r.enter_log .complete ⟨.held, r.clock.value⟩
  have takeoffs := r.enter_takeoffs .complete ⟨.held, r.clock.value⟩
  have lanes := r.enter_lanes .complete ⟨.held, r.clock.value⟩
  have results := r.enter_results .complete ⟨.held, r.clock.value⟩
  have ports := r.enter_ports .complete ⟨.held, r.clock.value⟩
  have samplers := r.enter_samplers .complete ⟨.held, r.clock.value⟩
  have link := r.enter_link .complete ⟨.held, r.clock.value⟩
  have freeze := r.enter_freeze .complete ⟨.held, r.clock.value⟩
  have spent := r.enter_spent .complete ⟨.held, r.clock.value⟩
  have fits := r.enter_mapFits .complete ⟨.held, r.clock.value⟩
  have work := r.enter_boardWork .complete ⟨.held, r.clock.value⟩
  unfold State.halted
  generalize r.enter .complete ⟨.held, r.clock.value⟩ = e at *
  refine ⟨race, clock, program, source, overrun, log, takeoffs, lanes, results, ports, samplers, ?_, freeze, spent, fits, ?_⟩
  · change e.link.report (.race e.race .running cause event r.clock.value e.source) = _
    rw [link, race, source]
    rfl
  · refine (work.andSame (u := e.raceNote .running cause event r.clock.value) (by rfl) (by rfl) (by rfl)).congr (fun _ => rfl) ?_
    simp

/-- The marks of display row 1 when a running race is closed. -/
theorem State.marksClockRow_of_close {r : State} (running : s.race = .running) (clock : r.clock = s.clock)
    (starts : s.FreezeStarts t → r.board.spent = true)
    (stays : ¬ s.FreezeStarts t → r.board.spent = s.board.spent ∧ r.board.freeze = s.board.freeze)
    (held : t.clock.phase = .held) (freeze : t.board.freeze = none) (spent : t.board.spent = r.board.spent) :
    s.FreezeStarts t ∨ r.board.freeze ≠ none ∨ r.clock.phase ≠ .held ↔ s.MarksClockRow t := by
  have going : s.race.over = false := by rw [running]; rfl
  unfold State.MarksClockRow
  rw [held, freeze, spent, clock, going]
  by_cases on : s.FreezeStarts t
  · exact iff_of_true (.inl on) (.inr (.inr (.inl ⟨on.2.2.1, starts on⟩)))
  · obtain ⟨same, frozen⟩ := stays on
    rw [same, frozen]
    cases s.board.spent <;> simp [on, or_comm]

theorem State.closeRace_eq (program : s.program = some p) (cause : RaceCause) :
    s.closeRace cause = (s.lanesClosed p).rerank.halted cause p.eventId := by
  have event : s.eventId = p.eventId := by
    unfold State.eventId
    rw [program]
  have clock : (s.lanesClosed p).rerank.clock = s.clock :=
    (State.rerank_frame _).clock.trans (s.lanesClosed_closes p).only.clock
  have is : s.closeRace cause = ((s.lanesClosed p).rerank.enter .complete { s.clock with phase := .held }).raceNote .running cause
      s.eventId s.clock.value := by
    unfold State.closeRace
    dsimp only
    split
    · next q found =>
      cases program.symm.trans found
      rfl
    · next found => cases program.symm.trans found
  rw [is, event, State.halted, clock]

theorem State.closeRace_closes (program : s.program = some p) (running : s.race = .running) (cause : RaceCause) :
    s.ClosesRace p cause (s.closeRace cause) := by
  have keeps := (s.closeRace_contained cause).eventKeeps (s.closeRace_frame cause)
  have closes := s.lanesClosed_closes p
  rw [State.closeRace_eq program] at keeps ⊢
  generalize s.lanesClosed p = u at *
  have kept := u.rerank_frame
  have fit := u.rerank_ranksFit
  have lamps := u.rerank_lampsFollow (closes.only.program.trans program)
  have ports := u.rerank_portsButLamps
  have notes := u.rerank_link
  have ranked := u.rerank_boardWork
  have changes (m : Lane) := u.mem_placeChanges (l := m)
  have maps := u.rerank_mapFits
  have still := State.headChanges_of_running (closes.only.race.trans running)
  have amend : u.rerank.results.amend = u.results.amend := by rw [State.rerank_results]
  generalize u.rerank = r at *
  have halts := r.halted_halts cause p.eventId
  generalize r.halted cause p.eventId = t at *
  have clock : r.clock = s.clock := kept.clock.trans closes.only.clock
  have source : r.source = s.source := kept.source.trans closes.only.source
  have ranksContext (l : Lane) : r.context l = u.context l := congrArg (fun lanes : Vector LaneContext 10 => lanes[l]) kept.lanes
  have context (l : Lane) : t.context l = u.context l :=
    (congrArg (fun lanes : Vector LaneContext 10 => lanes[l]) halts.lanes).trans (ranksContext l)
  have channel (side : PoolEnd) (l : Lane) : t.channel side l = u.channel side l := by
    unfold State.channel State.sampler
    rw [halts.samplers, kept.samplers]
  have note : t.rankNote = r.rankNote := by
    unfold State.rankNote
    simp only [halts.results, context, ranksContext]
  have freezes : s.FreezeStarts t ↔ s.FreezeStarts u := by
    unfold State.FreezeStarts
    simp only [context]
  have starts (on : s.FreezeStarts t) : r.board.spent = true := kept.board_spent.trans (closes.starts (freezes.1 on))
  have stays (off : ¬ s.FreezeStarts t) : r.board.spent = s.board.spent ∧ r.board.freeze = s.board.freeze := by
    rw [kept.board_spent, kept.board_freeze]
    exact closes.stays fun on => off (freezes.2 on)
  have moved : t.race ≠ s.race := by
    rw [halts.race, running]
    exact nofun
  refine ⟨⟨halts.race, by rw [halts.clock, clock], fun l inRace => ?_, fun l inRace => ?_, fun l outside => (context l).trans (closes.others l outside),
      fun side l => (channel side l).trans (closes.channel side l), (halts.program.trans kept.program).trans closes.only.program,
      halts.source.trans source, (halts.log.trans kept.log).trans closes.only.log,
      (halts.takeoffs.trans kept.takeoffs).trans closes.only.takeoffs, ?_⟩,
    (halts.overrun.trans kept.overrun).trans closes.only.overrun,
    (State.keepsRanking_of_same halts.lanes halts.results).ranksFit fit, ?_, ?_,
    ⟨?_, fun _ => halts.freeze, fun on => ⟨halts.spent.trans (starts on), fun same => absurd same moved⟩,
      fun off => ⟨halts.spent.trans (stays off).1, fun same => absurd same moved⟩⟩, keeps, ?_⟩
  · obtain ⟨d, does, is⟩ := closes.here l inRace
    rw [context, is]
    exact does.closedFrom
  · obtain ⟨d, does, is⟩ := closes.here l inRace
    rw [context, is]
    obtain ⟨legs, judgements, reaction, source⟩ := d.closeStatus_keeps
    exact ⟨legs.trans does.legs, judgements.trans does.judgements, reaction.trans does.reaction, source.trans does.source⟩
  · unfold State.PortsButLamps at ports ⊢
    rw [closes.only.ports] at ports
    rw [halts.ports]
    exact ports
  · rw [halts.results, amend, closes.only.results]
  · unfold State.LampsFollow at lamps ⊢
    rw [closes.only.ports, closes.only.results] at lamps
    rw [halts.ports, halts.results]
    exact lamps
  · have inside (l : Lane) : u.inRace l = s.inRace l := by
      unfold State.inRace
      rw [closes.only.program]
    have showsRanked : s.BoardWork r (s.autoChanged t) (s.FreezeStarts t) := by
      refine (closes.board.trans ranked (fun _ => .inl closes.only.board_map) fun l writes late => ?_).congr (fun l => ?_)
        ((or_iff_left still).trans freezes.symm)
      · have inRace : s.inRace l = true := by
          cases outside : p.inRace l with
          | true => rw [State.inRace, program, ← outside]
          | false =>
            rw [closes.others l outside] at writes
            simp [needsAuto] at writes
        have place : u.results.places[l] = r.results.places[l] := by
          by_contra differs
          exact absurd ((changes l).2 ⟨(inside l).trans inRace, differs⟩) (of_decide_eq_false late)
        intro y x old
        rw [ranksContext, place]
      · have changed : s.autoChanged t l =
            (needsAuto (s.context l) (t.context l) || s.inRace l && s.results.places[l] != t.results.places[l]) := rfl
        rw [changed, context]
        refine congrArg _ (Bool.eq_iff_iff.2 ?_)
        rw [decide_eq_true_iff, changes, inside, closes.only.results, halts.results, Bool.and_eq_true_iff, bne_iff_ne]
    have going : ¬ (s.race = .complete ∨ s.race = .official) := by rw [running]; decide
    have map (fit : s.MapFits) : r.board.map = s.board.map := by
      refine maps.trans (Eq.trans ?_ fit.symm)
      refine State.mapNow_of_unended going ?_
      rw [kept.race, closes.only.race]
      exact going
    have rows := showsRanked.rows.trans halts.board.rows halts.board.layout fun m _ _ => State.sameFields_of_eq halts.lanes halts.results m
    exact State.boardShows_of_fit (rows.congr fun m => (Bool.or_false _).symm)
      (fun fit => showsRanked.andQuiet halts.board (fun _ => .inl (map fit)) halts.lanes halts.results) (fun _ => halts.mapFits)
      (State.marksClockRow_of_close running clock starts stays (congrArg Clock.phase halts.clock) halts.freeze halts.spent)
  · rw [halts.link, notes, closes.link, clock, source, ← Link.reported_append, ← Link.reported_append, State.closeNotes, note]
    rfl

/-! #### The rows -/

theorem exec_raceClose (taken : s.Takes ⟨kindRaceClose, []⟩) : exec (.raceClose []) s = .next (if s.race = .running then
    (s.dropInbound.closeRace .close).answer kindRaceClose .done [] else s.replied kindRaceClose .badState []) :=
  congrArg Host.Outcome.next (State.take_owner _ taken rfl)

theorem State.saturated_iff : s.saturated = true ↔ s.race = .running ∧ s.clock.value = 35999999 := by
  unfold State.saturated
  rw [Bool.and_eq_true_iff, decide_eq_true_iff, decide_eq_true_iff]
  rfl

/-- The clock-overrun fault raised, with its FAULT_NOTE (R30). -/
def State.overrunRaised (s : State) : State := { s with overrun := true, link := s.link.reported [.fault .clockOverrun true] }

theorem exec_clockSaturation (free : s.resetHeld = false) (running : s.race = .running) (full : s.clock.value = 35999999) :
    exec .clockSaturation s = .next (s.overrunRaised.closeRace .overrun) :=
  congrArg Host.Outcome.next ((State.unlessHeld_of_free _ free).trans (if_pos (State.saturated_iff.2 ⟨running, full⟩)))

theorem exec_clockSaturation_of_none (none_ : s.race ≠ .running ∨ s.clock.value ≠ 35999999) : exec .clockSaturation s = .next s := by
  have short : ¬ s.saturated = true := fun full =>
    none_.elim (fun h => h (State.saturated_iff.1 full).1) fun h => h (State.saturated_iff.1 full).2
  change Host.Outcome.next (if s.resetHeld then s else if s.saturated then s.saturate else s) = _
  rw [if_neg short, ite_self]

end

/-- Settles O23: a close is `State.closeRace`, after the fault of a saturation. -/
theorem raceClosed : Obligations.RaceClosed := by
  refine ⟨fun s p program running => ⟨fun taken => ?_, fun free full => ?_⟩, fun s taken other => ?_,
    fun s short => exec_clockSaturation_of_none short⟩
  · have row := exec_raceClose taken
    rw [if_pos running] at row
    have does := State.closeRace_closes (s := s.dropInbound) program running .close
    generalize s.dropInbound.closeRace .close = t at *
    obtain ⟨-, -, -, -, -, -, -, -, -, takeoffs, -⟩ := does.closed
    exact ⟨_, row, does.closed, does.overrun, does.ranks, does.amend, does.lamps, does.follows, does.keeps.answer takeoffs _ _ _, State.answer_reported does.link _ _ _⟩
  · have row := exec_clockSaturation free running full
    have does := State.closeRace_closes (s := s.overrunRaised) program running .overrun
    generalize s.overrunRaised.closeRace .overrun = t at *
    obtain ⟨pending, held, zeroing, board, samplers, link⟩ := does.keeps
    refine ⟨t, row, does.closed, does.overrun, does.ranks, does.amend, does.lamps, does.follows,
      ⟨pending, held, zeroing, board, samplers, (Link.reported_sameButReports _ _).trans link⟩, ?_⟩
    exact does.link
  · rw [exec_raceClose taken, if_neg other]

end Sys2Proof.Machine
